-- ==== Sys2Proof/Word.lean ====
section
/-! DEFINITION. The byte and word types in which the manual numbers the fields of frames, records and requests
(spec/00_scope.md section 4.6: multi-byte fields are little-endian, signed fields two's complement). -/

namespace Sys2Proof

/-- One byte of a frame, a record, a request or the take memory. -/
abbrev Byte := BitVec 8

/-- A 16-bit field (a cycle number, a take number, a length). -/
abbrev Half := BitVec 16

/-- A 32-bit field (a slot value, a timecode, a CRC, the part counter). -/
abbrev Word := BitVec 32

end Sys2Proof
end

