-- ==== Sys2Proof/Machine/Bytes.lean ====
section
/-! DEFINITION. Little-endian byte strings, read and written (00_scope.md section 4.6; chapter 10 section 10.6). -/

namespace Sys2Proof.Machine

/-- Byte `i` of a string, 0 beyond its end. -/
def byteAt (bs : List Byte) (i : Nat) : Byte := bs.getD i 0

/-- The 16-bit field at byte `i`, its low byte first. -/
def halfAt (bs : List Byte) (i : Nat) : Half := byteAt bs (i + 1) ++ byteAt bs i

/-- The 32-bit field at byte `i`, its low byte first. -/
def wordAt (bs : List Byte) (i : Nat) : Word :=
  byteAt bs (i + 3) ++ (byteAt bs (i + 2) ++ (byteAt bs (i + 1) ++ byteAt bs i))

/-- `n` bytes from byte `i` on. -/
def bytesAt (bs : List Byte) (i n : Nat) : List Byte := (List.range n).map fun k => byteAt bs (i + k)

/-- The two bytes of a 16-bit field. -/
def le16 (h : Half) : List Byte := [h.extractLsb' 0 8, h.extractLsb' 8 8]

/-- The four bytes of a 32-bit field. -/
def le32 (w : Word) : List Byte :=
  [w.extractLsb' 0 8, w.extractLsb' 8 8, w.extractLsb' 16 8, w.extractLsb' 24 8]

/-- A count in one byte. -/
def u8 (n : Nat) : List Byte := [BitVec.ofNat 8 n]

/-- A count in two bytes. -/
def u16 (n : Nat) : List Byte := le16 (BitVec.ofNat 16 n)

/-- A count in four bytes. -/
def u32 (n : Nat) : List Byte := le32 (BitVec.ofNat 32 n)

/-- A signed quantity in two bytes. -/
def i16 (x : Int) : List Byte := le16 (BitVec.ofInt 16 x)

/-- A signed quantity in four bytes. -/
def i32 (x : Int) : List Byte := le32 (BitVec.ofInt 32 x)

/-- A flag in one byte, 1 when set (log entry 11). -/
def flagByte (b : Bool) : List Byte := [if b then 1 else 0]

/-- An optional item (R190): a presence byte, then the item, whose bytes are 0 when it is absent. -/
def optBytes {α : Type} (width : Nat) (code : α → List Byte) : Option α → List Byte
  | none => 0 :: List.replicate width 0
  | some a => 1 :: code a

end Sys2Proof.Machine
end

