-- ==== Sys2Proof/Syntax.lean ====
section
/-! DEFINITION. The commands of the TC-12, one constructor per row of spec/opcode_table.json: the service requests
with their tag and their parameters in the byte order of section 10.4, then the events of the link, the lines, the
memory and the part's own timers. -/

namespace Sys2Proof

/-- The two ports of the axis link (R165, codes in R192). -/
inductive PortId where
  | c | d
deriving DecidableEq, Repr

/-- The three kinds of error a port counts (R168). -/
inductive ErrKind where
  | symbol | crc | sequence
deriving DecidableEq, Repr

/-- The level of a discrete line with how long it has held, in µs: R202 takes every line through a filter. -/
structure LineSample where
  asserted : Bool
  heldFor : Nat
deriving DecidableEq, Repr

/-- How a word of the take memory reads (R111). -/
inductive WordClass where
  | clean | single | double
deriving DecidableEq, Repr, Inhabited

/-- One word that the external take memory gives back otherwise than as it was written: its word address, and a 1 for
each of its 64 data bits and 8 check bits that comes back inverted (R110, R111). -/
structure WordRead where
  address : Nat
  data : BitVec 64
  check : Byte
deriving DecidableEq, Repr

/-- The commands. A request's `tag` is the tag byte of its service field (R181). `elapsed` is the time in µs since the
free-running timer was last read, `clean` says that no code group of the frame was invalid (R167), `bytes` are the
bytes of the frame as taken in. `errors` are the words disturbed in a read of the take memory, `differ` the word addresses
at which a format's read finds what another address holds, whole: each such word reads CLEAN and differs from its
pattern (R117). -/
inductive Instr where
  | identify (tag : Byte)
  | readStatusCrane (tag index page : Byte)
  | readStatusChannel (tag index page : Byte)
  | readStatusPort (tag index page : Byte)
  | readStatusSafety (tag index page : Byte)
  | readStatusFaultRecord (tag index page : Byte)
  | readStatusCaptureRecord (tag index page : Byte)
  | readStatusMemory (tag index page : Byte)
  | readStatusDirectoryEntry (tag index page : Byte)
  | readStatusPlayStatus (tag index page : Byte)
  | readStatusSelfCheck (tag index page : Byte)
  | readStatusLensChannel (tag index page : Byte)
  | readStatusLastReply (tag index page : Byte)
  | setChannel (tag channel cls role kind : Byte) (posMin posMax velMax : Word) (accMax stopAcc : Half)
      (followLimit catchWindow cueTolerance : Word) (calibSpeed : Half)
  | setSource (tag : Byte) (mask : Half) (source : Byte)
  | stageWrite (tag : Byte) (offset : Half) (bytes : List Byte)
  | commitGeometry (tag channel : Byte) (length : Half) (crc : Word)
  | commitZoneShadow (tag channel : Byte) (length : Half) (crc : Word)
  | commitLensMap (tag channel : Byte) (length : Half) (crc : Word)
  | zoneSwap (tag : Byte)
  | arm (tag : Byte)
  | park (tag : Byte)
  | stop (tag : Byte)
  | resume (tag : Byte)
  | releaseFault (tag : Byte)
  | setStop (tag : Byte) (limit : Half)
  | setLink (tag port threshold faultMask wrapSymbol wrapCrc wrapSequence autoClear : Byte) (portTimer : Half)
  | clearCounters (tag port kinds : Byte)
  | setSync (tag cyclesPerFrame syncRequired : Byte)
  | record (tag : Byte) (take mask : Half)
  | recordEnd (tag : Byte)
  | mark (tag : Byte)
  | cue (tag : Byte) (take : Half) (markNumber : Byte)
  | setTrigger (tag kind : Byte) (timecode : Word) (cueScale : Half)
  | go (tag : Byte)
  | abortPlay (tag : Byte)
  | deleteTake (tag : Byte) (take : Half)
  | format (tag : Byte)
  | releaseMemoryError (tag : Byte)
  | setMemory (tag reportSingles : Byte)
  | lensCalibrate (tag channel : Byte)
  | setEmbed (tag mask : Byte)
  | armCapture (tag kind channel : Byte) (value : Word) (direction scope : Byte)
  | releaseCapture (tag : Byte)
  | softReset (tag : Byte)
  | consoleFrameArrival (elapsed : Nat) (clean : Bool) (bytes : List Byte)
  | outboundFrameSent (elapsed : Nat)
  | returnArrival (elapsed : Nat) (crew : Vector LineSample 4) (clean : Bool) (bytes : List Byte)
  | crewLineRelease (line : Fin 4)
  | returnTimeout
  | feedbackLost
  | consoleSilenceTimeout
  | substPeriodElapsed
  | codeGroupReceived (port : PortId) (valid : Bool)
  | linkFault (port : PortId) (kind : ErrKind)
  | stopTimeout
  | calibrationTimeLimit (channel : Fin 12)
  | playbackData
  | armingDecision
  | refPulse (heldFor : Nat)
  | flywheelFrameStart
  | refLost
  | triggerEdge (heldFor : Nat)
  | estopInOpen (heldFor : Nat)
  | supplyWarnChange (level : LineSample)
  | supplyFailAssert (heldFor : Nat)
  | pinReset (heldFor : Nat)
  | formatBlockTested (errors : List WordRead) (differ : List Nat)
  | prefetchReadComplete (errors : List WordRead)
  | estopInClose (heldFor : Nat)
  | supplyFailDeassert (heldFor : Nat)
deriving DecidableEq, Repr

end Sys2Proof
end

