-- ==== Sys2Proof/WellFormed.lean ====
section
/-! DEFINITION. Which commands a sender may form: a request carries a tag of 1 to 255 (R181), a STAGE_WRITE carries at
most 32 bytes (R183), and a memory report names each word once, in ascending address (R112). -/

namespace Sys2Proof

/-- The tag of a request, `none` for an event. -/
def Instr.tag? : Instr → Option Byte
  | .identify t => some t
  | .readStatusCrane t _ _ => some t
  | .readStatusChannel t _ _ => some t
  | .readStatusPort t _ _ => some t
  | .readStatusSafety t _ _ => some t
  | .readStatusFaultRecord t _ _ => some t
  | .readStatusCaptureRecord t _ _ => some t
  | .readStatusMemory t _ _ => some t
  | .readStatusDirectoryEntry t _ _ => some t
  | .readStatusPlayStatus t _ _ => some t
  | .readStatusSelfCheck t _ _ => some t
  | .readStatusLensChannel t _ _ => some t
  | .readStatusLastReply t _ _ => some t
  | .setChannel t _ _ _ _ _ _ _ _ _ _ _ _ _ => some t
  | .setSource t _ _ => some t
  | .stageWrite t _ _ => some t
  | .commitGeometry t _ _ _ => some t
  | .commitZoneShadow t _ _ _ => some t
  | .commitLensMap t _ _ _ => some t
  | .zoneSwap t => some t
  | .arm t => some t
  | .park t => some t
  | .stop t => some t
  | .resume t => some t
  | .releaseFault t => some t
  | .setStop t _ => some t
  | .setLink t _ _ _ _ _ _ _ _ => some t
  | .clearCounters t _ _ => some t
  | .setSync t _ _ => some t
  | .record t _ _ => some t
  | .recordEnd t => some t
  | .mark t => some t
  | .cue t _ _ => some t
  | .setTrigger t _ _ _ => some t
  | .go t => some t
  | .abortPlay t => some t
  | .deleteTake t _ => some t
  | .format t => some t
  | .releaseMemoryError t => some t
  | .setMemory t _ => some t
  | .lensCalibrate t _ => some t
  | .setEmbed t _ => some t
  | .armCapture t _ _ _ _ _ => some t
  | .releaseCapture t => some t
  | .softReset t => some t
  | .consoleFrameArrival _ _ _ => none
  | .outboundFrameSent _ => none
  | .returnArrival _ _ _ _ => none
  | .crewLineRelease _ => none
  | .returnTimeout => none
  | .feedbackLost => none
  | .consoleSilenceTimeout => none
  | .substPeriodElapsed => none
  | .codeGroupReceived _ _ => none
  | .linkFault _ _ => none
  | .stopTimeout => none
  | .calibrationTimeLimit _ => none
  | .playbackData => none
  | .armingDecision => none
  | .refPulse _ => none
  | .flywheelFrameStart => none
  | .refLost => none
  | .triggerEdge _ => none
  | .estopInOpen _ => none
  | .supplyWarnChange _ => none
  | .supplyFailAssert _ => none
  | .pinReset _ => none
  | .formatBlockTested _ _ => none
  | .prefetchReadComplete _ => none
  | .estopInClose _ => none
  | .supplyFailDeassert _ => none

/-- R181: a tag of 0 carries no request. -/
def tagOk (i : Instr) : Bool := i.tag? != some 0

/-- R183: the byte count of a STAGE_WRITE does not exceed 32. -/
def stageOk : Instr → Bool
  | .stageWrite _ _ bytes => decide (bytes.length ≤ 32)
  | _ => true

/-- R112: the words of one read are offered in ascending word address. -/
def reportOk : Instr → Bool
  | .formatBlockTested errors _ => decide ((errors.map WordRead.address).Pairwise (· < ·))
  | .prefetchReadComplete errors => decide ((errors.map WordRead.address).Pairwise (· < ·))
  | _ => true

/-- A command that a sender may form. -/
def Instr.wellFormed (i : Instr) : Bool := tagOk i && stageOk i && reportOk i

end Sys2Proof
end

