-- ==== Sys2Proof/Decode.lean ====
section
/-! DEFINITION. Reading a command. The rows of the opcode table give no bits, so no table word spells a command; what the
part itself reads is the service field of a console frame (R181, R183, section 10.4), and here stand its decoder and its
encoder. -/

namespace Sys2Proof

/-- The command a word spells by the table's bits: none, since no row of the table gives bits. -/
def decodeTableWord (_nbits _w : Nat) : Option Instr := none

namespace Machine

/-! ## The service field -/

/-- Why a service field with a tag spells no request: the three form failures of R183 in their order, and a READ_STATUS
selector or a COMMIT target outside its set (R188, R189). -/
inductive Reject where
  | tooLong | unknownCode | wrongLength | badSelector | badTarget
deriving DecidableEq, Repr

/-- What a service field holds. -/
inductive Decoded where
  | nothing
  | command (i : Instr)
  | rejected (tag code : Byte) (why : Reject)
deriving DecidableEq, Repr

/-- Whether a code stands in the request code table (section 10.4). -/
def knownCode (code : Nat) : Bool :=
  [0x01, 0x02, 0x10, 0x11, 0x18, 0x19, 0x1A, 0x20, 0x21, 0x22, 0x23, 0x24, 0x25, 0x28, 0x29, 0x2A, 0x30, 0x31, 0x32,
    0x34, 0x35, 0x36, 0x37, 0x38, 0x39, 0x3A, 0x3B, 0x40, 0x44, 0x48, 0x49, 0x7F].contains code

/-- The parameter length the table gives a code (section 10.4); `count` is a STAGE_WRITE's byte count. -/
def paramLength (code count : Nat) : Nat :=
  match code with
  | 0x02 => 3
  | 0x10 => 34
  | 0x11 => 3
  | 0x18 => 3 + count
  | 0x19 => 8
  | 0x25 => 2
  | 0x28 => 9
  | 0x29 => 2
  | 0x2A => 2
  | 0x30 => 4
  | 0x34 => 3
  | 0x35 => 7
  | 0x38 => 2
  | 0x3B => 1
  | 0x40 => 1
  | 0x44 => 1
  | 0x48 => 8
  | _ => 0

/-- A READ_STATUS by its selector (R189). -/
def decodeSelector (tag sel index page : Byte) : Option Instr :=
  match sel.toNat with
  | 0 => some (.readStatusCrane tag index page)
  | 1 => some (.readStatusChannel tag index page)
  | 2 => some (.readStatusPort tag index page)
  | 3 => some (.readStatusSafety tag index page)
  | 4 => some (.readStatusFaultRecord tag index page)
  | 5 => some (.readStatusCaptureRecord tag index page)
  | 6 => some (.readStatusMemory tag index page)
  | 7 => some (.readStatusDirectoryEntry tag index page)
  | 8 => some (.readStatusPlayStatus tag index page)
  | 9 => some (.readStatusSelfCheck tag index page)
  | 10 => some (.readStatusLensChannel tag index page)
  | 11 => some (.readStatusLastReply tag index page)
  | _ => none

/-- A COMMIT by its target (R188). -/
def decodeTarget (tag target channel : Byte) (length : Half) (crc : Word) : Option Instr :=
  match target.toNat with
  | 0 => some (.commitGeometry tag channel length crc)
  | 1 => some (.commitZoneShadow tag channel length crc)
  | 2 => some (.commitLensMap tag channel length crc)
  | _ => none

/-- A request that stands in the set, or its rejection. -/
def orReject (tag code : Byte) (why : Reject) : Option Instr → Decoded
  | some i => .command i
  | none => .rejected tag code why

/-- The request of a service field whose tag is not 0 and whose form is correct; its parameters begin at byte 3
(sections 10.4 and 10.6). -/
def decodeParams (f : List Byte) : Decoded :=
  let t := byteAt f 0
  match (byteAt f 1).toNat with
  | 0x01 => .command (.identify t)
  | 0x02 => orReject t (byteAt f 1) .badSelector (decodeSelector t (byteAt f 3) (byteAt f 4) (byteAt f 5))
  | 0x10 =>
    .command (.setChannel t (byteAt f 3) (byteAt f 4) (byteAt f 5) (byteAt f 6) (wordAt f 7) (wordAt f 11)
      (wordAt f 15) (halfAt f 19) (halfAt f 21) (wordAt f 23) (wordAt f 27) (wordAt f 31) (halfAt f 35))
  | 0x11 => .command (.setSource t (halfAt f 3) (byteAt f 5))
  | 0x18 => .command (.stageWrite t (halfAt f 3) (bytesAt f 6 (byteAt f 5).toNat))
  | 0x19 =>
    orReject t (byteAt f 1) .badTarget (decodeTarget t (byteAt f 3) (byteAt f 4) (halfAt f 5) (wordAt f 7))
  | 0x1A => .command (.zoneSwap t)
  | 0x20 => .command (.arm t)
  | 0x21 => .command (.park t)
  | 0x22 => .command (.stop t)
  | 0x23 => .command (.resume t)
  | 0x24 => .command (.releaseFault t)
  | 0x25 => .command (.setStop t (halfAt f 3))
  | 0x28 =>
    .command (.setLink t (byteAt f 3) (byteAt f 4) (byteAt f 5) (byteAt f 6) (byteAt f 7) (byteAt f 8) (byteAt f 9)
      (halfAt f 10))
  | 0x29 => .command (.clearCounters t (byteAt f 3) (byteAt f 4))
  | 0x2A => .command (.setSync t (byteAt f 3) (byteAt f 4))
  | 0x30 => .command (.record t (halfAt f 3) (halfAt f 5))
  | 0x31 => .command (.recordEnd t)
  | 0x32 => .command (.mark t)
  | 0x34 => .command (.cue t (halfAt f 3) (byteAt f 5))
  | 0x35 => .command (.setTrigger t (byteAt f 3) (wordAt f 4) (halfAt f 8))
  | 0x36 => .command (.go t)
  | 0x37 => .command (.abortPlay t)
  | 0x38 => .command (.deleteTake t (halfAt f 3))
  | 0x39 => .command (.format t)
  | 0x3A => .command (.releaseMemoryError t)
  | 0x3B => .command (.setMemory t (byteAt f 3))
  | 0x40 => .command (.lensCalibrate t (byteAt f 3))
  | 0x44 => .command (.setEmbed t (byteAt f 3))
  | 0x48 => .command (.armCapture t (byteAt f 3) (byteAt f 4) (wordAt f 5) (byteAt f 9) (byteAt f 10))
  | 0x49 => .command (.releaseCapture t)
  | 0x7F => .command (.softReset t)
  | _ => .rejected t (byteAt f 1) .unknownCode

/-- The service field of a console frame read (R181, R183). -/
def decodeService (f : List Byte) : Decoded :=
  let t := byteAt f 0
  let code := byteAt f 1
  let length := (byteAt f 2).toNat
  let count := (byteAt f 5).toNat
  if t = 0 then .nothing
  else if 37 < length then .rejected t code .tooLong
  else if knownCode code.toNat = false then .rejected t code .unknownCode
  else if length ≠ paramLength code.toNat count ∨ (code = 0x18 ∧ 32 < count) then .rejected t code .wrongLength
  else decodeParams f

/-! ## The encoder -/

/-- The code and the parameters of a request (section 10.4), none for an event. -/
def encodeParams : Instr → Option (Byte × List Byte)
  | .identify _ => some (0x01, [])
  | .readStatusCrane _ i p => some (0x02, [0, i, p])
  | .readStatusChannel _ i p => some (0x02, [1, i, p])
  | .readStatusPort _ i p => some (0x02, [2, i, p])
  | .readStatusSafety _ i p => some (0x02, [3, i, p])
  | .readStatusFaultRecord _ i p => some (0x02, [4, i, p])
  | .readStatusCaptureRecord _ i p => some (0x02, [5, i, p])
  | .readStatusMemory _ i p => some (0x02, [6, i, p])
  | .readStatusDirectoryEntry _ i p => some (0x02, [7, i, p])
  | .readStatusPlayStatus _ i p => some (0x02, [8, i, p])
  | .readStatusSelfCheck _ i p => some (0x02, [9, i, p])
  | .readStatusLensChannel _ i p => some (0x02, [10, i, p])
  | .readStatusLastReply _ i p => some (0x02, [11, i, p])
  | .setChannel _ ch cls role kind lo hi vel acc stop follow window cue calib =>
    some (0x10,
      ch :: cls :: role :: kind :: (le32 lo ++ (le32 hi ++ (le32 vel ++ (le16 acc ++ (le16 stop ++
        (le32 follow ++ (le32 window ++ (le32 cue ++ le16 calib)))))))))
  | .setSource _ mask src => some (0x11, le16 mask ++ [src])
  | .stageWrite _ offset bytes => some (0x18, le16 offset ++ (u8 bytes.length ++ bytes))
  | .commitGeometry _ ch length crc => some (0x19, 0 :: ch :: (le16 length ++ le32 crc))
  | .commitZoneShadow _ ch length crc => some (0x19, 1 :: ch :: (le16 length ++ le32 crc))
  | .commitLensMap _ ch length crc => some (0x19, 2 :: ch :: (le16 length ++ le32 crc))
  | .zoneSwap _ => some (0x1A, [])
  | .arm _ => some (0x20, [])
  | .park _ => some (0x21, [])
  | .stop _ => some (0x22, [])
  | .resume _ => some (0x23, [])
  | .releaseFault _ => some (0x24, [])
  | .setStop _ limit => some (0x25, le16 limit)
  | .setLink _ port threshold mask a b c auto timer =>
    some (0x28, [port, threshold, mask, a, b, c, auto] ++ le16 timer)
  | .clearCounters _ port kinds => some (0x29, [port, kinds])
  | .setSync _ cycles required => some (0x2A, [cycles, required])
  | .record _ take mask => some (0x30, le16 take ++ le16 mask)
  | .recordEnd _ => some (0x31, [])
  | .mark _ => some (0x32, [])
  | .cue _ take mark => some (0x34, le16 take ++ [mark])
  | .setTrigger _ kind timecode scale => some (0x35, kind :: (le32 timecode ++ le16 scale))
  | .go _ => some (0x36, [])
  | .abortPlay _ => some (0x37, [])
  | .deleteTake _ take => some (0x38, le16 take)
  | .format _ => some (0x39, [])
  | .releaseMemoryError _ => some (0x3A, [])
  | .setMemory _ singles => some (0x3B, [singles])
  | .lensCalibrate _ ch => some (0x40, [ch])
  | .setEmbed _ mask => some (0x44, [mask])
  | .armCapture _ kind ch value direction scope => some (0x48, kind :: ch :: (le32 value ++ [direction, scope]))
  | .releaseCapture _ => some (0x49, [])
  | .softReset _ => some (0x7F, [])
  | .consoleFrameArrival _ _ _ => none
  | .outboundFrameSent _ => none
  | .returnArrival _ _ _ _ => none
  | .crewLineRelease _ => none
  | .returnTimeout => none
  | .feedbackLost => none
  | .consoleSilenceTimeout => none
  | .substPeriodElapsed => none
  | .codeGroupReceived _ _ => none
  | .linkFault _ _ => none
  | .stopTimeout => none
  | .calibrationTimeLimit _ => none
  | .playbackData => none
  | .armingDecision => none
  | .refPulse _ => none
  | .flywheelFrameStart => none
  | .refLost => none
  | .triggerEdge _ => none
  | .estopInOpen _ => none
  | .supplyWarnChange _ => none
  | .supplyFailAssert _ => none
  | .pinReset _ => none
  | .formatBlockTested _ _ => none
  | .prefetchReadComplete _ => none
  | .estopInClose _ => none
  | .supplyFailDeassert _ => none

/-- The 40 bytes of a service field that carries a request (section 10.6), the bytes beyond its parameters 0. -/
def encodeService (i : Instr) : Option (List Byte) :=
  match i.tag?, encodeParams i with
  | some tag, some (code, params) =>
    some (tag :: code :: (u8 params.length ++ (params ++ List.replicate (37 - params.length) 0)))
  | _, _ => none

end Machine

end Sys2Proof
end

