-- ==== Sys2Proof/Config.lean ====
section
/-! DEFINITION. What the manual leaves to one part as built, or does not state: free values without a body, so that
nothing proved of the model leans on one of them. Each is named in a row of the assumption log. -/

namespace Sys2Proof.Config

/-- The hardware revision number that IDENTIFY returns (R186 names the byte and gives no value; log entry 7). -/
opaque hardwareRevision : Byte

/-- What a byte of the take memory holds where the part has written nothing but a format's test pattern, or nothing
at all: R117 says the pattern is derived from the word's address and does not give it (log entry 8). -/
opaque unwrittenByte : Nat → Byte

/-- The bytes of a reply's service field beyond its data (R181 gives the tag, the result, the length and the data
only), by their place in the field (log entry 9). -/
opaque replyPad : Nat → Byte

/-- The bytes of a SUBST frame's service field after its tag 0 (R172; log entry 9). -/
opaque substServicePad : Nat → Byte

/-- The flag byte with which the slot of an UNUSED channel starts in a SUBST frame: R172 records slot values only
(log entry 9). -/
opaque substSlotFlags : Nat → Byte

/-- The low four bits of a STALE slot's flag byte in a constructed return: R177 gives the value and the status
(log entry 9). -/
opaque staleSlotLow : Nat → BitVec 4

/-- The channel byte of the self-check detail when the item found concerns no one channel (R194 item 1;
log entry 10). -/
opaque selfCheckNoChannel : Byte

/-- The 8 check bits that go with 64 data bits in a word of the take memory: R110 gives the power of the code and not
the code (log entry 20). -/
opaque checkBits : BitVec 64 → Byte

/-- The syndrome of a word that reads SINGLE or DOUBLE, by the data bits and the check bits as read (R111; log
entry 20). -/
opaque syndrome : BitVec 64 → Byte → Byte

/-- How a word reads in which more than two bits are disturbed, by the data bits and the check bits as read: R111 gives
the classes of one and of two (log entry 20). -/
opaque wideError : BitVec 64 → Byte → WordClass

/-- The data that a read hands on where R111 gives none, by the data bits and the check bits as read: of a DOUBLE word,
and of a word in which more than two bits are disturbed and which reads SINGLE (log entry 20). -/
opaque unusableData : BitVec 64 → Byte → BitVec 64

/-- Whether the LIMIT_HIT cause of the outbound frame of a part counter value is taken before that frame's record is
appended: R139 allows either order (log entry 22). -/
opaque limitHitBeforeAppend : Word → Bool

end Sys2Proof.Config
end

