-- ==== Sys2Proof/Machine/Arith.lean ====
section
/-! DEFINITION. The arithmetic of 00_scope.md section 4.5: exact integers, with each rounding named. -/

namespace Sys2Proof.Machine

/-- `x` clamped into [lo, hi]: replaced by lo if below lo, by hi if above hi (section 4.5). -/
def clamp (lo hi x : Int) : Int := if x < lo then lo else if hi < x then hi else x

/-- sign(x): −1, 0 or +1 (section 4.5). -/
def sgn (x : Int) : Int := if x < 0 then -1 else if x = 0 then 0 else 1

/-- round(num / den), a half away from zero: the magnitude is rounded, then the sign is applied (section 4.5). -/
def roundDiv (num den : Int) : Int :=
  sgn num * sgn den * (((2 * num.natAbs + den.natAbs) / (2 * den.natAbs) : Nat) : Int)

/-- ceil(n / d) for natural numbers (section 4.5). -/
def ceilDiv (n d : Nat) : Nat := (n + d - 1) / d

/-- One digit of `isqrt` from bit `b` down: the greatest root with the bits above already fixed in `r`. -/
def isqrtFrom (n : Nat) : Nat → Nat → Nat
  | 0, r => r
  | b + 1, r => if (r + 2 ^ b) * (r + 2 ^ b) ≤ n then isqrtFrom n b (r + 2 ^ b) else isqrtFrom n b r

/-- isqrt(n): the floor of the square root (section 4.5), found bit by bit. -/
def isqrt (n : Nat) : Nat := isqrtFrom n (n.log2 / 2 + 1) 0

/-- The least signed 32-bit value. -/
def int32Min : Int := -2147483648

/-- The greatest signed 32-bit value. -/
def int32Max : Int := 2147483647

/-- `x` saturating in the signed 32-bit range (section 4.5). -/
def sat32 (x : Int) : Int := clamp int32Min int32Max x

/-- A count increased by 1, held at `top` (section 4.5, saturating). -/
def satSucc (top n : Nat) : Nat := min (n + 1) top

end Sys2Proof.Machine
end

