-- ==== Sys2Proof/Machine/Crc.lean ====
section
/-! DEFINITION. The CRC-32 of frames and tables (00_scope.md section 4.6): polynomial 04C11DB7h, reflected, initial
value FFFFFFFFh, final value inverted. -/

namespace Sys2Proof.Machine

/-- One bit of the reflected division; EDB88320h is 04C11DB7h with its bits reversed. -/
def crcBit (c : Word) : Word := if c.getLsbD 0 then (c >>> 1) ^^^ 0xEDB88320#32 else c >>> 1

/-- The running CRC continued over one byte. -/
def crcByte (c : Word) (b : Byte) : Word :=
  crcBit (crcBit (crcBit (crcBit (crcBit (crcBit (crcBit (crcBit (c ^^^ b.setWidth 32))))))))

/-- The CRC-32 initial value. -/
def crcStart : Word := 0xFFFFFFFF#32

/-- A running CRC continued over a string. -/
def crcOver (c : Word) (bs : List Byte) : Word := bs.foldl crcByte c

/-- A running CRC completed with its final inversion. -/
def crcFinal (c : Word) : Word := ~~~ c

/-- The CRC-32 of a whole string. -/
def crc32 (bs : List Byte) : Word := crcFinal (crcOver crcStart bs)

end Sys2Proof.Machine
end

