-- ==== Sys2Proof/Machine/State.lean ====
section
/-! DEFINITION. The state of the TC-12, block by block as 00_scope.md section 2 lists its blocks, as plain data; its
values after pin reset; the reasons a step can stop. -/

namespace Sys2Proof.Machine

/-! ## Names of states, modes, causes, sources and results -/

/-- R193. -/
inductive CraneMode where
  | parked | arming | live
deriving DecidableEq, Repr

/-- R64. -/
inductive Safety where
  | normal | stopping | held | dropped
deriving DecidableEq, Repr

/-- The class of a channel (R1). -/
inductive ChClass where
  | unused | motion | lens
deriving DecidableEq, Repr

/-- The role of a channel (R2). -/
inductive Role where
  | none | swing | lift | reach | track | pan | tilt | roll | aux | zoom | focus | iris | lensAux
deriving DecidableEq, Repr

/-- The unit of a MOTION channel (R1). -/
inductive AxisKind where
  | rotary | linear
deriving DecidableEq, Repr

/-- The source of a channel's target (section 1.6). -/
inductive Source where
  | live | take | takeTrim | hold
deriving DecidableEq, Repr

/-- The catch state of a channel (R13). -/
inductive Catch where
  | waiting | caught
deriving DecidableEq, Repr

/-- The class of a stop cause: controlled or immediate (section 4.2). -/
inductive CauseClass where
  | c | i
deriving DecidableEq, Repr

/-- The stop causes, in the order of the table of section 4.2. -/
inductive CauseName where
  | zoneStop | consoleStop | gripReleased | consoleSilent | feedbackLost | linkFault | limitHit | playbackData
  | supplyFail | followingError | driveFault | estopChain | stopTimeout | zoneTableCorrupt
deriving DecidableEq, Repr

/-- The result of a reply (R185). -/
inductive Result where
  | ok | accepted | refusedMode | refusedBusy | refusedCondition | refusedSupply | badParam | badChecksum | notFound
  | noSpace | unknownRequest
deriving DecidableEq, Repr

/-- The state of an end-stop calibration (R98). -/
inductive CalState where
  | none | seekLow | seekHigh | done | failed
deriving DecidableEq, Repr

/-- Why a calibration ended FAILED (R98). -/
inductive CalFailure where
  | timeLimit | dropped | parked | softReset | noTravel
deriving DecidableEq, Repr

/-- Whether the active map fits a calibration result (R104). -/
inductive MapFit where
  | yes | no | noMap
deriving DecidableEq, Repr

/-- R115. -/
inductive MemState where
  | unformatted | formatting | ready
deriving DecidableEq, Repr

/-- The reader of an erroneous word (R112). -/
inductive MemReader where
  | format | playback
deriving DecidableEq, Repr

/-- The state of a directory entry (R119). -/
inductive EntryState where
  | empty | recording | complete
deriving DecidableEq, Repr

/-- The state of the video reference (R127). -/
inductive RefSync where
  | noRef | measuring | locked
deriving DecidableEq, Repr

/-- The kind of the latest outbound frame's place in the video frame (R127). -/
inductive FrameStart where
  | pulse | flywheel | none
deriving DecidableEq, Repr

/-- R132. -/
inductive RecState where
  | idle | recordArmed | recording
deriving DecidableEq, Repr

/-- R140. -/
inductive PlayState where
  | idle | cueing | cued | running | ended | aborted
deriving DecidableEq, Repr

/-- Why a playback was aborted (R149). -/
inductive AbortReason where
  | request | stop | park | data
deriving DecidableEq, Repr

/-- What starts a cued take beside GO (R140, R145). -/
inductive TriggerKind where
  | request | timecode | line
deriving DecidableEq, Repr

/-- R157. -/
inductive CaptureState where
  | idle | armed | tripped
deriving DecidableEq, Repr

/-- The kinds of capture condition (R157). -/
inductive CaptureKind where
  | outputCrosses | feedbackCrosses | takeIndex | slowEnter | timecode | anyStop
deriving DecidableEq, Repr

/-- The armed direction of a crossing (R158). -/
inductive Direction where
  | up | down | either
deriving DecidableEq, Repr

/-- The scope of a capture condition (R160). -/
inductive Scope where
  | liveOnly | playbackOnly | any
deriving DecidableEq, Repr

/-- The sync state of a port's receiver (R166). -/
inductive RxSync where
  | unsync | symbol | framed
deriving DecidableEq, Repr

/-- The kind of an outbound frame (R173). -/
inductive FrameKind where
  | cycle | subst
deriving DecidableEq, Repr

/-- One of the two zone banks (R44). -/
inductive BankId where
  | a | b
deriving DecidableEq, Repr

/-- What the next verify step reads (R61). -/
inductive Cursor where
  | header
  | zone (id : Nat)
deriving DecidableEq, Repr

/-- The result of the latest verify pass (R62). -/
inductive PassResult where
  | none | pass | mismatch
deriving DecidableEq, Repr

/-- The result of the self-check (R198). -/
inductive CheckResult where
  | none | running | passed | failed | aborted
deriving DecidableEq, Repr

/-- The mark of one arming check (R198). -/
inductive CheckMark where
  | notRun | pending | pass | fail
deriving DecidableEq, Repr

/-- The event that ended an arming (R192, R198). -/
inductive AbortEvent where
  | park | stop | softReset | followingError | driveFault | estopChain | zoneTableCorrupt
deriving DecidableEq, Repr

/-! ## Frames and replies -/

/-- One slot of a cycle frame as it is on the link (section 10.6): the flag byte (bit 0 ENABLE, bits 4–7 the drive
status) and the value. -/
structure Slot where
  flag : Byte
  value : Word
deriving DecidableEq, Repr

/-- A cycle frame without its CRC (section 10.6). -/
structure Frame where
  kind : Byte
  flags : Byte
  cycle : Half
  timecode : Word
  slots : Vector Slot 12
  service : List Byte
  tracking : List Byte
deriving DecidableEq, Repr

/-- A reply: its result and its data (R181). -/
structure Reply where
  result : Result
  data : List Byte
deriving DecidableEq, Repr

/-- What the Take Engine's placement gives a frame (R129): its phase, its frame-start kind, whether a slip was found
at it, and the sync state after it. -/
structure Placement where
  phase : Nat
  start : FrameStart
  slip : Bool
  sync : RefSync
deriving DecidableEq, Repr

/-! ## Setpoint Conditioner (chapter 1) -/

/-- A channel's descriptor (R1). -/
structure Descriptor where
  cls : ChClass
  role : Role
  kind : AxisKind
  posMin : Int
  posMax : Int
  velMax : Nat
  accMax : Nat
  stopAcc : Nat
  followLimit : Nat
  catchWindow : Nat
  cueTolerance : Nat
  calibSpeed : Nat
deriving DecidableEq, Repr

/-- The period flags of a channel (R7). -/
structure PeriodFlags where
  posClamped : Bool
  velLimited : Bool
  accLimited : Bool
  limitHit : Bool
  lensClamped : Bool
deriving DecidableEq, Repr

/-- One entry of the channel table: the descriptor and the limiter state (R7). `pendingNew` is the model's own: the
pending source was stored at the frame in hand and is due only at the next one (R19). `status` is the drive status
of the latest matched return (R196), `present` the presence that follows from it (R7, R28), and `answered` says that a
matched return has come since the latest reset, before which R6 reports every channel ABSENT (log entry 32). -/
structure Channel where
  desc : Descriptor
  outPos : Int
  outVel : Int
  target : Int
  eng : Int
  source : Source
  pendingSource : Option Source
  pendingNew : Bool
  caughtState : Catch
  holdValue : Int
  takeHold : Int
  fallback : Bool
  flags : PeriodFlags
  feedback : Int
  status : BitVec 4
  present : Bool
  answered : Bool
deriving DecidableEq, Repr

/-- The Setpoint Conditioner. `resumeCatch` is set by an accepted Resume until the first frame conditioned in NORMAL
(R14, R78). -/
structure Conditioner where
  chans : Vector Channel 12
  resumeCatch : Bool
deriving DecidableEq, Repr

/-! ## Geometry Unit (chapter 2) -/

/-- The geometry record (R29). -/
structure GeoRecord where
  height : Nat
  base : Nat
  headDecel : Nat
deriving DecidableEq, Repr

/-- A head position in µm (R37). -/
structure Pos where
  x : Int
  y : Int
  z : Int
deriving DecidableEq, Repr

/-- The Geometry Unit (R43). The head is available exactly when the last head position is present. -/
structure Geometry where
  record : Option GeoRecord
  head : Option Pos
  headSpeed : Nat
  reference : Option (Pos × Word)
  evaluatedAt : Word
  saturated : Bool
deriving DecidableEq, Repr

/-! ## Zone Monitor (chapter 3) -/

/-- A zone record (R45); `crew` is set for kind CREW. -/
structure ZoneRec where
  enabled : Bool
  crew : Bool
  line : Nat
  xmin : Int
  xmax : Int
  ymin : Int
  ymax : Int
  zmin : Int
  zmax : Int
  guardStop : Nat
  slowWidth : Nat
deriving DecidableEq, Repr

/-- A zone bank (R44); its zone count is the number of its zone records. -/
structure Bank where
  releaseHold : Nat
  zones : List ZoneRec
  checksum : Word
deriving DecidableEq, Repr

/-- The state of one crew line (R50). -/
structure CrewLine where
  active : Bool
  count : Nat
deriving DecidableEq, Repr

/-- The Zone Monitor (R63). -/
structure ZoneMonitor where
  bankA : Bank
  bankB : Bank
  activeBank : BankId
  swapPending : Bool
  crew : Vector CrewLine 4
  stopMemory : List Nat
  stopSet : List Nat
  activeZones : List Nat
  slowZones : List Nat
  least : Option (Int × Nat)
  scale : Nat
  cursor : Cursor
  running : Word
  pass : PassResult
  passAt : Word
deriving DecidableEq, Repr

/-! ## Stop Controller (chapter 4) -/

/-- A raised cause with the items it carries to the fault record (section 4.2). -/
structure Cause where
  name : CauseName
  channel : Option (Fin 12)
  zone : Option Nat
  value : Option Int
deriving DecidableEq, Repr

/-- The snapshot of R85: out_pos and last feedback of each channel, the last head position, the speed scale. -/
structure Snapshot where
  axes : Vector (Int × Int) 12
  head : Option Pos
  scale : Nat
deriving DecidableEq, Repr

/-- A locked fault record (R85, R86). -/
structure FaultRecord where
  cause : Cause
  cls : CauseClass
  mode : CraneMode
  safety : Safety
  part : Word
  timecode : Word
  snapshot : Snapshot
  laterCount : Nat
  lastLater : Option (CauseName × Word)
  highest : CauseClass
deriving DecidableEq, Repr

/-- The Stop Controller (R89); the fault record is EMPTY when absent. -/
structure StopController where
  safety : Safety
  stopTimer : Nat
  stopLimit : Nat
  softStop : Bool
  autoResumes : Nat
  stopReqMemory : Bool
  gripMemory : Bool
  fault : Option FaultRecord
deriving DecidableEq, Repr

/-! ## Lens Mapper (chapter 5) -/

/-- A lens map (R90): its points are pairs of an engineering value and a count. -/
structure LensMap where
  mapId : Nat
  points : List (Int × Int)
  crc : Word
deriving DecidableEq, Repr

/-- A calibration result (R98). -/
structure CalResult where
  foundMin : Int
  foundMax : Int
  fit : MapFit
  madeAt : Word
deriving DecidableEq, Repr

/-- The Lens Mapper's state for one channel (R98, R109). `apply` is the output a found stall leaves for the next
outbound frame (R103, R104); `phaseFrom` is the part counter of the first frame of the current seek phase, absent
while a new phase waits for its first frame (R102). -/
structure LensChannel where
  active : Option LensMap
  pending : Option LensMap
  cal : CalState
  failure : Option CalFailure
  count : Nat
  seekLow : Int
  seekHigh : Int
  foundMin : Option Int
  result : Option CalResult
  window : List Int
  phaseFrom : Option Word
  apply : Option Int
  feedback : Option Int
  feedbackClamped : Bool
deriving DecidableEq, Repr

/-! ## Take Store (chapter 6) -/

/-- The memory-error capture record (R112). -/
structure MemErrRecord where
  address : Nat
  syndrome : Byte
  kind : WordClass
  reader : MemReader
  part : Word
  doubleAfterSingle : Bool
deriving DecidableEq, Repr

/-- A take directory entry (R119); `mapIds` holds 0 outside the LENS channels of the mask. -/
structure DirEntry where
  state : EntryState
  take : Nat
  truncated : Bool
  interrupted : Bool
  slipped : Bool
  damaged : Bool
  mask : BitVec 12
  mapIds : Vector Nat 12
  cyclesPerFrame : Nat
  startTimecode : Word
  length : Nat
  blocks : List Nat
  perBlock : Nat
  marks : List Nat
deriving DecidableEq, Repr

/-- The read the Take Engine keeps in progress (R147): the record it is of, where the record lies, and, when it
enters a block, what the block's header must hold (R123). `wanted` is clear once the playback it was for has ended. -/
structure ReadReq where
  wanted : Bool
  entry : Fin 32
  take : Nat
  mask : BitVec 12
  index : Nat
  block : Nat
  position : Nat
  size : Nat
  header : Bool
  sequence : Nat
  recordCount : Nat
  nextBlock : Nat
deriving DecidableEq, Repr

/-- The Take Store (R126). `mem` lists the bytes the part has written as (byte address, byte), `check` the check bits it
has written with them as (word address, check bits), both strictly rising (R110);
`formatFailed` the blocks the running format has found bad; `heldWord` the partial word of R122 with its byte
address; `blockBad` whether the block being read had a bad header (R123). -/
structure TakeStore where
  mem : List Host.Cell
  check : List Host.Cell
  state : MemState
  progress : Nat
  formatFailed : List Nat
  free : List Nat
  bad : List Nat
  dir : Vector DirEntry 32
  correctable : Nat
  uncorrectable : Nat
  reportSingles : Bool
  errRecord : Option MemErrRecord
  heldWord : Option (Nat × List Byte)
  blockBad : Bool
  reading : Option ReadReq
deriving DecidableEq, Repr

/-! ## Take Engine (chapter 7) -/

/-- The reference state (R127). -/
structure Reference where
  sync : RefSync
  cyclesPerFrame : Nat
  required : Bool
  pulseSeen : Bool
  phase : Nat
  startKind : FrameStart
  lastStart : FrameStart
  distance : Nat
  sincePulse : Nat
  goodRun : Nat
  slips : Nat
deriving DecidableEq, Repr

/-- The record state (R132); every item but the state is 0 while it is IDLE. -/
structure Recording where
  state : RecState
  entry : Fin 32
  take : Nat
  mask : BitVec 12
  endRequested : Bool
  index : Nat
deriving DecidableEq, Repr

/-- A record in the prefetch queue (R147) as the Take Store delivers it (R123): its index, its good or bad mark, its
header items (section 10.6), and its values in ascending channel order of the mask. -/
structure QueuedRecord where
  index : Nat
  good : Bool
  frameStart : Bool
  slip : Bool
  marked : Bool
  phase : Nat
  values : List Int
deriving DecidableEq, Repr

/-- The play state (R140). `firstFrame` says that the next RUNNING frame is the first (R146); `nextRead` is the
next index to be read (R147); `latest` holds the values of the latest good record supplied to the channels since the
CUE (R148). -/
structure Playback where
  state : PlayState
  take : Nat
  entry : Fin 32
  mask : BitVec 12
  cueMark : Nat
  cueRecord : Nat
  index : Nat
  abort : Option (Nat × AbortReason)
  mapChanged : Bool
  lineTrigger : Bool
  faultRun : Nat
  faultTotal : Nat
  runSlips : Nat
  queue : List QueuedRecord
  nextRead : Nat
  firstFrame : Bool
  latest : Option (List Int)
deriving DecidableEq, Repr

/-- The Take Engine (R151). `cueScaleNow` is the cue_scale in force for the outbound frame in hand, to which a SET_TRIGGER
applies from the next one on (R141). `placed` is the placement of the next outbound frame where FLYWHEEL_FRAME_START or
REF_LOST has made it ahead of the frame (log entry 3). -/
structure TakeEngine where
  ref : Reference
  recording : Recording
  play : Playback
  trigger : TriggerKind
  triggerTimecode : Word
  cueScale : Nat
  cueScaleNow : Nat
  placed : Option Placement
deriving DecidableEq, Repr

/-! ## Capture Unit and tracking record (chapter 8) -/

/-- A capture condition (R157). -/
structure Condition where
  kind : CaptureKind
  channel : Fin 12
  value : Word
  direction : Direction
  scope : Scope
deriving DecidableEq, Repr

/-- The met value of a capture record (R161). -/
inductive MetValue where
  | number (x : Int)
  | cause (name : CauseName) (cls : CauseClass)
deriving DecidableEq, Repr

/-- The take activity byte's eight values (R153). -/
inductive Activity where
  | idle | recordArmed | recording | cueing | cued | running | ended | aborted
deriving DecidableEq, Repr

/-- A capture record (R161). -/
structure CaptureRecord where
  condition : Condition
  met : MetValue
  part : Word
  timecode : Word
  activity : Activity
  index : Nat
  snapshot : Snapshot
deriving DecidableEq, Repr

/-- The Capture Unit, and beside it the embed mask of the tracking record (R164). -/
structure CaptureUnit where
  embed : BitVec 7
  state : CaptureState
  condition : Option Condition
  previous : Option Int
  record : Option CaptureRecord
deriving DecidableEq, Repr

/-! ## Link Unit (chapter 9) -/

/-- A port's receiver (R166). -/
structure Receiver where
  sync : RxSync
  validRun : Nat
  score : Nat
  goodRun : Nat
deriving DecidableEq, Repr

/-- An error counter with its at-threshold status and spent flag (R168). -/
structure Counter where
  count : Nat
  atThreshold : Bool
  spent : Bool
deriving DecidableEq, Repr

/-- One thing for each error kind. -/
structure PerKind (α : Type) where
  symbol : α
  crc : α
  sequence : α
deriving DecidableEq, Repr

/-- A port: its receiver, its counters and its settings (R168). -/
structure Port where
  rx : Receiver
  counters : PerKind Counter
  threshold : Nat
  faultIn : PerKind Bool
  roll : PerKind Bool
  autoClear : Bool
deriving DecidableEq, Repr

/-- The record of the latest good console frame (R170); its STOP_REQ and GRIP flags are those of `flags`. -/
structure GoodFrame where
  cycle : Half
  timecode : Word
  flags : Byte
  values : Vector Word 12
deriving DecidableEq, Repr

/-- A frame ready to leave on port D, with what its in-flight entry will hold (R173). `calibrated` says for each
channel whether an end-stop calibration ran on it (R107). -/
structure OutFrame where
  frame : Frame
  part : Word
  consoleCycle : Option Half
  kind : FrameKind
  timecode : Word
  phase : Nat
  sync : RefSync
  service : Option (Byte × Reply)
  calibrated : Vector Bool 12
deriving DecidableEq, Repr

/-- What an in-flight entry keeps of one slot (R173). -/
structure SentSlot where
  value : Int
  enable : Bool
  calibrated : Bool
deriving DecidableEq, Repr

/-- An in-flight entry (R173). -/
structure InFlight where
  part : Word
  consoleCycle : Option Half
  kind : FrameKind
  sendTime : Nat
  timecode : Word
  phase : Nat
  sync : RefSync
  service : Option (Byte × Reply)
  outputs : Vector SentSlot 12
deriving DecidableEq, Repr

/-- The Link Unit (R180). Times are readings of the 1 µs timer: the silence timer counts from `silenceFrom`, the
substitution pace from `lastSubst`. `readyD` are the frames waiting for port D's transmitter, `sentD` and `sentC`
the frames handed to the wire of each port since pin reset, oldest first. -/
structure Link where
  portC : Port
  portD : Port
  silenceLimit : Nat
  returnTimeout : Nat
  expected : Option Half
  lastArrival : Option Nat
  period : Option Nat
  offset : Half
  consoleAbsent : Bool
  silenceFrom : Nat
  lastSubst : Nat
  part : Word
  lastGood : Option GoodFrame
  inFlight : List InFlight
  lossCount : Nat
  feedbackLost : Bool
  totalLost : Nat
  armingLoss : Bool
  readyD : List OutFrame
  sentD : List Frame
  sentC : List Frame
deriving DecidableEq, Repr

/-! ## Service Unit (chapter 10) -/

/-- The last-reply record (R184). -/
structure LastReply where
  tag : Byte
  code : Byte
  result : Result
deriving DecidableEq, Repr

/-- The Service Unit (R191). `reply` is the tag and reply formed for the outbound frame in hand (R181). -/
structure ServiceUnit where
  staging : List Byte
  lastReply : Option LastReply
  reply : Option (Byte × Reply)
deriving DecidableEq, Repr

/-! ## Mode Controller (chapter 11) -/

/-- The eight arming checks (R198). -/
structure Checks where
  channel : CheckMark
  geometry : CheckMark
  zones : CheckMark
  link : CheckMark
  drives : CheckMark
  estop : CheckMark
  supply : CheckMark
  sync : CheckMark
deriving DecidableEq, Repr

/-- The channel detail of the self-check record: the channel, if the item found concerns one, and the item of R194
or the drive status that failed DRIVES (R198). -/
structure CheckDetail where
  channel : Option (Fin 12)
  item : Nat
deriving DecidableEq, Repr

/-- The self-check result record (R198). -/
structure SelfCheck where
  result : CheckResult
  checks : Checks
  detail : Option CheckDetail
  advisory : Bool
  abortEvent : Option AbortEvent
  startedAt : Word
  endedAt : Option Word
  periods : Nat
deriving DecidableEq, Repr

/-- The Mode Controller (R193). `granted` is its grant of enables in ARMING (R194); `verified` says that a verify
pass has ended MATCH since the mode became ARMING (R196). -/
structure ModeController where
  mode : CraneMode
  count : Nat
  granted : Bool
  verified : Bool
  check : SelfCheck
deriving DecidableEq, Repr

/-! ## The discrete lines (section 11.6) -/

/-- The lines as the part sees them through their filters, and the two it drives. The supply-warning flag of R83 is
`supplyWarn`. -/
structure Pins where
  estopInClosed : Bool
  supplyWarn : Bool
  supplyFail : Bool
  crewSeen : Vector Bool 4
  estopOutClosed : Bool
  brakeReleased : Bool
deriving DecidableEq, Repr

/-! ## The whole machine -/

/-- The state of the part: the commands that wait, the free-running 1 µs timer, the lines and the eleven blocks. -/
structure State where
  pending : List Instr
  timer : Nat
  pins : Pins
  link : Link
  service : ServiceUnit
  mode : ModeController
  cond : Conditioner
  geo : Geometry
  zone : ZoneMonitor
  stop : StopController
  lens : Vector LensChannel 12
  store : TakeStore
  take : TakeEngine
  capture : CaptureUnit
deriving DecidableEq, Repr

/-- No command of this block stops in a fault: the manual gives every command an effect in every state. Nothing
raises one, which is safe. -/
inductive Fault where
deriving DecidableEq, Repr

/-- Why a command has no meaning. -/
inductive Refusal where
  /-- Raised by exec's arm of a command that is not modelled yet, with the command's mnemonic: safe, since the
  machine stops and nothing can be proved of the command's effect. No arm raises it now. -/
  | notModelled (mnemonic : String)
deriving DecidableEq, Repr

/-! ## Updates of one block -/

namespace State

def setPending (s : State) (x : List Instr) : State := { s with pending := x }
def setTimer (s : State) (x : Nat) : State := { s with timer := x }
def setPins (s : State) (x : Pins) : State := { s with pins := x }
def setLink (s : State) (x : Link) : State := { s with link := x }
def setService (s : State) (x : ServiceUnit) : State := { s with service := x }
def setMode (s : State) (x : ModeController) : State := { s with mode := x }
def setCond (s : State) (x : Conditioner) : State := { s with cond := x }
def setGeo (s : State) (x : Geometry) : State := { s with geo := x }
def setZone (s : State) (x : ZoneMonitor) : State := { s with zone := x }
def setStop (s : State) (x : StopController) : State := { s with stop := x }
def setLens (s : State) (x : Vector LensChannel 12) : State := { s with lens := x }
def setStore (s : State) (x : TakeStore) : State := { s with store := x }
def setTake (s : State) (x : TakeEngine) : State := { s with take := x }
def setCapture (s : State) (x : CaptureUnit) : State := { s with capture := x }

end State

/-! ## Values after pin reset -/

/-- An UNUSED descriptor: role NONE, kind LINEAR, every numeric field 0 (R2, R28). -/
def resetDescriptor : Descriptor :=
  { cls := .unused, role := .none, kind := .linear, posMin := 0, posMax := 0, velMax := 0, accMax := 0, stopAcc := 0
    followLimit := 0, catchWindow := 0, cueTolerance := 0, calibSpeed := 0 }

/-- All period flags clear. -/
def noFlags : PeriodFlags :=
  { posClamped := false, velLimited := false, accLimited := false, limitHit := false, lensClamped := false }

/-- R28. -/
def resetChannel : Channel :=
  { desc := resetDescriptor, outPos := 0, outVel := 0, target := 0, eng := 0, source := .live, pendingSource := none
    pendingNew := false, caughtState := .waiting, holdValue := 0, takeHold := 0, fallback := false, flags := noFlags
    feedback := 0, status := 0, present := false, answered := false }

/-- R43. -/
def resetGeometry : Geometry :=
  { record := none, head := none, headSpeed := 0, reference := none, evaluatedAt := 0, saturated := false }

/-- The empty bank: zone count 0, crew release hold 0, and the checksum of that header's four bytes (R44). -/
def emptyBank : Bank := { releaseHold := 0, zones := [], checksum := crc32 [0, 0, 0, 0] }

/-- R63. -/
def resetZone : ZoneMonitor :=
  { bankA := emptyBank, bankB := emptyBank, activeBank := .a, swapPending := false
    crew := Vector.replicate 4 { active := false, count := 0 }, stopMemory := [], stopSet := [], activeZones := []
    slowZones := [], least := none, scale := 256, cursor := .header, running := crcStart, pass := .none, passAt := 0 }

/-- R89. -/
def resetStop : StopController :=
  { safety := .normal, stopTimer := 0, stopLimit := 500, softStop := false, autoResumes := 0, stopReqMemory := false
    gripMemory := false, fault := none }

/-- R109. -/
def resetLens : LensChannel :=
  { active := none, pending := none, cal := .none, failure := none, count := 0, seekLow := 0, seekHigh := 0
    foundMin := none, result := none, window := [], phaseFrom := none, apply := none, feedback := none
    feedbackClamped := false }

/-- An EMPTY directory entry, with every field cleared (R119). -/
def emptyEntry : DirEntry :=
  { state := .empty, take := 0, truncated := false, interrupted := false, slipped := false, damaged := false
    mask := 0, mapIds := Vector.replicate 12 0, cyclesPerFrame := 0, startTimecode := 0, length := 0, blocks := []
    perBlock := 0, marks := [] }

/-- R126. -/
def resetStore : TakeStore :=
  { mem := [], check := [], state := .unformatted, progress := 0, formatFailed := [], free := [], bad := []
    dir := Vector.replicate 32 emptyEntry, correctable := 0, uncorrectable := 0, reportSingles := true
    errRecord := none, heldWord := none, blockBad := false, reading := none }

/-- R151. The frame-start kind of the latest frame is NONE: there has been none (log entry 12). -/
def resetReference : Reference :=
  { sync := .noRef, cyclesPerFrame := 40, required := true, pulseSeen := false, phase := 39, startKind := .none
    lastStart := .flywheel, distance := 0, sincePulse := 0, goodRun := 0, slips := 0 }

/-- The record state IDLE (R132). -/
def idleRecording : Recording :=
  { state := .idle, entry := 0, take := 0, mask := 0, endRequested := false, index := 0 }

/-- The play state IDLE, with every item cleared (R151). -/
def idlePlayback : Playback :=
  { state := .idle, take := 0, entry := 0, mask := 0, cueMark := 0, cueRecord := 0, index := 0, abort := none
    mapChanged := false, lineTrigger := false, faultRun := 0, faultTotal := 0, runSlips := 0, queue := []
    nextRead := 0, firstFrame := false, latest := none }

/-- R151. -/
def resetTake : TakeEngine :=
  { ref := resetReference, recording := idleRecording, play := idlePlayback, trigger := .request, triggerTimecode := 0
    cueScale := 64, cueScaleNow := 64, placed := none }

/-- R164: the embed mask selects CYCLE and SAFETY, bits 0 and 6. -/
def resetCapture : CaptureUnit :=
  { embed := 0x41, state := .idle, condition := none, previous := none, record := none }

/-- R180: an UNSYNC receiver, counters at 0, threshold 255, mask IN, HOLD, auto_clear OFF. -/
def resetPort : Port :=
  { rx := { sync := .unsync, validRun := 0, score := 0, goodRun := 0 }
    counters :=
      { symbol := { count := 0, atThreshold := false, spent := false }
        crc := { count := 0, atThreshold := false, spent := false }
        sequence := { count := 0, atThreshold := false, spent := false } }
    threshold := 255
    faultIn := { symbol := true, crc := true, sequence := true }
    roll := { symbol := false, crc := false, sequence := false }
    autoClear := false }

/-- R180. -/
def resetLink : Link :=
  { portC := resetPort, portD := resetPort, silenceLimit := 10000, returnTimeout := 400, expected := none
    lastArrival := none, period := none, offset := 0, consoleAbsent := false, silenceFrom := 0, lastSubst := 0
    part := 0, lastGood := none, inFlight := [], lossCount := 0, feedbackLost := false, totalLost := 0
    armingLoss := false, readyD := [], sentD := [], sentC := [] }

/-- R191. -/
def resetService : ServiceUnit := { staging := List.replicate 1024 0, lastReply := none, reply := none }

/-- Every check NOT_RUN (R198). -/
def notRunChecks : Checks :=
  { channel := .notRun, geometry := .notRun, zones := .notRun, link := .notRun, drives := .notRun, estop := .notRun
    supply := .notRun, sync := .notRun }

/-- R198: result NONE, every optional item absent. -/
def resetCheck : SelfCheck :=
  { result := .none, checks := notRunChecks, detail := none, advisory := false, abortEvent := none, startedAt := 0
    endedAt := none, periods := 0 }

/-- R193, R201. -/
def resetMode : ModeController :=
  { mode := .parked, count := 0, granted := false, verified := false, check := resetCheck }

/-- The lines after reset: ESTOP_OUT open and BRAKE engaged (R89); the input lines at their healthy levels
(DESIGN CHOICE, log entry 5). -/
def resetPins : Pins :=
  { estopInClosed := true, supplyWarn := false, supplyFail := false, crewSeen := Vector.replicate 4 false
    estopOutClosed := false, brakeReleased := false }

/-- The machine right after pin reset (R201), with no command waiting. -/
def State.reset : State :=
  { pending := [], timer := 0, pins := resetPins, link := resetLink, service := resetService, mode := resetMode
    cond := { chans := Vector.replicate 12 resetChannel, resumeCatch := false }
    geo := resetGeometry, zone := resetZone, stop := resetStop, lens := Vector.replicate 12 resetLens
    store := resetStore, take := resetTake, capture := resetCapture }

end Sys2Proof.Machine
end

