-- ==== Sys2Proof/Machine/Operands.lean ====
section
/-! DEFINITION. The coded operands: R192 codes every enumerated value in one byte, by its table or by its place in the
list where the manual first gives it, and a received byte outside a set's codes is a value outside the set. -/

namespace Sys2Proof.Machine

/-- R192: class codes. -/
def clsCode : ChClass → Nat
  | .unused => 0
  | .motion => 1
  | .lens => 2

/-- R192: role codes. -/
def roleCode : Role → Nat
  | .none => 0
  | .swing => 1
  | .lift => 2
  | .reach => 3
  | .track => 4
  | .pan => 5
  | .tilt => 6
  | .roll => 7
  | .aux => 8
  | .zoom => 9
  | .focus => 10
  | .iris => 11
  | .lensAux => 12

/-- R192: kind codes. -/
def axisKindCode : AxisKind → Nat
  | .rotary => 0
  | .linear => 1

/-- R192: source codes. -/
def sourceCode : Source → Nat
  | .live => 0
  | .take => 1
  | .takeTrim => 2
  | .hold => 3

/-- R192: trigger kinds, by their place in R140. -/
def triggerCode : TriggerKind → Nat
  | .request => 0
  | .timecode => 1
  | .line => 2

/-- R192: capture kinds, by their place in R157. -/
def captureKindCode : CaptureKind → Nat
  | .outputCrosses => 0
  | .feedbackCrosses => 1
  | .takeIndex => 2
  | .slowEnter => 3
  | .timecode => 4
  | .anyStop => 5

/-- R192: directions, by their place in R157. -/
def directionCode : Direction → Nat
  | .up => 0
  | .down => 1
  | .either => 2

/-- R192: scopes, by their place in R157. -/
def scopeCode : Scope → Nat
  | .liveOnly => 0
  | .playbackOnly => 1
  | .any => 2

/-- R192: port codes. -/
def portCode : PortId → Nat
  | .c => 0
  | .d => 1

/-- R192: crane mode codes. -/
def modeCode : CraneMode → Nat
  | .parked => 0
  | .arming => 1
  | .live => 2

/-- R192: safety state codes. -/
def safetyCode : Safety → Nat
  | .normal => 0
  | .stopping => 1
  | .held => 2
  | .dropped => 3

/-- R192: catch states, by their place in R7. -/
def catchStateCode : Catch → Nat
  | .waiting => 0
  | .caught => 1

/-- R192: cause classes, by their place in section 4.2. -/
def causeClassCode : CauseClass → Nat
  | .c => 0
  | .i => 1

/-- R192: stop causes, by their place in the table of section 4.2. -/
def causeCode : CauseName → Nat
  | .zoneStop => 0
  | .consoleStop => 1
  | .gripReleased => 2
  | .consoleSilent => 3
  | .feedbackLost => 4
  | .linkFault => 5
  | .limitHit => 6
  | .playbackData => 7
  | .supplyFail => 8
  | .followingError => 9
  | .driveFault => 10
  | .estopChain => 11
  | .stopTimeout => 12
  | .zoneTableCorrupt => 13

/-- R192: result codes. -/
def resultCode : Result → Nat
  | .ok => 0
  | .accepted => 1
  | .refusedMode => 2
  | .refusedBusy => 3
  | .refusedCondition => 4
  | .refusedSupply => 5
  | .badParam => 6
  | .badChecksum => 7
  | .notFound => 8
  | .noSpace => 9
  | .unknownRequest => 10

/-- R192: calibration states, by their place in R98. -/
def calStateCode : CalState → Nat
  | .none => 0
  | .seekLow => 1
  | .seekHigh => 2
  | .done => 3
  | .failed => 4

/-- R192: failure reasons, by their place in R98. -/
def calFailureCode : CalFailure → Nat
  | .timeLimit => 0
  | .dropped => 1
  | .parked => 2
  | .softReset => 3
  | .noTravel => 4

/-- R192: map_fit, by its place in R98. -/
def mapFitCode : MapFit → Nat
  | .yes => 0
  | .no => 1
  | .noMap => 2

/-- R192: memory states, by their place in R115. -/
def memStateCode : MemState → Nat
  | .unformatted => 0
  | .formatting => 1
  | .ready => 2

/-- R192: readers, by their place in R112. -/
def memReaderCode : MemReader → Nat
  | .format => 0
  | .playback => 1

/-- R192: entry states, by their place in R119. -/
def entryStateCode : EntryState → Nat
  | .empty => 0
  | .recording => 1
  | .complete => 2

/-- R192: reference sync states, by their place in R127. -/
def refSyncCode : RefSync → Nat
  | .noRef => 0
  | .measuring => 1
  | .locked => 2

/-- R192: frame-start kinds, by their place in R127. -/
def frameStartCode : FrameStart → Nat
  | .pulse => 0
  | .flywheel => 1
  | .none => 2

/-- R192: record states, by their place in R132. -/
def recStateCode : RecState → Nat
  | .idle => 0
  | .recordArmed => 1
  | .recording => 2

/-- R192: play state codes. -/
def playStateCode : PlayState → Nat
  | .idle => 0
  | .cueing => 1
  | .cued => 2
  | .running => 3
  | .ended => 4
  | .aborted => 5

/-- R192: abort reasons, by their place in R149. -/
def abortReasonCode : AbortReason → Nat
  | .request => 0
  | .stop => 1
  | .park => 2
  | .data => 3

/-- R192: capture states, by their place in R157. -/
def captureStateCode : CaptureState → Nat
  | .idle => 0
  | .armed => 1
  | .tripped => 2

/-- R192: receiver states, by their place in R166. -/
def rxSyncCode : RxSync → Nat
  | .unsync => 0
  | .symbol => 1
  | .framed => 2

/-- R192: banks, by their place in R44. -/
def bankCode : BankId → Nat
  | .a => 0
  | .b => 1

/-- R192: pass results by their place in R62 (MATCH, MISMATCH, NONE). -/
def passCode : PassResult → Nat
  | .none => 2
  | .pass => 0
  | .mismatch => 1

/-- R192: self-check results, by their place in R198. -/
def checkResultCode : CheckResult → Nat
  | .none => 0
  | .running => 1
  | .passed => 2
  | .failed => 3
  | .aborted => 4

/-- R192: check marks, by their place in R198. -/
def checkMarkCode : CheckMark → Nat
  | .notRun => 0
  | .pending => 1
  | .pass => 2
  | .fail => 3

/-- R192: self-check abort event codes. -/
def abortEventCode : AbortEvent → Nat
  | .park => 0
  | .stop => 1
  | .softReset => 2
  | .followingError => 3
  | .driveFault => 4
  | .estopChain => 5
  | .zoneTableCorrupt => 6

/-- R192: take activities, by their place in R153. -/
def activityCode : Activity → Nat
  | .idle => 0
  | .recordArmed => 1
  | .recording => 2
  | .cueing => 3
  | .cued => 4
  | .running => 5
  | .ended => 6
  | .aborted => 7

/-- R192: error-counter kind codes. -/
def errKindCode : ErrKind → Nat
  | .symbol => 0
  | .crc => 1
  | .sequence => 2

/-- The value a received code names, if any (R192). -/
def clsOf? (b : Byte) : Option ChClass :=
  match b.toNat with
  | 0 => some .unused
  | 1 => some .motion
  | 2 => some .lens
  | _ => none

/-- The value a received code names, if any (R192). -/
def roleOf? (b : Byte) : Option Role :=
  match b.toNat with
  | 0 => some .none
  | 1 => some .swing
  | 2 => some .lift
  | 3 => some .reach
  | 4 => some .track
  | 5 => some .pan
  | 6 => some .tilt
  | 7 => some .roll
  | 8 => some .aux
  | 9 => some .zoom
  | 10 => some .focus
  | 11 => some .iris
  | 12 => some .lensAux
  | _ => none

/-- The value a received code names, if any (R192). -/
def axisKindOf? (b : Byte) : Option AxisKind :=
  match b.toNat with
  | 0 => some .rotary
  | 1 => some .linear
  | _ => none

/-- The value a received code names, if any (R192). -/
def sourceOf? (b : Byte) : Option Source :=
  match b.toNat with
  | 0 => some .live
  | 1 => some .take
  | 2 => some .takeTrim
  | 3 => some .hold
  | _ => none

/-- The value a received code names, if any (R192). -/
def triggerOf? (b : Byte) : Option TriggerKind :=
  match b.toNat with
  | 0 => some .request
  | 1 => some .timecode
  | 2 => some .line
  | _ => none

/-- The value a received code names, if any (R192). -/
def captureKindOf? (b : Byte) : Option CaptureKind :=
  match b.toNat with
  | 0 => some .outputCrosses
  | 1 => some .feedbackCrosses
  | 2 => some .takeIndex
  | 3 => some .slowEnter
  | 4 => some .timecode
  | 5 => some .anyStop
  | _ => none

/-- The value a received code names, if any (R192). -/
def directionOf? (b : Byte) : Option Direction :=
  match b.toNat with
  | 0 => some .up
  | 1 => some .down
  | 2 => some .either
  | _ => none

/-- The value a received code names, if any (R192). -/
def scopeOf? (b : Byte) : Option Scope :=
  match b.toNat with
  | 0 => some .liveOnly
  | 1 => some .playbackOnly
  | 2 => some .any
  | _ => none

/-- The value a received code names, if any (R192). -/
def portOf? (b : Byte) : Option PortId :=
  match b.toNat with
  | 0 => some .c
  | 1 => some .d
  | _ => none

/-- The class of a memory word: CLEAN 0, SINGLE 1, DOUBLE 2 (R192). -/
def wordClassCode : WordClass → Nat
  | .clean => 0
  | .single => 1
  | .double => 2

/-- ON/OFF settings and HOLD/ROLL: OFF or HOLD 0, ON or ROLL 1 (R192). -/
def switchOf? (b : Byte) : Option Bool :=
  match b.toNat with
  | 0 => some false
  | 1 => some true
  | _ => none

/-- A channel number 0 to 11. -/
def channelOf? (b : Byte) : Option (Fin 12) := if h : b.toNat < 12 then some ⟨b.toNat, h⟩ else none

/-- The channel a mask of section 10.4 names by bit n; bits above 11 name none. -/
def maskOf (m : Half) : BitVec 12 := m.setWidth 12

/-- A mask with a bit set above bit 11 (R19, R133). -/
def maskTooWide (m : Half) : Bool := decide (4096 ≤ m.toNat)

/-- Whether channel n is in a mask. -/
def inMask (m : BitVec 12) (n : Fin 12) : Bool := m.getLsbD n.val

/-- The channels of a mask in ascending order. -/
def maskChannels (m : BitVec 12) : List (Fin 12) := (List.finRange 12).filter fun n => inMask m n

/-- What one error kind selects. -/
def PerKind.get {α : Type} (p : PerKind α) : ErrKind → α
  | .symbol => p.symbol
  | .crc => p.crc
  | .sequence => p.sequence

/-- One error kind's item replaced. -/
def PerKind.put {α : Type} (p : PerKind α) (k : ErrKind) (x : α) : PerKind α :=
  match k with
  | .symbol => { p with symbol := x }
  | .crc => { p with crc := x }
  | .sequence => { p with sequence := x }

/-- A bit set over the error kinds: bit 0 SYMBOL, bit 1 CRC, bit 2 SEQUENCE (section 10.4). -/
def kindBits (b : Byte) : PerKind Bool :=
  { symbol := b.getLsbD 0, crc := b.getLsbD 1, sequence := b.getLsbD 2 }

/-- A bit set over the error kinds in one byte (section 10.4). -/
def kindByte (p : PerKind Bool) : List Byte :=
  u8 ((if p.symbol then 1 else 0) + (if p.crc then 2 else 0) + (if p.sequence then 4 else 0))

/-- A set of zone ids as a 4-byte bitmap, bit n for zone n (R190). -/
def zoneBits (ids : List Nat) : List Byte :=
  le32 (ids.foldl (fun w n => w ||| BitVec.ofNat 32 (2 ^ n)) 0)

/-- The drive status code of a slot's flag byte, bits 4–7 (section 10.6). -/
def slotStatus (s : Slot) : BitVec 4 := s.flag.extractLsb' 4 4

/-- Drive status NONE (R192). -/
def statusNone : BitVec 4 := 0

/-- Drive status READY (R192). -/
def statusReady : BitVec 4 := 1

/-- Drive status NOT_READY (R192). -/
def statusNotReady : BitVec 4 := 2

/-- Drive status FAULT (R192). -/
def statusFault : BitVec 4 := 3

/-- Drive status STALE (R192). -/
def statusStale : BitVec 4 := 4

/-- Frame kind CYCLE (R192). -/
def kindCycle : Byte := 0x01

/-- Frame kind SUBST (R192). -/
def kindSubst : Byte := 0x02

/-- Frame kind RETURN (R192). -/
def kindReturn : Byte := 0x03

/-- STOP_REQ, bit 0 of a frame's flags (section 10.6). -/
def stopReqFlag (flags : Byte) : Bool := flags.getLsbD 0

/-- GRIP, bit 1 of a frame's flags (section 10.6). -/
def gripFlag (flags : Byte) : Bool := flags.getLsbD 1

end Sys2Proof.Machine
end

