-- ==== Sys2Proof/Machine/Ops.lean ====
section
/-! DEFINITION. The named operations over the take memory, the channel table and the lens table. -/

namespace Sys2Proof.Machine

/-! ## The take memory -/

/-- The canonical form of the take memory's list: addresses strictly rising. A byte the part has not written is not
listed (log entry 8). -/
abbrev Memory.wf (m : List Host.Cell) : Prop := (m.map Prod.fst).Pairwise (· < ·)

/-- The byte listed at an address, `none` where none is. -/
def memRead (m : List Host.Cell) (a : Nat) : Option Byte :=
  match m with
  | [] => none
  | c :: rest => if c.1 = a then some c.2 else memRead rest a

/-- One byte written, its list kept in rising order. -/
def memWrite (m : List Host.Cell) (a : Nat) (b : Byte) : List Host.Cell :=
  match m with
  | [] => [(a, b)]
  | c :: rest =>
    if a < c.1 then (a, b) :: c :: rest
    else if a = c.1 then (a, b) :: rest
    else c :: memWrite rest a b

/-- A string written from an address on. -/
def memWriteBytes (m : List Host.Cell) (a : Nat) : List Byte → List Host.Cell
  | [] => m
  | b :: bs => memWriteBytes (memWrite m a b) (a + 1) bs

/-- The bytes from `lo` to below `hi` no longer hold what the part wrote there: a format's test pattern has replaced
it (R117). -/
def memForget (m : List Host.Cell) (lo hi : Nat) : List Host.Cell :=
  m.filter fun c => decide (c.1 < lo) || decide (hi ≤ c.1)

/-- The byte a read hands on: what the part wrote, or where it wrote none the free value of log entry 8. -/
def takeByte (m : List Host.Cell) (a : Nat) : Byte := (memRead m a).getD (Config.unwrittenByte a)

/-- `n` bytes of the take memory from address `a` on. -/
def takeBytes (m : List Host.Cell) (a n : Nat) : List Byte := (List.range n).map fun k => takeByte m (a + k)

/-- Bytes in one block: 2,048 words of 8 data bytes (R110). -/
def blockBytes : Nat := 16384

/-- Words in one block (R110). -/
def blockWords : Nat := 2048

/-- Blocks in the memory (R110). -/
def blockCount : Nat := 4096

/-! ## The channel table -/

/-- Channel n's entry replaced by `f` of it. -/
def State.mapChan (s : State) (n : Fin 12) (f : Channel → Channel) : State :=
  s.setCond { s.cond with chans := s.cond.chans.set n.val (f (s.cond.chans[n])) n.isLt }

/-- Every channel's entry replaced. -/
def State.mapChans (s : State) (f : Fin 12 → Channel → Channel) : State :=
  s.setCond { s.cond with chans := s.cond.chans.mapFinIdx fun i c h => f ⟨i, h⟩ c }

/-- Channel n's entry. -/
def State.chan (s : State) (n : Fin 12) : Channel := s.cond.chans[n]

/-- A channel of class MOTION or LENS (section 4.3). -/
def Channel.used (c : Channel) : Bool := c.desc.cls != .unused

/-- A channel of class MOTION. -/
def Channel.isMotion (c : Channel) : Bool := c.desc.cls == .motion

/-- A channel of class LENS. -/
def Channel.isLens (c : Channel) : Bool := c.desc.cls == .lens

/-- A channel whose selected source is TAKE or TAKE_TRIM. -/
def Channel.onTake (c : Channel) : Bool := c.source == .take || c.source == .takeTrim

/-- The channel that holds a role with a class, the lowest if several do (section 4.3). -/
def roleHolder (chans : Vector Channel 12) (cls : ChClass) (r : Role) : Option (Fin 12) :=
  (List.finRange 12).find? fun n => (chans[n]).desc.cls == cls && (chans[n]).desc.role == r

/-- The last feedback of the MOTION channel that holds a role, if one does. -/
def roleFeedback (chans : Vector Channel 12) (r : Role) : Option Int :=
  (roleHolder chans .motion r).map fun n => (chans[n]).feedback

/-! ## The lens table -/

/-- Channel n's lens state. -/
def State.lensOf (s : State) (n : Fin 12) : LensChannel := s.lens[n]

/-- Channel n's lens state replaced by `f` of it. -/
def State.mapLens (s : State) (n : Fin 12) (f : LensChannel → LensChannel) : State :=
  s.setLens (s.lens.set n.val (f (s.lens[n])) n.isLt)

/-- Every channel's lens state replaced. -/
def State.mapAllLens (s : State) (f : Fin 12 → LensChannel → LensChannel) : State :=
  s.setLens (s.lens.mapFinIdx fun i l h => f ⟨i, h⟩ l)

/-- A calibration runs on the channel (R98). -/
def LensChannel.calibrating (l : LensChannel) : Bool := l.cal == .seekLow || l.cal == .seekHigh

/-- A calibration runs, or its last found stall waits for the frame that applies it (R103, R104). -/
def LensChannel.seeking (l : LensChannel) : Bool := l.calibrating || l.apply.isSome

/-- The effective lower limit (R5). -/
def effMin (c : Channel) (l : LensChannel) : Int :=
  match c.desc.cls with
  | .unused => 0
  | .motion => c.desc.posMin
  | .lens =>
    match l.result with
    | none => c.desc.posMin
    | some r => max c.desc.posMin r.foundMin

/-- The effective upper limit (R5). -/
def effMax (c : Channel) (l : LensChannel) : Int :=
  match c.desc.cls with
  | .unused => 0
  | .motion => c.desc.posMax
  | .lens =>
    match l.result with
    | none => c.desc.posMax
    | some r => min c.desc.posMax r.foundMax

/-- The effective limits of channel n. -/
def State.limits (s : State) (n : Fin 12) : Int × Int :=
  (effMin (s.chan n) (s.lensOf n), effMax (s.chan n) (s.lensOf n))

/-- The time the free-running timer has counted on by `elapsed` µs. -/
def advance (elapsed : Nat) (s : State) : State := s.setTimer (s.timer + elapsed)

end Sys2Proof.Machine
end

