-- ==== Sys2Proof/Machine/Capture.lean ====
section
/-! DEFINITION. The snapshot that the fault record and the capture record take (R85, R161), and the Capture Unit's
tests (R158 to R161). -/

namespace Sys2Proof.Machine

/-- The snapshot as the state stands (R85). -/
def snapshotOf (s : State) : Snapshot :=
  { axes := s.cond.chans.map fun c => (c.outPos, c.feedback), head := s.geo.head, scale := s.zone.scale }

/-- The timecode of the latest good console frame, 0 if none has arrived since pin reset (R85). -/
def consoleTimecode (s : State) : Word :=
  match s.link.lastGood with
  | none => 0
  | some g => g.timecode

/-- A record is active: the record state is RECORD_ARMED or RECORDING (R132). -/
def Recording.active (r : Recording) : Bool := r.state != .idle

/-- A playback is active: the play state is CUEING, CUED or RUNNING (R140). -/
def Playback.active (p : Playback) : Bool := p.state == .cueing || p.state == .cued || p.state == .running

/-- The take activity of a play state (R153). -/
def playActivity : PlayState → Activity
  | .idle => .idle
  | .cueing => .cueing
  | .cued => .cued
  | .running => .running
  | .ended => .ended
  | .aborted => .aborted

/-- The take activity and its index: the record's while a record is active, the playback's otherwise (R153). -/
def takeActivity (t : TakeEngine) : Activity × Nat :=
  match t.recording.state with
  | .recordArmed => (.recordArmed, t.recording.index)
  | .recording => (.recording, t.recording.index)
  | .idle => (playActivity t.play.state, t.play.index)

/-- Whether a scope lets a test opportunity meet the condition under a play state (R160). -/
def scopeAllows : Scope → PlayState → Bool
  | .liveOnly, p => p != .running
  | .playbackOnly, p => p == .running
  | .any, _ => true

/-- The Capture Unit trips: the record is filled and the state becomes TRIPPED (R161). -/
def trip (c : Condition) (met : MetValue) (part timecode : Word) (s : State) : State :=
  let act := takeActivity s.take
  s.setCapture
    { s.capture with
      state := .tripped
      previous := none
      record := some
        { condition := c, met := met, part := part, timecode := timecode, activity := act.1, index := act.2
          snapshot := snapshotOf s } }

/-- One test opportunity of a kind under a play state: an ARMED condition of that kind, inside its scope, trips the
unit with the value `met` gives it (R158 to R161). -/
def testCapture (kind : CaptureKind) (play : PlayState) (met : Condition → Option MetValue) (part timecode : Word)
    (s : State) : State :=
  match s.capture.state, s.capture.condition with
  | .armed, some c =>
    if c.kind = kind ∧ scopeAllows c.scope play = true then
      match met c with
      | some m => trip c m part timecode s
      | none => s
    else s
  | _, _ => s

/-- Whether a step from one sample to the next crosses the armed value in the armed direction (R158). -/
def crosses (c : Condition) (before now : Int) : Bool :=
  let up := decide (before < c.value.toInt) && decide (c.value.toInt ≤ now)
  let down := decide (before > c.value.toInt) && decide (c.value.toInt ≥ now)
  match c.direction with
  | .up => up
  | .down => down
  | .either => up || down

/-- The new sample becomes the previous one where the unit is still ARMED with a condition of the kind (R158). -/
def keepSample (kind : CaptureKind) (sample : Fin 12 → Int) (s : State) : State :=
  match s.capture.state, s.capture.condition with
  | .armed, some c =>
    if c.kind = kind then s.setCapture { s.capture with previous := some (sample c.channel) } else s
  | _, _ => s

/-- One test opportunity of a crossing kind (R158, R160). -/
def testCrossing (kind : CaptureKind) (play : PlayState) (sample : Fin 12 → Int) (part timecode : Word)
    (s : State) : State :=
  keepSample kind sample <|
    testCapture kind play
      (fun c =>
        match s.capture.previous with
        | none => none
        | some before =>
          if crosses c before (sample c.channel) then some (.number (sample c.channel)) else none)
      part timecode s

end Sys2Proof.Machine
end

