-- ==== Sys2Proof/Machine/LensMap.lean ====
section
/-! DEFINITION. Forward and inverse mapping through a lens map (R93, R94), and what a calibration result says of a
map (R104). -/

namespace Sys2Proof.Machine

/-- The count of an engineering value in the first segment whose upper end is not below it (R93). -/
def forwardFrom (p : Int × Int) : List (Int × Int) → Int → Int
  | [], _ => p.2
  | q :: rest, e =>
    if e ≤ q.1 then p.2 + roundDiv ((e - p.1) * (q.2 - p.2)) (q.1 - p.1) else forwardFrom q rest e

/-- Forward mapping, with whether it was clamped (R93). -/
def forwardMap (m : LensMap) (e : Int) : Int × Bool :=
  match m.points with
  | [] => (e, false)
  | p :: rest =>
    let last := rest.getLastD p
    if e < p.1 then (p.2, true)
    else if last.1 < e then (last.2, true)
    else (forwardFrom p rest e, false)

/-- A count between two others, inclusive, in either order. -/
def betweenCounts (a b k : Int) : Bool := (decide (a ≤ k) && decide (k ≤ b)) || (decide (b ≤ k) && decide (k ≤ a))

/-- The engineering value of a count in the first segment that holds it (R94). -/
def inverseFrom (p : Int × Int) : List (Int × Int) → Int → Int
  | [], _ => p.1
  | q :: rest, k =>
    if betweenCounts p.2 q.2 k then p.1 + roundDiv ((k - p.2) * (q.1 - p.1)) (q.2 - p.2) else inverseFrom q rest k

/-- Whether the counts of a map rise along its list (R90). -/
def LensMap.rising (m : LensMap) : Bool :=
  match m.points with
  | p :: q :: _ => decide (p.2 < q.2)
  | _ => true

/-- Inverse mapping, with whether it was clamped (R94). -/
def inverseMap (m : LensMap) (k : Int) : Int × Bool :=
  match m.points with
  | [] => (k, false)
  | p :: rest =>
    let last := rest.getLastD p
    if m.rising then
      if k < p.2 then (p.1, true) else if last.2 < k then (last.1, true) else (inverseFrom p rest k, false)
    else
      if p.2 < k then (p.1, true) else if k < last.2 then (last.1, true) else (inverseFrom p rest k, false)

/-- A channel's output as an engineering value: the inverse mapping through its active map, or the count itself when
no map is active (R101; log entry 13 for the rules that do not say so). -/
def engOf (l : LensChannel) (count : Int) : Int :=
  match l.active with
  | none => count
  | some m => (inverseMap m count).1

/-- What a take hold set from the output becomes: out_pos for a MOTION channel, its inverse mapping for a LENS channel
(R15). -/
def holdFromOutput (c : Channel) (l : LensChannel) : Int := if c.isLens then engOf l c.outPos else c.outPos

/-- map_fit of a found range against a channel's active map (R104). -/
def mapFitOf (active : Option LensMap) (foundMin foundMax : Int) : MapFit :=
  match active with
  | none => .noMap
  | some m => if m.points.all fun p => decide (foundMin ≤ p.2) && decide (p.2 ≤ foundMax) then .yes else .no

/-- The pending map becomes the active one, and map_fit of a held result is evaluated afresh (R96). -/
def swapMap (l : LensChannel) : LensChannel :=
  match l.pending with
  | none => l
  | some m =>
    { l with
      active := some m
      pending := none
      result := l.result.map fun r => { r with fit := mapFitOf (some m) r.foundMin r.foundMax } }

/-- A running calibration ends FAILED with a reason (R106); a stall that waits to be applied is dropped with it, or alone
(log entry 66). The calibration result is kept. -/
def failCalibration (reason : CalFailure) (l : LensChannel) : LensChannel :=
  if l.calibrating then
    { l with cal := .failed, failure := some reason, foundMin := none, window := [], phaseFrom := none, apply := none }
  else { l with apply := none }

/-- A running calibration's stall window is emptied by a lost return (R102). -/
def emptyWindow (l : LensChannel) : LensChannel := if l.calibrating then { l with window := [] } else l

end Sys2Proof.Machine
end

