-- ==== Sys2Proof/Machine/Store.lean ====
section
/-! DEFINITION. The Take Store (chapter 6): errors of the memory, the directory, the blocks lent to a recording, the
format, and one record read back. -/

namespace Sys2Proof.Machine

/-! ## Words and their check bits -/

/-- The 64 data bits of a word of 8 bytes, byte k in bits 8 k to 8 k + 7 (R110; the order of the bits under the code is
log entry 20). -/
def wordOf (bytes : List Byte) : BitVec 64 := wordAt bytes 4 ++ wordAt bytes 0

/-- The data bits that a word address holds. -/
def TakeStore.wordData (st : TakeStore) (w : Nat) : BitVec 64 := wordOf (takeBytes st.mem (8 * w) 8)

/-- The check bits that a word address holds: those written with it, or, where the part has written only a format's
pattern, those of that pattern (R110). -/
def TakeStore.wordCheck (st : TakeStore) (w : Nat) : Byte :=
  (memRead st.check w).getD (Config.checkBits (st.wordData w))

/-- The check bits of `n` whole words written beside them, from a word address on (R110). -/
def writeChecks (check : List Host.Cell) (w : Nat) (bytes : List Byte) : Nat → List Host.Cell
  | 0 => check
  | n + 1 => writeChecks (memWrite check w (Config.checkBits (wordOf (bytes.take 8)))) (w + 1) (bytes.drop 8) n

/-- Whole words written from a byte address on, each with its check bits (R110). -/
def writeWords (a : Nat) (bytes : List Byte) (st : TakeStore) : TakeStore :=
  { st with
    mem := memWriteBytes st.mem a bytes
    check := writeChecks st.check (a / 8) bytes (bytes.length / 8) }

/-- How many bits of a word are 1. -/
def bitCount {n : Nat} (x : BitVec n) : Nat := (List.range n).countP fun k => x.getLsbD k

/-- How many of a word's 72 bits come back inverted. -/
def disturbed (e : WordRead) : Nat := bitCount e.data + bitCount e.check

/-- The data bits as a disturbed word is read. -/
def TakeStore.dataRead (st : TakeStore) (e : WordRead) : BitVec 64 := st.wordData e.address ^^^ e.data

/-- The check bits as a disturbed word is read. -/
def TakeStore.checkRead (st : TakeStore) (e : WordRead) : Byte := st.wordCheck e.address ^^^ e.check

/-- The class of a word read (R111): its test corrects one inverted bit and detects two. -/
def TakeStore.classOf (st : TakeStore) (e : WordRead) : WordClass :=
  match disturbed e with
  | 0 => .clean
  | 1 => .single
  | 2 => .double
  | _ => Config.wideError (st.dataRead e) (st.checkRead e)

/-- The syndrome of a word read, 0 for CLEAN (R111). -/
def TakeStore.syndromeOf (st : TakeStore) (e : WordRead) : Byte :=
  if st.classOf e = .clean then 0 else Config.syndrome (st.dataRead e) (st.checkRead e)

/-- The data bits handed to the reader of a word (R111): as read, or with one inverted bit corrected. -/
def TakeStore.handed (st : TakeStore) (e : WordRead) : BitVec 64 :=
  match st.classOf e with
  | .clean => st.dataRead e
  | .single =>
    if disturbed e = 1 then st.wordData e.address else Config.unusableData (st.dataRead e) (st.checkRead e)
  | .double => Config.unusableData (st.dataRead e) (st.checkRead e)

/-- The byte handed to a reader from a byte address, `errs` being the words disturbed in the read. -/
def TakeStore.readByte (st : TakeStore) (errs : List WordRead) (a : Nat) : Byte :=
  match errs.find? fun e => e.address == a / 8 with
  | none => takeByte st.mem a
  | some e => (st.handed e).extractLsb' (8 * (a % 8)) 8

/-- `n` bytes handed to a reader from a byte address on. -/
def TakeStore.readBytes (st : TakeStore) (errs : List WordRead) (a n : Nat) : List Byte :=
  (List.range n).map fun k => st.readByte errs (a + k)

/-! ## Errors of the memory -/

/-- One word offered to the memory-error capture record (R112, R113); a CLEAN one leaves it. -/
def offerError (reader : MemReader) (part : Word) (e : WordRead) (st : TakeStore) : TakeStore :=
  match st.errRecord with
  | none =>
    if st.classOf e = .double ∨ (st.classOf e = .single ∧ st.reportSingles = true) then
      { st with
        errRecord := some
          { address := e.address, syndrome := st.syndromeOf e, kind := st.classOf e, reader := reader, part := part
            doubleAfterSingle := false } }
    else st
  | some r =>
    if r.kind = .single ∧ st.classOf e = .double then
      { st with errRecord := some { r with doubleAfterSingle := true } }
    else st

/-- One word counted by its class (R111). -/
def countError (e : WordRead) (st : TakeStore) : TakeStore :=
  match st.classOf e with
  | .clean => st
  | .single => { st with correctable := satSucc 65535 st.correctable }
  | .double => { st with uncorrectable := satSucc 65535 st.uncorrectable }

/-- The disturbed words of one read, in the order reported: each is counted, then offered (R111, R112). -/
def takeErrors (reader : MemReader) (part : Word) : List WordRead → TakeStore → TakeStore
  | [], st => st
  | e :: rest, st => takeErrors reader part rest (offerError reader part e (countError e st))

/-! ## The directory -/

/-- The lowest directory entry with a property. -/
def findEntry (st : TakeStore) (p : DirEntry → Bool) : Option (Fin 32) :=
  (List.finRange 32).find? fun i => p st.dir[i]

/-- Entry i replaced by `f` of it. -/
def TakeStore.mapEntry (st : TakeStore) (i : Fin 32) (f : DirEntry → DirEntry) : TakeStore :=
  { st with dir := st.dir.set i.val (f st.dir[i]) i.isLt }

/-- Bytes of a record of a mask's channels: a 4-byte header and 4 bytes for each (R121). -/
def recordSize (mask : BitVec 12) : Nat := 4 + 4 * (maskChannels mask).length

/-- Records per block: floor(16,368 / record size) (R121). -/
def recordsPerBlock (mask : BitVec 12) : Nat := 16368 / recordSize mask

/-- The record count a block of a take holds: r for every block but the last (R122). -/
def blockRecords (e : DirEntry) (place : Nat) : Nat :=
  if place + 1 = e.blocks.length then e.length - place * e.perBlock else e.perBlock

/-- The block header of section 10.6. -/
def blockHeader (take sequence count next : Nat) : List Byte :=
  u16 take ++ (u16 sequence ++ (u16 count ++ (u16 next ++ List.replicate 8 0)))

/-- The next-block number of a take's last block (R122). -/
def noNextBlock : Nat := 0xFFFF

/-- The last block of an entry closed: the held word with its remaining bytes 0, then the block header (R122). -/
def closeLast (e : DirEntry) (next : Nat) (st : TakeStore) : TakeStore :=
  match e.blocks.getLast? with
  | none => { st with heldWord := none }
  | some b =>
    let st := match st.heldWord with
      | none => st
      | some (a, bytes) => writeWords a (bytes ++ List.replicate (8 - bytes.length) 0) st
    let place := e.blocks.length - 1
    { writeWords (b * blockBytes) (blockHeader e.take place (blockRecords e place) next) st with heldWord := none }

/-- A record's bytes stored at an address: whole words are written, a last half word is held (R122). -/
def storeRecord (a : Nat) (bytes : List Byte) (st : TakeStore) : TakeStore :=
  let start := match st.heldWord with
    | none => (a, bytes)
    | some (h, kept) => (h, kept ++ bytes)
  let whole := start.2.length / 8 * 8
  { writeWords start.1 (start.2.take whole) st with
    heldWord := if whole = start.2.length then none else some (start.1 + whole, start.2.drop whole) }

/-- The byte address of the record that an entry's length makes the next one, in its last block (R121). -/
def nextRecordAddress (e : DirEntry) : Nat :=
  e.blocks.getLastD 0 * blockBytes + 16 + e.length % e.perBlock * recordSize e.mask

/-- A record whose block stands ready is stored, and the entry's length and start timecode follow (R121). -/
def putRecord (i : Fin 32) (bytes : List Byte) (timecode : Word) (st : TakeStore) : TakeStore :=
  let e : DirEntry := st.dir[i]
  (storeRecord (nextRecordAddress e) bytes st).mapEntry i fun e =>
    { e with startTimecode := if e.length = 0 then timecode else e.startTimecode, length := e.length + 1 }

/-- A record appended to entry i (R122), with whether it was stored. Where the free list is empty at a block change,
the last block is closed and nothing is stored. -/
def appendRecord (i : Fin 32) (bytes : List Byte) (timecode : Word) (st : TakeStore) : TakeStore × Bool :=
  let e : DirEntry := st.dir[i]
  if e.length = e.blocks.length * e.perBlock then
    match st.free with
    | [] => (closeLast e noNextBlock st, false)
    | b :: rest =>
      let closed := closeLast e b st
      let lent := { closed with free := rest }.mapEntry i fun e => { e with blocks := e.blocks ++ [b] }
      (putRecord i bytes timecode lent, true)
  else (putRecord i bytes timecode st, true)

/-- Entry i ended COMPLETE: marks never reached are removed, the last block is closed (R120, R137). -/
def endEntry (i : Fin 32) (st : TakeStore) : TakeStore :=
  let e : DirEntry := st.dir[i]
  (closeLast e noNextBlock st).mapEntry i fun e =>
    { e with state := .complete, marks := e.marks.filter fun m => decide (m < e.length) }

/-- The bytes of a record (section 10.6): its three flags, its frame phase and the masked channels' values. -/
def recordBytes (frameStart slip marked : Bool) (phase : Nat) (values : List Int) : List Byte :=
  u8 ((if frameStart then 1 else 0) + (if slip then 2 else 0) + (if marked then 4 else 0)) ++
    (u8 phase ++ (0 :: 0 :: values.flatMap i32))

/-! ## The format -/

/-- FORMAT accepted: the directory, the free list and the bad set are emptied and the test begins at block 0
(R116). -/
def beginFormat (st : TakeStore) : TakeStore :=
  { st with
    state := .formatting, progress := 0, formatFailed := [], free := [], bad := []
    dir := Vector.replicate 32 emptyEntry, heldWord := none }

/-- The format's completion: every block that passed joins the free list, every block that failed the bad set
(R117). -/
def completeFormat (st : TakeStore) : TakeStore :=
  { st with
    state := .ready
    free := (List.range blockCount).filter fun n => !st.formatFailed.contains n
    bad := (List.range blockCount).filter fun n => st.formatFailed.contains n
    formatFailed := [] }

/-- Whether a word lies in a block (R110). -/
def wordInBlock (block a : Nat) : Bool := decide (a / blockWords = block)

/-- A block filled with the test pattern, which the manual does not give (R117; log entry 8). -/
def writePattern (block : Nat) (st : TakeStore) : TakeStore :=
  { st with
    mem := memForget st.mem (block * blockBytes) ((block + 1) * blockBytes)
    check := memForget st.check (block * blockWords) ((block + 1) * blockWords) }

/-- Whether a word read back fails the test: it reads DOUBLE, or its data differ from the pattern (R117). -/
def TakeStore.failsTest (st : TakeStore) (e : WordRead) : Bool :=
  st.classOf e == .double || st.handed e != st.wordData e.address

/-- The format finishes the block its progress names (R117): the pattern is written and read back, its words counted and
offered with reader FORMAT; the block fails when one of its words fails. -/
def testBlock (part : Word) (errors : List WordRead) (differ : List Nat) (st : TakeStore) : TakeStore :=
  let block := st.progress
  let errs := errors.filter fun e => wordInBlock block e.address
  let st := writePattern block st
  let fails := errs.any st.failsTest || differ.any (wordInBlock block)
  let st := takeErrors .format part errs st
  let st :=
    { st with
      progress := block + 1
      formatFailed := if fails then st.formatFailed ++ [block] else st.formatFailed }
  if st.progress = blockCount then completeFormat st else st

/-- A format ended by SOFT_RESET (R117, R126). -/
def endFormat (st : TakeStore) : TakeStore :=
  if st.state = .formatting then
    { st with state := .unformatted, progress := 0, formatFailed := [], free := [], bad := [] }
  else st

/-! ## Reading a take -/

/-- The read of one record of an entry (R121, R123); `first` says that it is the starting record. -/
def readOf (i : Fin 32) (e : DirEntry) (index : Nat) (first : Bool) : ReadReq :=
  let place := index / e.perBlock
  { wanted := true, entry := i, take := e.take, mask := e.mask, index := index
    block := e.blocks.getD place 0, position := index % e.perBlock, size := recordSize e.mask
    header := first || decide (index % e.perBlock = 0)
    sequence := place, recordCount := blockRecords e place
    nextBlock := e.blocks.getD (place + 1) noNextBlock }

/-- The byte address at which a read's record begins (R121). -/
def ReadReq.address (r : ReadReq) : Nat := r.block * blockBytes + 16 + r.position * r.size

/-- Whether a word is one of the two of the read's block header. -/
def ReadReq.headerWord (r : ReadReq) (a : Nat) : Bool :=
  decide (r.block * blockWords ≤ a) && decide (a < r.block * blockWords + 2)

/-- Whether a word is one that the read's record occupies. -/
def ReadReq.recordWord (r : ReadReq) (a : Nat) : Bool :=
  decide (r.address / 8 ≤ a) && decide (a ≤ (r.address + r.size - 1) / 8)

/-- Whether the header of the read's block, as it is read, holds what it must (R123). -/
def headerMatches (st : TakeStore) (errs : List WordRead) (r : ReadReq) : Bool :=
  st.readBytes errs (r.block * blockBytes) 8 ==
    (blockHeader r.take r.sequence r.recordCount r.nextBlock).take 8

/-- The channel values of a record as it is read (section 10.6). -/
def recordValues (st : TakeStore) (errs : List WordRead) (r : ReadReq) : List Int :=
  (List.range (maskChannels r.mask).length).map fun m =>
    (wordAt (st.readBytes errs (r.address + 4 + 4 * m) 4) 0).toInt

/-- A record as it is read, with its header items and values, under its good or bad mark (R123). -/
def readRecord (st : TakeStore) (errs : List WordRead) (r : ReadReq) (bad : Bool) : QueuedRecord :=
  let flags := st.readByte errs r.address
  { index := r.index, good := !bad
    frameStart := flags.getLsbD 0, slip := flags.getLsbD 1, marked := flags.getLsbD 2
    phase := (st.readByte errs (r.address + 1)).toNat, values := recordValues st errs r }

/-- What a read delivers: the store with the disturbed words counted and offered and the block's header judged, and
the record with its good or bad mark (R111, R112, R123). -/
def deliver (part : Word) (errors : List WordRead) (r : ReadReq) (st : TakeStore) : TakeStore × QueuedRecord :=
  let errs := errors.filter fun e => r.recordWord e.address || (r.header && r.headerWord e.address)
  let doubleIn (p : Nat → Bool) : Bool := errs.any fun e => st.classOf e == .double && p e.address
  let blockBad := if r.header then doubleIn r.headerWord || !headerMatches st errs r else st.blockBad
  let bad := blockBad || doubleIn r.recordWord
  let record := readRecord st errs r bad
  let st := { takeErrors .playback part errs st with blockBad := blockBad, reading := none }
  let e : DirEntry := st.dir[r.entry]
  let st :=
    if bad = true ∧ e.state = .complete ∧ e.take = r.take then
      st.mapEntry r.entry fun e => { e with damaged := true }
    else st
  (st, record)

end Sys2Proof.Machine
end

