-- ==== Sys2Proof/Machine/TakeEngine.lean ====
section
/-! DEFINITION. The Take Engine's own operations: the reference and the frame phase (R127 to R130), the endings of a
recording (R137, R139), the prefetch (R147) and the abort of a playback (R149). -/

namespace Sys2Proof.Machine

/-! ## The reference -/

/-- The frame-start kind of the next outbound frame (R129). -/
def nextStart (r : Reference) : FrameStart :=
  if r.pulseSeen then .pulse else if r.cyclesPerFrame ≤ r.phase + 1 then .flywheel else .none

/-- The counts of R129 at the next outbound frame, of a given frame-start kind: phase, distance and frames since
pulse. The frames since the previous frame-start period are the phase plus this one (log entry 14). -/
def placeCounts (k : FrameStart) (r : Reference) : Reference :=
  { r with
    pulseSeen := false
    startKind := k
    phase := if k = .none then r.phase + 1 else 0
    distance := if k = .none then r.distance else min (r.phase + 1) 255
    sincePulse := if k = .pulse then 0 else min (r.sincePulse + 1) (2 * r.cyclesPerFrame) }

/-- The sync state change of R130, its rows tested in order, with whether a slip was found. -/
def syncUpdate (r : Reference) : Reference × Bool :=
  if r.sync ≠ .noRef ∧ 2 * r.cyclesPerFrame ≤ r.sincePulse then ({ r with sync := .noRef, goodRun := 0 }, false)
  else
    match r.sync with
    | .noRef =>
      if r.startKind = .pulse then ({ r with sync := .measuring, goodRun := 0 }, false) else (r, false)
    | .measuring =>
      if r.startKind = .pulse ∧ r.lastStart = .pulse ∧ r.distance = r.cyclesPerFrame then
        ({ r with
            goodRun := min (r.goodRun + 1) 3
            sync := if 3 ≤ r.goodRun + 1 then .locked else .measuring }, false)
      else if r.startKind ≠ .none then ({ r with goodRun := 0 }, false)
      else (r, false)
    | .locked =>
      if r.startKind = .none ∨ (r.startKind = .pulse ∧ r.distance = r.cyclesPerFrame) then (r, false)
      else ({ r with sync := .measuring, goodRun := 0, slips := satSucc 65535 r.slips }, true)

/-- The placement of an outbound frame (R129, R130): the counts, the sync state, then the last frame-start kind. -/
def placeReference (r : Reference) : Reference × Bool :=
  let u := syncUpdate (placeCounts (nextStart r) r)
  ({ u.1 with lastStart := if u.1.startKind = .none then u.1.lastStart else u.1.startKind }, u.2)

/-- A slip handed to a running recording and to the running slips of a playback (R130, R138). -/
def handSlip (s : State) : State :=
  let s :=
    if s.take.recording.state = .recording then
      s.setStore (s.store.mapEntry s.take.recording.entry fun e => { e with slipped := true })
    else s
  if s.take.play.state = .running then
    s.setTake { s.take with play := { s.take.play with runSlips := satSucc 65535 s.take.play.runSlips } }
  else s

/-- The next outbound frame placed in the video frame (R129), its slip handed on to what runs before the frame starts
anything (log entries 25 and 53). -/
def placeNext (s : State) : State × Placement :=
  let u := placeReference s.take.ref
  let s := s.setTake { s.take with ref := u.1 }
  (if u.2 then handSlip s else s,
    { phase := u.1.phase, start := u.1.startKind, slip := u.2, sync := u.1.sync })

/-- The placement of the frame in hand: the one made ahead of it, if any, or a new one (R129; log entry 3). -/
def placeFrame (s : State) : State × Placement :=
  match s.take.placed with
  | some p => (s.setTake { s.take with placed := none }, p)
  | none => placeNext s

/-! ## Recording -/

/-- The recording ends: its entry becomes COMPLETE and the record state IDLE (R137). -/
def endRecording (s : State) : State :=
  let s := s.setStore (endEntry s.take.recording.entry s.store)
  s.setTake { s.take with recording := idleRecording }

/-- An active recording ends INTERRUPTED (R139). -/
def interruptRecording (s : State) : State :=
  if s.take.recording.active then
    endRecording
      (s.setStore (s.store.mapEntry s.take.recording.entry fun e => { e with interrupted := true }))
  else s

/-! ## Prefetch -/

/-- The next read is begun where none is in progress, the take has an index left and the queue has room (R147). -/
def startRead (s : State) : State :=
  let p := s.take.play
  let e : DirEntry := s.store.dir[p.entry]
  if p.active = true ∧ s.store.reading = none ∧ p.nextRead < e.length ∧ p.queue.length < 512 then
    let s := s.setStore { s.store with reading := some (readOf p.entry e p.nextRead (p.nextRead == p.cueRecord)) }
    s.setTake { s.take with play := { p with nextRead := p.nextRead + 1 } }
  else s

/-- A read in progress is no longer wanted: its record will be discarded (R147). -/
def dropRead (s : State) : State :=
  s.setStore { s.store with reading := s.store.reading.map fun r => { r with wanted := false } }

/-! ## Aborting a playback -/

/-- The take hold of every TAKE and TAKE_TRIM channel is set from its output (R15). -/
def holdTakes (s : State) : State :=
  s.mapChans fun n c => if c.onTake then { c with takeHold := holdFromOutput c (s.lensOf n) } else c

/-- The playback becomes ABORTED at the play index, with a reason (R149). -/
def abortPlay (reason : AbortReason) (s : State) : State :=
  let p := s.take.play
  holdTakes <| dropRead <|
    s.setTake
      { s.take with
        play :=
          { p with state := .aborted, abort := some (p.index, reason), queue := [], lineTrigger := false
                   firstFrame := false } }

/-- The playback aborted where it is active (R149). -/
def abortActive (reason : AbortReason) (s : State) : State :=
  if s.take.play.active then abortPlay reason s else s

/-- A stop begins: an active playback is aborted and an active recording interrupted (R67 item 3). -/
def stopBegins (s : State) : State := interruptRecording (abortActive .stop s)

/-- A cued take starts (R145): the frame in hand is its first RUNNING frame, on which the play index is the cue
record. -/
def startPlay (s : State) : State :=
  let p := s.take.play
  s.setTake
    { s.take with
      play := { p with state := .running, index := p.cueRecord, lineTrigger := false, firstFrame := true } }

end Sys2Proof.Machine
end

