-- ==== Sys2Proof/Machine/Stop.lean ====
section
/-! DEFINITION. The Stop Controller (chapter 4): a raised cause taken, the fault record, the stops, the standing
conditions and the Resume; and the arming aborted by an immediate cause (R197). -/

namespace Sys2Proof.Machine

/-! ## Causes -/

/-- The class of a cause (section 4.2). -/
def CauseName.cls : CauseName → CauseClass
  | .zoneStop => .c
  | .consoleStop => .c
  | .gripReleased => .c
  | .consoleSilent => .c
  | .feedbackLost => .c
  | .linkFault => .c
  | .limitHit => .c
  | .playbackData => .c
  | .supplyFail => .c
  | .followingError => .i
  | .driveFault => .i
  | .estopChain => .i
  | .stopTimeout => .i
  | .zoneTableCorrupt => .i

/-- A cause that carries nothing. -/
def plainCause (n : CauseName) : Cause := { name := n, channel := none, zone := none, value := none }

/-- A cause that carries a channel. -/
def channelCause (n : CauseName) (ch : Fin 12) : Cause := { name := n, channel := some ch, zone := none, value := none }

/-- ZONE_STOP with its zone id and clearance (R57). -/
def zoneCause (id : Nat) (clearance : Int) : Cause :=
  { name := .zoneStop, channel := none, zone := some id, value := some clearance }

/-- LINK_FAULT with its port and counter kind: the port code in byte 0 of the value, the kind code in byte 1
(R192). -/
def linkCause (p : PortId) (k : ErrKind) : Cause :=
  { name := .linkFault, channel := none, zone := none, value := some ((portCode p + 256 * errKindCode k : Nat) : Int) }

/-- FOLLOWING_ERROR with its channel and error (R175). -/
def followCause (ch : Fin 12) (error : Nat) : Cause :=
  { name := .followingError, channel := some ch, zone := none, value := some error }

/-! ## The fault record -/

/-- A cause entered in an EMPTY record: it is filled and LOCKED (R85). -/
def newFault (c : Cause) (s : State) : FaultRecord :=
  { cause := c, cls := c.name.cls, mode := s.mode.mode, safety := s.stop.safety, part := s.link.part
    timecode := consoleTimecode s, snapshot := snapshotOf s, laterCount := 0, lastLater := none
    highest := c.name.cls }

/-- A cause entered in a LOCKED record (R86). -/
def laterFault (c : Cause) (part : Word) (r : FaultRecord) : FaultRecord :=
  { r with
    laterCount := satSucc 255 r.laterCount
    lastLater := some (c.name, part)
    highest := if c.name.cls = .i then .i else r.highest }

/-- A cause entered in the fault record (R85, R86). -/
def enterCause (c : Cause) (s : State) : State :=
  match s.stop.fault with
  | none => s.setStop { s.stop with fault := some (newFault c s) }
  | some r => s.setStop { s.stop with fault := some (laterFault c s.link.part r) }

/-- A cause handed to the Capture Unit for its ANY_STOP condition (R65, R159). -/
def handCause (c : Cause) (s : State) : State :=
  testCapture .anyStop s.take.play.state (fun _ => some (.cause c.name c.name.cls)) s.link.part (consoleTimecode s) s

/-! ## The output lines -/

/-- ESTOP_OUT opens and BRAKE engages (R81). -/
def openChain (s : State) : State :=
  s.setPins { s.pins with estopOutClosed := false, brakeReleased := false }

/-- ESTOP_OUT closes and BRAKE is released (R81). -/
def closeChain (s : State) : State :=
  s.setPins { s.pins with estopOutClosed := true, brakeReleased := true }

/-! ## Stops -/

/-- A controlled stop begins (R67). -/
def enterStopping (n : CauseName) (s : State) : State :=
  stopBegins <|
    s.setStop { s.stop with safety := .stopping, stopTimer := 0, softStop := n == .gripReleased }

/-- Every running calibration ends FAILED with a reason (R106). -/
def failCalibrations (reason : CalFailure) (s : State) : State :=
  s.mapAllLens fun _ l => failCalibration reason l

/-- The drives are dropped (R68). -/
def enterDropped (s : State) : State :=
  let wasNormal := s.stop.safety == .normal
  let s := openChain (s.setStop { s.stop with safety := .dropped, softStop := false })
  let s := if wasNormal then stopBegins s else s
  failCalibrations .dropped s

/-- A later cause clears the soft-stop flag unless it is GRIP_RELEASED (R66). -/
def laterSoft (n : CauseName) (s : State) : State :=
  if n = .gripReleased then s else s.setStop { s.stop with softStop := false }

/-- A cause acts on the safety state of a LIVE crane by its class (R67, R68, R69). -/
def actLive (n : CauseName) (s : State) : State :=
  match n.cls, s.stop.safety with
  | .c, .normal => enterStopping n s
  | .c, .stopping => laterSoft n s
  | .c, .held => laterSoft n s
  | .c, .dropped => s
  | .i, .dropped => s
  | .i, _ => enterDropped s

/-! ## The end of an arming -/

/-- A PENDING check becomes NOT_RUN (R197). -/
def dropPending : CheckMark → CheckMark
  | .pending => .notRun
  | m => m

/-- Every check still PENDING is marked NOT_RUN (R197). -/
def Checks.dropPending (c : Checks) : Checks :=
  { channel := Machine.dropPending c.channel, geometry := Machine.dropPending c.geometry
    zones := Machine.dropPending c.zones, link := Machine.dropPending c.link
    drives := Machine.dropPending c.drives, estop := Machine.dropPending c.estop
    supply := Machine.dropPending c.supply, sync := Machine.dropPending c.sync }

/-- The mode becomes PARKED at the end of an arming, with the effects R197 lists beside the record. -/
def leaveArming (s : State) : State :=
  openChain (s.setMode { s.mode with mode := .parked, granted := false })

/-- An arming is aborted by an event (R197): `mark` fails the check concerned, `detail` adds the channel. -/
def abortArming (result : CheckResult) (event : AbortEvent) (mark : Checks → Checks)
    (detail : Option CheckDetail) (s : State) : State :=
  let r := s.mode.check
  leaveArming <|
    s.setMode
      { s.mode with
        check :=
          { r with
            result := result, checks := (mark r.checks).dropPending
            detail := match detail with
              | none => r.detail
              | some d => some d
            abortEvent := some event, endedAt := some s.link.part, periods := s.mode.count } }

/-- The channel and drive status that failed DRIVES (R198). For FOLLOWING_ERROR, which no drive status failed, the
status is the channel's of the latest matched return (log entry 79). -/
def drivesDetail (c : Cause) (s : State) : Option CheckDetail :=
  c.channel.map fun ch => { channel := some ch, item := (s.chan ch).status.toNat }

/-- An immediate cause taken in ARMING aborts the arming with the check concerned failed (R197). STOP_TIMEOUT cannot
arise there, and a controlled cause aborts nothing (R65). -/
def abortByCause (c : Cause) (s : State) : State :=
  match c.name with
  | .followingError =>
    abortArming .failed .followingError (fun k => { k with drives := .fail }) (drivesDetail c s) s
  | .driveFault => abortArming .failed .driveFault (fun k => { k with drives := .fail }) (drivesDetail c s) s
  | .estopChain => abortArming .failed .estopChain (fun k => { k with estop := .fail }) none s
  | .zoneTableCorrupt => abortArming .failed .zoneTableCorrupt (fun k => { k with zones := .fail }) none s
  | _ => s

/-! ## A cause taken -/

/-- The Stop Controller takes a raised cause by the crane mode it finds (R65). -/
def takeCause (c : Cause) (s : State) : State :=
  match s.mode.mode with
  | .parked => s
  | .arming => abortByCause c (handCause c (enterCause c s))
  | .live => actLive c.name (handCause c (enterCause c s))

/-- Causes raised together, taken one after the other in the order given. -/
def takeCauses : List Cause → State → State
  | [], s => s
  | c :: rest, s => takeCauses rest (takeCause c s)

/-! ## Standing conditions and Resume -/

/-- A standing condition of R77, with the zone id that ZONE carries. -/
inductive Standing where
  | zone (id : Nat)
  | grip | console | feedback | estop | supply
deriving DecidableEq, Repr

/-- The condition code of a refused RESUME: ZONE 0 to SUPPLY 5 (R185). -/
def Standing.code : Standing → Nat
  | .zone _ => 0
  | .grip => 1
  | .console => 2
  | .feedback => 3
  | .estop => 4
  | .supply => 5

/-- The zone id of a refused RESUME, 0 unless the condition is ZONE (R185). -/
def Standing.zoneId : Standing → Nat
  | .zone id => id
  | _ => 0

/-- The conditions that stand, in the order of R77's table, with the grip memory as given. -/
def standing (grip : Bool) (s : State) : List Standing :=
  (match s.zone.stopSet with
    | [] => []
    | id :: _ => [.zone id]) ++
  ((if grip then [] else [.grip]) ++
  ((if s.link.consoleAbsent then [.console] else []) ++
  ((if s.link.feedbackLost then [.feedback] else []) ++
  ((if s.pins.estopInClosed then [] else [.estop]) ++
  (if s.pins.supplyFail then [.supply] else [])))))

/-- An accepted Resume (R78). The catch of LIVE channels and the pending sources follow at the first frame conditioned
in NORMAL. -/
def resumed (s : State) : State :=
  let s := s.setStop { s.stop with safety := .normal, softStop := false, stopReqMemory := false }
  s.setCond { s.cond with resumeCatch := true }

/-- The automatic resume tested at a good console frame (R79). -/
def autoResume (flags : Byte) (s : State) : State :=
  if s.mode.mode = .live ∧ s.stop.safety = .held ∧ s.stop.softStop = true ∧ gripFlag flags = true ∧
      standing true s = [] then
    let s := resumed s
    s.setStop { s.stop with autoResumes := satSucc 65535 s.stop.autoResumes }
  else s

/-- STOP_REQ newly set raises CONSOLE_STOP (R74). -/
def stopReqArrives (flags : Byte) (s : State) : State :=
  if stopReqFlag flags = true ∧ s.stop.stopReqMemory = false then takeCause (plainCause .consoleStop) s else s

/-- GRIP newly clear raises GRIP_RELEASED (R75). -/
def gripArrives (flags : Byte) (s : State) : State :=
  if gripFlag flags = false ∧ s.stop.gripMemory = true then takeCause (plainCause .gripReleased) s else s

/-- The flags of a good console frame: their causes, the two memories (R73), then the automatic resume. -/
def takeFlags (flags : Byte) (s : State) : State :=
  let s := gripArrives flags (stopReqArrives flags s)
  autoResume flags
    (s.setStop { s.stop with stopReqMemory := stopReqFlag flags, gripMemory := gripFlag flags })

end Sys2Proof.Machine
end

