-- ==== Sys2Proof/Machine/LineEvents.lean ====
section
/-! DEFINITION. The events of the discrete lines (R80, R83, R84, R128, R145, R201), each taken only where the level or edge
has held for the filter time of R202. -/

namespace Sys2Proof.Machine

/-- REF_PULSE (R128; filter 1 µs). -/
def execRefPulse (heldFor : Nat) (s : State) : Host.Outcome State Fault Refusal :=
  .next (if 1 ≤ heldFor then s.setTake { s.take with ref := { s.take.ref with pulseSeen := true } } else s)

/-- TRIGGER_EDGE (R145; filter 1 µs): taken while CUED with trigger kind LINE, as SET_TRIGGER last set the kind (log entry
58). -/
def execTriggerEdge (heldFor : Nat) (s : State) : Host.Outcome State Fault Refusal :=
  .next
    (if 1 ≤ heldFor ∧ s.take.play.state = .cued ∧ s.take.trigger = .line then
      s.setTake { s.take with play := { s.take.play with lineTrigger := true } }
    else s)

/-- ESTOP_IN_OPEN (R80; filter 100 µs): ESTOP_CHAIN is raised once at each opening. -/
def execEstopInOpen (heldFor : Nat) (s : State) : Host.Outcome State Fault Refusal :=
  .next
    (if 100 ≤ heldFor ∧ s.pins.estopInClosed = true then
      takeCause (plainCause .estopChain) (s.setPins { s.pins with estopInClosed := false })
    else s)

/-- ESTOP_IN_CLOSE (R80; filter 100 µs). -/
def execEstopInClose (heldFor : Nat) (s : State) : Host.Outcome State Fault Refusal :=
  .next (if 100 ≤ heldFor then s.setPins { s.pins with estopInClosed := true } else s)

/-- SUPPLY_WARN_CHANGE (R83; filter 100 µs): the supply-warning flag follows the line. -/
def execSupplyWarnChange (level : LineSample) (s : State) : Host.Outcome State Fault Refusal :=
  .next (if 100 ≤ level.heldFor then s.setPins { s.pins with supplyWarn := level.asserted } else s)

/-- SUPPLY_FAIL_ASSERT (R84; filter 100 µs): SUPPLY_FAIL is raised once at each assertion. -/
def execSupplyFailAssert (heldFor : Nat) (s : State) : Host.Outcome State Fault Refusal :=
  .next
    (if 100 ≤ heldFor ∧ s.pins.supplyFail = false then
      takeCause (plainCause .supplyFail) (s.setPins { s.pins with supplyFail := true })
    else s)

/-- SUPPLY_FAIL_DEASSERT (R84; filter 100 µs). -/
def execSupplyFailDeassert (heldFor : Nat) (s : State) : Host.Outcome State Fault Refusal :=
  .next (if 100 ≤ heldFor then s.setPins { s.pins with supplyFail := false } else s)

/-- The state after a pin reset (R201): every block at its reset values. The input lines stand at their levels, the bytes
of the external take memory stay where they are (R115), and the commands that wait go on waiting. -/
def resetPart (s : State) : State :=
  { State.reset with
    pending := s.pending
    pins := { s.pins with estopOutClosed := false, brakeReleased := false }
    store := { resetStore with mem := s.store.mem, check := s.store.check } }

/-- PIN_RESET (R201; an assertion shorter than 10 µs is not taken as a reset). -/
def execPinReset (heldFor : Nat) (s : State) : Host.Outcome State Fault Refusal :=
  .next (if 10 ≤ heldFor then resetPart s else s)

end Sys2Proof.Machine
end

