-- ==== Sys2Proof/Machine/Flags.lean ====
section
/-! DEFINITION. The flag computations: a receiver's sync state and score (R166), an error counter with its
at-threshold status and spent flag (R168), and the period flags of a limited channel (R22, R23). -/

namespace Sys2Proof.Machine

/-- A valid code group taken in (R166). -/
def rxValid (r : Receiver) : Receiver :=
  match r.sync with
  | .unsync =>
    if 32 ≤ r.validRun + 1 then { sync := .symbol, validRun := r.validRun + 1, score := 0, goodRun := 0 }
    else { r with validRun := r.validRun + 1 }
  | _ =>
    { r with
      validRun := r.validRun + 1
      score := if (r.validRun + 1) % 16 = 0 then r.score - 1 else r.score }

/-- An invalid code group taken in (R166). -/
def rxInvalid (r : Receiver) : Receiver :=
  match r.sync with
  | .unsync => { r with validRun := 0 }
  | _ =>
    if 8 ≤ r.score + 1 then { r with sync := .unsync, validRun := 0, score := 0 }
    else { r with validRun := 0, score := r.score + 1 }

/-- A whole frame taken in, good or bad (R166). -/
def rxFrame (good : Bool) (r : Receiver) : Receiver :=
  match r.sync with
  | .symbol =>
    if good then
      if 2 ≤ r.goodRun + 1 then { r with sync := .framed, goodRun := 2 } else { r with goodRun := r.goodRun + 1 }
    else { r with goodRun := 0 }
  | _ => r

/-- A receiver that takes in frames and counts errors: in SYMBOL or FRAMED (R166, R168). -/
def Receiver.listening (r : Receiver) : Bool := r.sync != .unsync

/-- A counter's increase under its wrap mode (R168). -/
def countUp (roll : Bool) (c : Counter) : Counter :=
  if c.count < 255 then { c with count := c.count + 1 }
  else if roll then { c with count := 0, spent := false }
  else c

/-- Whether a counter, after its increase, has reached its threshold (R168). -/
def reaches (threshold : Nat) (c : Counter) : Bool := decide (threshold ≤ c.count) && !c.spent

/-- One error counted (R168), with whether the counter reached its threshold. -/
def errorStep (threshold : Nat) (roll autoClear : Bool) (c : Counter) : Counter × Bool :=
  let c := countUp roll c
  if reaches threshold c then
    ({ count := if autoClear then 0 else c.count, atThreshold := true, spent := !autoClear }, true)
  else (c, false)

/-- The end of a step of the limiter or of the ramp (R23 step 7): the position clamped at the effective limits, the
velocity recomputed, and whether a limit was hit. -/
def limitStep (lo hi p v : Int) : Int × Int × Bool :=
  if p + v < lo then (lo, lo - p, true)
  else if hi < p + v then (hi, hi - p, true)
  else (p + v, v, false)

end Sys2Proof.Machine
end

