-- ==== Sys2Proof/Machine/Tracking.lean ====
section
/-! DEFINITION. The frame on the wire (section 10.6), the tracking record (R152 to R155) and the frames sent toward
the console (R177). -/

namespace Sys2Proof.Machine

/-! ## Frames and bytes -/

/-- Length of a frame in bytes (R165). -/
def frameLength : Nat := 160

/-- Whether a string is a whole frame whose CRC-32 over bytes 0 to 155 equals bytes 156 to 159 (R167). -/
def frameIntact (bytes : List Byte) : Bool :=
  decide (bytes.length = frameLength) && crc32 (bytes.take 156) == wordAt bytes 156

/-- A frame read from its bytes (section 10.6). -/
def parseFrame (bytes : List Byte) : Frame :=
  { kind := byteAt bytes 0, flags := byteAt bytes 1, cycle := halfAt bytes 2, timecode := wordAt bytes 4
    slots := Vector.ofFn fun n : Fin 12 => { flag := byteAt bytes (8 + 5 * n), value := wordAt bytes (9 + 5 * n) }
    service := bytesAt bytes 68 40
    tracking := bytesAt bytes 108 48 }

/-- Bytes 0 to 155 of a frame (section 10.6). -/
def frameBody (f : Frame) : List Byte :=
  f.kind :: f.flags :: (le16 f.cycle ++ (le32 f.timecode ++
    ((f.slots.toList.flatMap fun s => s.flag :: le32 s.value) ++ (f.service ++ f.tracking))))

/-- The frame as it leaves a port, its CRC computed anew (R173, R177). -/
def frameBytes (f : Frame) : List Byte := frameBody f ++ le32 (crc32 (frameBody f))

/-! ## The tracking record -/

/-- The seven tracking fields in their order, each with its bytes and whether its present bit may be set
(R153). -/
def trackingFields (part timecode : Word) (phase : Nat) (sync : RefSync) (s : State) : List (Bool × List Byte) :=
  let lensField (r : Role) : List Byte :=
    match roleHolder s.cond.chans .lens r with
    | none => i32 0
    | some n => i32 ((s.lensOf n).feedback.getD 0)
  let act := takeActivity s.take
  [ (true, le32 part),
    (true, le32 timecode ++ (u8 phase ++ u8 (refSyncCode sync))),
    (match s.geo.head with
      | none => (false, List.replicate 12 0)
      | some p => (true, i32 p.x ++ (i32 p.y ++ i32 p.z))),
    (true, [Role.pan, .tilt, .roll].flatMap fun r => i32 ((roleFeedback s.cond.chans r).getD 0)),
    (true, [Role.zoom, .focus, .iris].flatMap lensField),
    (true, u8 (activityCode act.1) ++ (u32 act.2).take 3),
    (true, [BitVec.ofNat 8 (safetyCode s.stop.safety + if 256 ≤ s.zone.scale then 128 else 0),
      BitVec.ofNat 8 (min s.zone.scale 255)]) ]

/-- The walk of R154 over the fields: a field whose embed bit is set and which fits before the end of the 48-byte area
is placed; the walk answers the present-mask and the bytes written so far. -/
def placeFields (embed : BitVec 7) : List (Bool × List Byte) → Nat → Nat → List Byte → Nat × List Byte
  | [], _, mask, out => (mask, out)
  | (present, bytes) :: rest, i, mask, out =>
    if embed.getLsbD i = true ∧ 1 + out.length + bytes.length ≤ 48 then
      placeFields embed rest (i + 1) (if present then mask + 2 ^ i else mask) (out ++ bytes)
    else placeFields embed rest (i + 1) mask out

/-- The whole tracking area of 48 bytes (R152, R154). -/
def trackingArea (embed : BitVec 7) (fields : List (Bool × List Byte)) : List Byte :=
  let r := placeFields embed fields 0 0 []
  BitVec.ofNat 8 r.1 :: (r.2 ++ List.replicate (47 - r.2.length) 0)

/-- The tracking record written for the return of an in-flight entry, or for the constructed return that stands for it
(R155). -/
def trackingRecord (e : InFlight) (s : State) : List Byte :=
  trackingArea s.capture.embed (trackingFields e.part e.timecode e.phase e.sync s)

/-! ## Frames toward the console -/

/-- The service field of a frame sent on port C (R177, R181): the entry's tag and reply, or tag 0, result OK and data
length 0. -/
def replyField (r : Option (Byte × Reply)) : List Byte :=
  match r with
  | none => 0 :: 0 :: 0 :: (List.range 37).map fun k => Config.replyPad (3 + k)
  | some (tag, reply) =>
    tag :: BitVec.ofNat 8 (resultCode reply.result) :: BitVec.ofNat 8 reply.data.length ::
      (reply.data ++ (List.range (37 - reply.data.length)).map fun k => Config.replyPad (3 + reply.data.length + k))

/-- The kind a frame toward the console carries (R177). -/
def returnKind : FrameKind → Byte
  | .cycle => kindReturn
  | .subst => kindSubst

/-- The cycle number a frame toward the console carries (R177). -/
def returnCycle (e : InFlight) (offset : Half) : Half :=
  match e.consoleCycle with
  | some c => c
  | none => e.part.setWidth 16 - offset

/-- A frame handed to port C's transmitter, after those before it (R165). -/
def sendC (f : Frame) (s : State) : State := s.setLink { s.link with sentC := s.link.sentC ++ [f] }

/-- A matched return forwarded to the console (R177). -/
def forwardReturn (e : InFlight) (f : Frame) (s : State) : State :=
  sendC
    { f with
      kind := returnKind e.kind, cycle := returnCycle e s.link.offset, service := replyField e.service
      tracking := trackingRecord e s } s

/-- A constructed return sent in place of a lost one (R177): flags clear, the entry's timecode and output values, the
status STALE in every slot. -/
def sendConstructed (e : InFlight) (s : State) : State :=
  sendC
    { kind := returnKind e.kind, flags := 0, cycle := returnCycle e s.link.offset, timecode := e.timecode
      slots := Vector.ofFn fun n : Fin 12 =>
        { flag := statusStale ++ Config.staleSlotLow n, value := BitVec.ofInt 32 (e.outputs[n]).value }
      service := replyField e.service
      tracking := trackingRecord e s } s

end Sys2Proof.Machine
end

