-- ==== Sys2Proof/Machine/Link.lean ====
section
/-! DEFINITION. The Link Unit's own operations (chapter 9): errors counted on a port, entries lost, entries timed out,
frames sent on port D. -/

namespace Sys2Proof.Machine

/-- A port of the link. -/
def Link.port (l : Link) : PortId → Port
  | .c => l.portC
  | .d => l.portD

/-- A port replaced. -/
def Link.putPort (l : Link) (p : PortId) (x : Port) : Link :=
  match p with
  | .c => { l with portC := x }
  | .d => { l with portD := x }

/-- A port's receiver replaced. -/
def setRx (p : PortId) (r : Receiver) (s : State) : State :=
  s.setLink (s.link.putPort p { s.link.port p with rx := r })

/-- One error of a kind counted on a port (R168). A counter that reaches its threshold with its kind masked in raises
LINK_FAULT. -/
def portError (p : PortId) (k : ErrKind) (s : State) : State :=
  let port := s.link.port p
  if port.rx.listening then
    let u := errorStep port.threshold (port.roll.get k) port.autoClear (port.counters.get k)
    let s := s.setLink (s.link.putPort p { port with counters := port.counters.put k u.1 })
    if u.2 = true ∧ port.faultIn.get k = true then takeCause (linkCause p k) s else s
  else s

/-- Whether the next error of a kind on a port reaches the counter's threshold (R168). -/
def nextReaches (p : PortId) (k : ErrKind) (s : State) : Bool :=
  let port := s.link.port p
  port.rx.listening && (errorStep port.threshold (port.roll.get k) port.autoClear (port.counters.get k)).2

/-- What follows when an entry has been removed as LOST (R176): the losses counted, FEEDBACK_LOST at the third, the
stall windows emptied, a constructed return sent. -/
def afterLoss (e : InFlight) (s : State) : State :=
  let n := satSucc 255 s.link.lossCount
  let third := s.link.lossCount + 1 = 3
  let s := s.setLink { s.link with lossCount := n, feedbackLost := s.link.feedbackLost || decide third }
  let s := if third then takeCause (plainCause .feedbackLost) s else s
  let s := s.setLink { s.link with totalLost := satSucc 65535 s.link.totalLost, armingLoss := true }
  sendConstructed e (s.mapAllLens fun _ l => emptyWindow l)

/-- The oldest in-flight entry is removed as LOST (R176). -/
def loseOldest (s : State) : State :=
  match s.link.inFlight with
  | [] => s
  | e :: rest => afterLoss e (s.setLink { s.link with inFlight := rest })

/-- The oldest entries are removed as LOST, `n` of them, oldest first. -/
def loseEntries : Nat → State → State
  | 0, s => s
  | n + 1, s => loseEntries n (loseOldest s)

/-- An entry is as old as the return timeout (R176). -/
def timedOut (l : Link) (now : Nat) (e : InFlight) : Bool := decide (e.sendTime + l.returnTimeout ≤ now)

/-- Every entry that has timed out by now is removed as LOST, oldest first (R176). Send times rise along the list. -/
def expireEntries (s : State) : State :=
  loseEntries (s.link.inFlight.takeWhile (timedOut s.link s.timer)).length s

/-- The in-flight entry of a frame that starts its transmission (R173). -/
def entryOf (o : OutFrame) (now : Nat) : InFlight :=
  { part := o.part, consoleCycle := o.consoleCycle, kind := o.kind, sendTime := now, timecode := o.timecode
    phase := o.phase, sync := o.sync, service := o.service
    outputs := Vector.ofFn fun n : Fin 12 =>
      { value := (o.frame.slots[n]).value.toInt, enable := (o.frame.slots[n]).flag.getLsbD 0
        calibrated := o.calibrated[n] } }

/-- The frame at the head of port D's queue starts its transmission: a fifth entry first loses the oldest, then the
frame's entry is appended (R173). -/
def sendNext (s : State) : State :=
  match s.link.readyD with
  | [] => s
  | o :: rest =>
    let s := s.setLink { s.link with readyD := rest, sentD := s.link.sentD ++ [o.frame] }
    let s := if 4 ≤ s.link.inFlight.length then loseOldest s else s
    s.setLink { s.link with inFlight := s.link.inFlight ++ [entryOf o s.timer] }

end Sys2Proof.Machine
end

