-- ==== Sys2Proof/Machine/Zones.lean ====
section
/-! DEFINITION. The Zone Monitor: banks and their bytes (R44 to R47), and its evaluation of one return (R49 to
R62). -/

namespace Sys2Proof.Machine

/-! ## Banks and their bytes (section 10.6) -/

/-- The bytes of a bank header. -/
def bankHeader (count hold : Nat) : List Byte := u16 count ++ u16 hold

/-- The bytes of a stored bank's header. -/
def Bank.headerBytes (b : Bank) : List Byte := bankHeader b.zones.length b.releaseHold

/-- The bytes of a stored zone record. -/
def zoneBytes (z : ZoneRec) : List Byte :=
  (if z.enabled then 1 else 0) :: (if z.crew then 1 else 0) :: (u16 z.line ++
    (i16 z.xmin ++ (i16 z.xmax ++ (i16 z.ymin ++ (i16 z.ymax ++ (i16 z.zmin ++ (i16 z.zmax ++
      (u16 z.guardStop ++ u16 z.slowWidth))))))))

/-- A zone record read from its 20 bytes, where every field is inside its range (R46 item 7). A FIXED zone's line is
stored as 0 (R47). -/
def parseZone (bs : List Byte) : Option ZoneRec :=
  let enable := (byteAt bs 0).toNat
  let kind := (byteAt bs 1).toNat
  let line := (halfAt bs 2).toNat
  let z : ZoneRec :=
    { enabled := enable == 1, crew := kind == 1, line := if kind = 1 then line else 0
      xmin := (halfAt bs 4).toInt, xmax := (halfAt bs 6).toInt
      ymin := (halfAt bs 8).toInt, ymax := (halfAt bs 10).toInt
      zmin := (halfAt bs 12).toInt, zmax := (halfAt bs 14).toInt
      guardStop := (halfAt bs 16).toNat, slowWidth := (halfAt bs 18).toNat }
  if enable ≤ 1 ∧ kind ≤ 1 ∧ (kind = 1 → line ≤ 3) ∧ z.xmin < z.xmax ∧ z.ymin < z.ymax ∧ z.zmin < z.zmax ∧
      z.guardStop ≤ 5000 ∧ z.slowWidth ≤ 10000 then some z
  else none

/-- The zone records from zone `k` on, `n` of them, all of them inside their ranges. -/
def parseZones (bs : List Byte) (k : Nat) : Nat → Option (List ZoneRec)
  | 0 => some []
  | n + 1 =>
    match parseZone (bytesAt bs (4 + 20 * k) 20), parseZones bs (k + 1) n with
    | some z, some zs => some (z :: zs)
    | _, _ => none

/-- One of the two banks. -/
def ZoneMonitor.bank (z : ZoneMonitor) : BankId → Bank
  | .a => z.bankA
  | .b => z.bankB

/-- The other bank. -/
def BankId.other : BankId → BankId
  | .a => .b
  | .b => .a

/-- A bank replaced. -/
def ZoneMonitor.putBank (z : ZoneMonitor) (id : BankId) (b : Bank) : ZoneMonitor :=
  match id with
  | .a => { z with bankA := b }
  | .b => { z with bankB := b }

/-- The active bank (R44). -/
def ZoneMonitor.activeOne (z : ZoneMonitor) : Bank := z.bank z.activeBank

/-! ## One evaluation -/

/-- Step 1: a pending swap is exchanged (R49). -/
def exchangeBanks (z : ZoneMonitor) : ZoneMonitor :=
  if z.swapPending then
    { z with
      activeBank := z.activeBank.other, swapPending := false, cursor := .header, running := crcStart
      pass := .none, stopMemory := [] }
  else z

/-- One crew line at one sample (R51); `hold` is the active bank's crew release hold. -/
def sampleLine (hold : Nat) (asserted : Bool) (l : CrewLine) : CrewLine :=
  if asserted then { active := true, count := 0 }
  else if l.active then
    if max hold 1 ≤ satSucc 10000 l.count then { active := false, count := 0 }
    else { l with count := satSucc 10000 l.count }
  else l

/-- Step 2: the crew lines are sampled (R50, R51). -/
def sampleCrew (seen : Vector Bool 4) (z : ZoneMonitor) : ZoneMonitor :=
  { z with crew := z.crew.mapFinIdx fun i l h => sampleLine z.activeOne.releaseHold seen[i] l }

/-- Whether a crew line is ACTIVE. -/
def lineActive (crew : Vector CrewLine 4) (line : Nat) : Bool :=
  match crew[line]? with
  | some l => l.active
  | none => false

/-- Whether a zone is active (R52 item 3). -/
def zoneActive (crew : Vector CrewLine 4) (r : ZoneRec) : Bool := r.enabled && (!r.crew || lineActive crew r.line)

/-- The active zones of a bank with their ids, in ascending id (R52 item 3). -/
def activeZonesOf (crew : Vector CrewLine 4) (b : Bank) : List (Nat × ZoneRec) :=
  (b.zones.zipIdx.map fun p => (p.2, p.1)).filter fun p => zoneActive crew p.2

/-- The gap on one axis; the box limits are in mm (R53). -/
def axisGap (lo hi x : Int) : Int :=
  if x < lo * 1000 then lo * 1000 - x else if hi * 1000 < x then x - hi * 1000 else 0

/-- The clearance of a zone (R53). -/
def clearance (z : ZoneRec) (p : Pos) : Int :=
  max (axisGap z.xmin z.xmax p.x) (max (axisGap z.ymin z.ymax p.y) (axisGap z.zmin z.zmax p.z))

/-- The braking term (R54). -/
def brakeTerm (speed decel : Nat) : Nat := ceilDiv (speed * speed) (2 * decel)

/-- The stop distance of a zone (R54). -/
def stopAt (z : ZoneRec) (speed decel : Nat) : Int := (z.guardStop * 1000 + brakeTerm speed decel : Nat)

/-- The three bands of an active zone (R55). -/
inductive Band where
  | stop | slow | clear
deriving DecidableEq, Repr

/-- The band of a clearance, with its speed contribution (R55); W is slow_width × 1,000. -/
def bandOf (c stop : Int) (slowWidth : Nat) : Band × Nat :=
  let w : Int := (slowWidth * 1000 : Nat)
  if c ≤ stop then (.stop, 0)
  else if c ≤ stop + w then (.slow, (256 * (c - stop) / w).toNat)
  else (.clear, 256)

/-- One active zone's findings in an evaluation with the head available (R52 item 4). -/
structure Finding where
  id : Nat
  clear : Int
  band : Band
  share : Nat
deriving DecidableEq, Repr

/-- The findings of the active zones at a head position (R53 to R55). -/
def findings (zs : List (Nat × ZoneRec)) (p : Pos) (speed decel : Nat) : List Finding :=
  zs.map fun z =>
    let c := clearance z.2 p
    let b := bandOf c (stopAt z.2 speed decel) z.2.slowWidth
    { id := z.1, clear := c, band := b.1, share := b.2 }

/-- The speed scale of R58. -/
def scaleOf (available : Bool) (zs : List (Nat × ZoneRec)) (fs : List Finding) : Nat :=
  if available then fs.foldl (fun s f => min s f.share) 256
  else if zs.isEmpty then 256 else 0

/-- The least clearance with its zone id (R60): the lowest id of those that share it (log entry 49). -/
def leastClearance : List Finding → Option (Int × Nat)
  | [] => none
  | f :: rest =>
    match leastClearance rest with
    | none => some (f.clear, f.id)
    | some (c, id) => if f.clear ≤ c then some (f.clear, f.id) else some (c, id)

/-- The head available, with its speed and the loaded record's head_decel, as the Geometry Unit hands them on
(R41). -/
def headDecel (g : Geometry) : Nat :=
  match g.record with
  | none => 0
  | some r => r.headDecel

/-- The findings of an evaluation: none without a head position (R56). -/
def findingsOf (g : Geometry) (zs : List (Nat × ZoneRec)) : List Finding :=
  match g.head with
  | none => []
  | some p => findings zs p g.headSpeed (headDecel g)

/-- The zone ids of a band. -/
def idsIn (b : Band) (fs : List Finding) : List Nat := (fs.filter fun f => f.band == b).map Finding.id

/-- The zones that enter their stop band at this evaluation (R57). -/
def entering (memory : List Nat) (fs : List Finding) : List Finding :=
  fs.filter fun f => f.band == .stop && !memory.contains f.id

/-- Steps 3 to 5: the active zones, their bands and the new speed scale (R52, R58), with the stop-band set and memory
of R57. -/
def formScale (g : Geometry) (z : ZoneMonitor) : ZoneMonitor :=
  let zs := activeZonesOf z.crew z.activeOne
  let fs := findingsOf g zs
  { z with
    activeZones := zs.map Prod.fst, slowZones := idsIn .slow fs, stopSet := idsIn .stop fs
    stopMemory := idsIn .stop fs, least := leastClearance fs, scale := scaleOf g.head.isSome zs fs }

/-- The ZONE_STOP causes of an evaluation, in ascending zone id (R57); `z` is the Monitor before its step 3. -/
def zoneStops (g : Geometry) (z : ZoneMonitor) : List Cause :=
  (entering z.stopMemory (findingsOf g (activeZonesOf z.crew z.activeOne))).map fun f => zoneCause f.id f.clear

/-- The running CRC over the part of the bank that the cursor names (R61). -/
def verifyRead (z : ZoneMonitor) : Word :=
  match z.cursor with
  | .header => crcOver crcStart z.activeOne.headerBytes
  | .zone id => crcOver z.running ((z.activeOne.zones[id]?).elim [] zoneBytes)

/-- The zone id that follows the part just read (R61). -/
def nextPart : Cursor → Nat
  | .header => 0
  | .zone id => id + 1

/-- Whether the verify step ends a pass, and with which result (R61, R62). -/
def passEnd (z : ZoneMonitor) : Option PassResult :=
  if nextPart z.cursor < z.activeOne.zones.length then none
  else if crcFinal (verifyRead z) = z.activeOne.checksum then some .pass
  else some .mismatch

/-- One verify step (R61, R62); `part` is the part counter of the return's outbound frame. -/
def verifyStep (part : Word) (z : ZoneMonitor) : ZoneMonitor :=
  match passEnd z with
  | none => { z with running := verifyRead z, cursor := .zone (nextPart z.cursor) }
  | some r => { z with running := verifyRead z, cursor := .header, pass := r, passAt := part }

/-- The Mode Controller notes a pass that ended MATCH (R196), and a MISMATCH raises ZONE_TABLE_CORRUPT (R62). -/
def afterPass (r : Option PassResult) (s : State) : State :=
  match r with
  | some .pass => s.setMode { s.mode with verified := true }
  | some .mismatch => takeCause (plainCause .zoneTableCorrupt) s
  | _ => s

/-- The Zone Monitor's evaluation of the return of the outbound frame with a part counter (R52). -/
def evaluateZones (part : Word) (s : State) : State :=
  let z := sampleCrew s.pins.crewSeen (exchangeBanks s.zone)
  let before := z.scale
  let formed := formScale s.geo z
  let s := s.setZone formed
  let s := testCapture .slowEnter s.take.play.state
    (fun _ => if before = 256 ∧ formed.scale < 256 then some (.number formed.scale) else none)
    part (consoleTimecode s) s
  let s := takeCauses (zoneStops s.geo z) s
  let ended := passEnd s.zone
  afterPass ended (s.setZone (verifyStep part s.zone))

end Sys2Proof.Machine
end

