-- ==== Sys2Proof/Machine/Arming.lean ====
section
/-! DEFINITION. The Mode Controller's own operations (chapter 11): the channel check (R194), the change to ARMING, the
decision after the 250th arming period (R196) and the crane leaving LIVE (R199, R200). -/

namespace Sys2Proof.Machine

/-! ## Roles -/

/-- A role that at most one channel may hold (R2). -/
def Role.single : Role → Bool
  | .none => false
  | .aux => false
  | .lensAux => false
  | _ => true

/-- Whether a role agrees with a class and a kind (R2). -/
def roleAgrees (cls : ChClass) (role : Role) (kind : AxisKind) : Bool :=
  match role with
  | .none => cls == .unused
  | .swing | .lift | .pan | .tilt | .roll => cls == .motion && kind == .rotary
  | .reach | .track => cls == .motion && kind == .linear
  | .aux => cls == .motion
  | .zoom | .focus | .iris | .lensAux => cls == .lens

/-- Whether a channel other than n holds a role. -/
def heldElsewhere (chans : Vector Channel 12) (n : Fin 12) (r : Role) : Bool :=
  (List.finRange 12).any fun m => m != n && (chans[m]).desc.role == r

/-! ## The channel check -/

/-- Whether channel n fails an item of R194: 2 the role, 3 the last feedback, 4 the map. -/
def failsItem (s : State) (item : Nat) (n : Fin 12) : Bool :=
  let c := s.chan n
  let l := s.lensOf n
  c.used &&
    (match item with
      | 2 => !roleAgrees c.desc.cls c.desc.role c.desc.kind ||
          (c.desc.role.single && heldElsewhere s.cond.chans n c.desc.role)
      | 3 => decide (c.feedback < effMin c l) || decide (effMax c l < c.feedback)
      | 4 => c.isLens && l.active.isNone
      | _ => false)

/-- The first channel that fails an item of R194. -/
def firstFailing (s : State) (item : Nat) : Option CheckDetail :=
  ((List.finRange 12).find? (failsItem s item)).map fun n => { channel := some n, item := item }

/-- The first item of R194 found, in the order of its list and in channel order within an item; item 1 concerns no one
channel (log entry 10). -/
def channelCheck (s : State) : Option CheckDetail :=
  if (List.finRange 12).all fun n => !(s.chan n).used then some { channel := none, item := 1 }
  else (firstFailing s 2).or ((firstFailing s 3).or (firstFailing s 4))

/-- A self-check record set afresh by an ARM (R194, R198). -/
def freshCheck (result : CheckResult) (channel other : CheckMark) (detail : Option CheckDetail) (part : Word) :
    SelfCheck :=
  { result := result
    checks :=
      { channel := channel, geometry := other, zones := other, link := other, drives := other, estop := other
        supply := other, sync := other }
    detail := detail, advisory := false, abortEvent := none, startedAt := part, endedAt := none, periods := 0 }

/-- Each used channel's output frozen at its last feedback (R10). -/
def freezeOutputs (s : State) : State :=
  s.mapChans fun _ c => if c.used then { c with outPos := c.feedback, outVel := 0 } else c

/-- The channel check has passed: the mode becomes ARMING (R194). -/
def beginArming (s : State) : State :=
  let s := s.setMode
    { mode := .arming, count := 1, granted := true, verified := false
      check := freshCheck .running .pass .pending none s.link.part }
  closeChain (freezeOutputs (s.setLink { s.link with armingLoss := false }))

/-- ARM in PARKED (R194): the channel check, then the change to ARMING or a FAILED record. -/
def armParked (s : State) : State :=
  match channelCheck s with
  | some d => s.setMode { s.mode with check := freshCheck .failed .fail .notRun (some d) s.link.part }
  | none => beginArming s

/-! ## The decision -/

/-- The mark of a decided check (R196). -/
def markOf (passes : Bool) : CheckMark := if passes then .pass else .fail

/-- GEOMETRY of R196. -/
def geometryPasses (s : State) : Bool := !s.zone.activeOne.zones.any ZoneRec.enabled || s.geo.head.isSome

/-- ZONES of R196. -/
def zonesPass (s : State) : Bool := s.mode.verified && s.zone.pass == .pass && s.zone.stopSet.isEmpty

/-- LINK of R196. -/
def linkPasses (s : State) : Bool :=
  s.link.portC.rx.sync == .framed && s.link.portD.rx.sync == .framed && !s.link.armingLoss && !s.link.consoleAbsent

/-- The lowest used channel whose latest slot did not carry READY, with its status (R196, R198; that it is the lowest where
several fail is log entry 63). -/
def notReady (s : State) : Option CheckDetail :=
  ((List.finRange 12).find? fun n => (s.chan n).used && (s.chan n).status != statusReady).map fun n =>
    { channel := some n, item := (s.chan n).status.toNat }

/-- The checks of the decision, CHANNEL as it stands (R196). -/
def decidedChecks (s : State) : Checks :=
  { channel := s.mode.check.checks.channel
    geometry := markOf (geometryPasses s)
    zones := markOf (zonesPass s)
    link := markOf (linkPasses s)
    drives := markOf (notReady s).isNone
    estop := markOf s.pins.estopInClosed
    supply := markOf (!s.pins.supplyFail)
    sync := markOf (!s.take.ref.required || s.take.ref.sync == .locked) }

/-- Whether each check of the decision is marked PASS (R196). -/
def Checks.allPass (c : Checks) : Bool :=
  c.channel == .pass && c.geometry == .pass && c.zones == .pass && c.link == .pass && c.drives == .pass &&
    c.estop == .pass && c.supply == .pass && c.sync == .pass

/-- One channel's entry when the mode becomes LIVE (R11). -/
def enterLiveChannel (c : Channel) (l : LensChannel) : Channel :=
  if c.used then
    { c with
      source := .live, pendingSource := none, pendingNew := false, caughtState := .waiting, fallback := false
      takeHold := holdFromOutput c l }
  else c

/-- The mode becomes LIVE at the end of a passed arming (R11, R40, R64, R73, R196). -/
def enterLive (s : State) : State :=
  let s := s.setMode { s.mode with mode := .live, granted := false }
  let s := s.setStop { s.stop with safety := .normal, softStop := false, stopReqMemory := false, gripMemory := true }
  let s := s.setGeo { s.geo with reference := none }
  s.mapChans fun n c => enterLiveChannel c (s.lensOf n)

/-- The decision of R196. -/
def decideArming (s : State) : State :=
  let checks := decidedChecks s
  let r : SelfCheck :=
    { s.mode.check with
      result := if checks.allPass then .passed else .failed
      checks := checks
      detail := if checks.drives = .fail then notReady s else s.mode.check.detail
      advisory := s.pins.supplyWarn, endedAt := some s.link.part, periods := s.mode.count }
  let s := s.setMode { s.mode with check := r }
  if checks.allPass then enterLive s else leaveArming s

/-- The decision made where it is due: in ARMING, the 250th arming period's frame having been conditioned (R196). -/
def settleDecision (s : State) : State :=
  if s.mode.mode = .arming ∧ s.mode.count = 250 then decideArming s else s

/-! ## Leaving LIVE -/

/-- Every used channel's pending source discarded (R20). -/
def discardPending (s : State) : State :=
  s.mapChans fun _ c => { c with pendingSource := none, pendingNew := false }

/-- What PARK and SOFT_RESET do alike to a LIVE crane (R199, R200): the mode, the safety state, the lines, the recording,
the pending sources, the stop timer and the soft-stop flag. A Resume's catch that was still due is no longer
(log entry 66). -/
def leaveLive (s : State) : State :=
  let s := s.setMode { s.mode with mode := .parked, granted := false }
  let s := s.setStop { s.stop with safety := .normal, stopTimer := 0, softStop := false }
  let s := discardPending (interruptRecording (openChain s))
  s.setCond { s.cond with resumeCatch := false }

/-- PARK accepted in LIVE (R199). -/
def parkLive (s : State) : State :=
  let p := s.take.play
  let s := if p.active = true ∨ p.state = .ended then abortPlay .park s else s
  failCalibrations .parked (leaveLive s)

/-- Whether every MOTION channel is at rest (R70, R199). -/
def motionAtRest (s : State) : Bool :=
  (List.finRange 12).all fun n => !(s.chan n).isMotion || (s.chan n).outVel == 0

end Sys2Proof.Machine
end

