-- ==== Sys2Proof/Machine/Conditioner.lean ====
section
/-! DEFINITION. The Setpoint Conditioner's work on one channel of an outbound frame (sections 1.4 to 1.10), with the
seek step of a calibration (R101, R103 to R105). -/

namespace Sys2Proof.Machine

/-- What one frame gives to the conditioning of every channel (R12): the modes at that moment, the speed scale, the
playback's state, mask and recorded map_ids, and whether a Resume's catch is due (R14). -/
structure CondContext where
  mode : CraneMode
  safety : Safety
  scale : Nat
  resumeCatch : Bool
  play : PlayState
  mask : BitVec 12
  mapIds : Vector Nat 12
  cueScale : Nat
deriving DecidableEq, Repr

/-- What the conditioning of one channel gives: its new entries, and whether it raised LIMIT_HIT, set MAP_CHANGED, or
had a calibration on it in this frame (R107). -/
structure Conditioned where
  chan : Channel
  lens : LensChannel
  hit : Bool
  mapChanged : Bool
  calibrated : Bool
deriving DecidableEq, Repr

/-! ## Sources -/

/-- Whether a stored pending source is due at this frame (R19, R20). -/
def sourceDue (x : CondContext) (c : Channel) (l : LensChannel) : Bool :=
  !c.pendingNew && !l.seeking &&
    (x.safety == .normal || (c.isLens && (x.safety == .stopping || x.safety == .held)))

/-- The recorded map_id of a channel differs from that of its active map (R16, R143). -/
def mapDiffers (recorded : Nat) (l : LensChannel) : Bool :=
  match l.active with
  | none => true
  | some m => m.mapId != recorded

/-- Map-mismatch fallback begins on a LENS channel (R16): it is conditioned as a LIVE channel, from catch WAITING. -/
def beginFallback (c : Channel) : Channel := { c with fallback := true, caughtState := .waiting }

/-- A source change takes effect (R17): the fallback ends, and the new source's own effect follows. -/
def changeSource (src : Source) (c : Channel) (l : LensChannel) : Channel :=
  let c := { c with fallback := false, pendingSource := none }
  match src with
  | .live => { c with source := .live, caughtState := .waiting }
  | .take => { c with source := .take, takeHold := holdFromOutput c l }
  | .takeTrim => { c with source := .takeTrim, takeHold := holdFromOutput c l }
  | .hold => { c with source := .hold, holdValue := c.outPos }

/-- Step 2 of R12: a due pending source is applied, or discarded where it equals the selected one. A LENS channel of an
active playback's mask that comes to a take source is compared with the take's map (R143). -/
def applySource (x : CondContext) (n : Fin 12) (c : Channel) (l : LensChannel) : Channel × Bool :=
  match c.pendingSource with
  | none => (c, false)
  | some src =>
    if sourceDue x c l then
      if src = c.source then ({ c with pendingSource := none }, false)
      else
        let d := changeSource src c l
        if d.isLens = true ∧ d.onTake = true ∧ inMask x.mask n = true ∧
            (x.play = .cueing ∨ x.play = .cued ∨ x.play = .running) ∧ mapDiffers x.mapIds[n] l = true then
          (beginFallback d, true)
        else (d, false)
    else (c, false)

/-- The catch of a LIVE channel becomes WAITING at the first frame conditioned in NORMAL after a Resume (R14). -/
def resumeCatch (x : CondContext) (c : Channel) : Channel :=
  if x.resumeCatch = true ∧ x.safety = .normal ∧ c.source = .live then { c with caughtState := .waiting } else c

/-! ## Targets -/

/-- A channel's catch test (R13): CAUGHT already, or the compared value within the catch window of out_pos. -/
def catches (c : Channel) (compared : Int) : Bool :=
  c.caughtState == .caught || decide (c.desc.catchWindow = 0) ||
    decide ((compared - c.outPos).natAbs ≤ c.desc.catchWindow)

/-- The source a channel is conditioned by: LIVE in map-mismatch fallback (R16). -/
def Channel.acting (c : Channel) : Source := if c.fallback then .live else c.source

/-- The take hold once the Take Engine has supplied a take value (R15). -/
def takeSupply (c : Channel) (supplied : Option Int) : Channel :=
  match supplied with
  | none => c
  | some v => if c.onTake = true ∧ c.fallback = false then { c with takeHold := v } else c

/-- The target of a MOTION channel in NORMAL (R13, R15, R18). -/
def motionTarget (c : Channel) (console : Int) : Channel × Int :=
  match c.source with
  | .live =>
    if catches c console then ({ c with caughtState := .caught }, console) else (c, c.outPos)
  | .take => (c, c.takeHold)
  | .takeTrim => (c, sat32 (c.takeHold + console))
  | .hold => (c, c.holdValue)

/-- An engineering target mapped to counts (R21): the count, the selected engineering value, LENS_CLAMPED. -/
def mapTarget (m : LensMap) (e : Int) (c : Channel) : Channel × Int :=
  let f := forwardMap m e
  ({ c with eng := e, flags := { c.flags with lensClamped := f.2 } }, f.1)

/-- A target that is already a count; the selected engineering value is its inverse mapping (R21). -/
def countTarget (m : LensMap) (t : Int) (c : Channel) : Channel × Int :=
  ({ c with eng := (inverseMap m t).1 }, t)

/-- The target of a LENS channel through its active map (R13, R15, R18, R21); in STOPPING and HELD a take source uses
the take hold without trim (R24), but a channel in fallback follows the console there too (R16; log entry 67). -/
def lensTarget (safety : Safety) (m : LensMap) (c : Channel) (console : Int) : Channel × Int :=
  match c.acting with
  | .live =>
    if catches c (forwardMap m console).1 then mapTarget m console { c with caughtState := .caught }
    else countTarget m c.outPos c
  | .take => mapTarget m c.takeHold c
  | .takeTrim => mapTarget m (if safety = .normal then sat32 (c.takeHold + console) else c.takeHold) c
  | .hold => countTarget m c.holdValue c

/-! ## The limiter and the ramp -/

/-- The limiter (R22, R23): the new entry and whether it hit a limit. -/
def limiter (lo hi : Int) (scale : Nat) (t : Int) (c : Channel) : Channel × Bool :=
  let t' := clamp lo hi t
  let d := t' - c.outPos
  let ceiling := c.desc.velMax * scale / 256
  let cap := min ceiling (isqrt (2 * c.desc.accMax * d.natAbs))
  let wish := sgn d * (min d.natAbs cap : Nat)
  let v := clamp (c.outVel - c.desc.accMax) (c.outVel + c.desc.accMax) wish
  let e := limitStep lo hi c.outPos v
  ({ c with
      outPos := e.1, outVel := e.2.1, target := t
      flags :=
        { c.flags with
          posClamped := t' != t, velLimited := decide (cap < d.natAbs), accLimited := v != wish
          limitHit := e.2.2 } }, e.2.2)

/-- The velocity after one period of the stopping ramp (R24). -/
def rampVelocity (stopAcc : Nat) (v : Int) : Int := if v.natAbs ≤ stopAcc then 0 else v - sgn v * stopAcc

/-- The stopping ramp (R24). No target is chosen: the target item keeps that of the last frame that chose one, where R6
and R7 leave it open (log entry 73). -/
def ramp (lo hi : Int) (c : Channel) : Channel × Bool :=
  let e := limitStep lo hi c.outPos (rampVelocity c.desc.stopAcc c.outVel)
  ({ c with outPos := e.1, outVel := e.2.1, flags := { c.flags with limitHit := e.2.2 } }, e.2.2)

/-- The speed scale a MOTION channel uses: the lesser of s and cue_scale where it lies on a take source in the mask of
a playback that is CUEING (R22). -/
def motionScale (x : CondContext) (n : Fin 12) (c : Channel) : Nat :=
  if c.onTake = true ∧ inMask x.mask n = true ∧ x.play = .cueing then min x.scale x.cueScale else x.scale

/-! ## Calibration -/

/-- The seek step of a running calibration (R101): clamped at L by step 4 and, as every seek output lies within the
effective limits (R101, R27), at the other effective limit too, the velocity recomputed as at L (log entry 50). -/
def seekStep (lo hi : Int) (low : Bool) (limit : Int) (c : Channel) : Channel :=
  let d := limit - c.outPos
  let wish := sgn d * (min d.natAbs c.desc.calibSpeed : Nat)
  let v := clamp (c.outVel - c.desc.accMax) (c.outVel + c.desc.accMax) wish
  let p := c.outPos + v
  let q := clamp lo hi (if low then max limit p else min limit p)
  { c with
    outPos := q
    outVel := q - c.outPos
    target := limit
    flags := { c.flags with accLimited := v != wish } }

/-- The output a calibration sets in place of its seek step: a found value, at rest (R103 to R105). The target item
stays, and `calibrate` sets the selected engineering value from this output (log entry 51). -/
def placeAt (p : Int) (c : Channel) : Channel := { c with outPos := p, outVel := 0 }

/-- The catch state at the end of a calibration (R14). -/
def waitForCatch (c : Channel) : Channel := { c with caughtState := .waiting }

/-- The calibration period count after one more frame (R98, R105). -/
def calCount (l : LensChannel) : Nat := min (l.count + 1) 30001

/-- The time limit of a calibration (R105): FAILED, the result kept, the output at the last feedback. -/
def timeLimit (lo hi : Int) (c : Channel) (l : LensChannel) : Channel × LensChannel :=
  (waitForCatch (placeAt (clamp lo hi c.feedback) c),
    { failCalibration .timeLimit l with count := calCount l })

/-- One frame of a LENS channel under calibration: a waiting stall is applied, or the seek step is taken, unless the
time limit passes (R101, R103 to R105). The selected engineering value is that of the new output: R101 gives this for a
seek step, and for a placed output it is log entry 51. `part` is the frame's part counter. -/
def calibrate (lo hi : Int) (part : Word) (c : Channel) (l : LensChannel) : Channel × LensChannel :=
  let r : Channel × LensChannel :=
    match l.apply with
    | some p =>
      let c := placeAt p c
      let l := { l with apply := none, count := calCount l }
      if l.calibrating then (c, { l with phaseFrom := some (l.phaseFrom.getD part) }) else (waitForCatch c, l)
    | none =>
      if 30000 < calCount l then timeLimit lo hi c l
      else
        let low := l.cal == .seekLow
        (seekStep lo hi low (if low then l.seekLow else l.seekHigh) c,
          { l with count := calCount l, phaseFrom := some (l.phaseFrom.getD part) })
  ({ r.1 with eng := engOf r.2 r.1.outPos }, r.2)

/-! ## One channel of one frame -/

/-- A MOTION channel in LIVE, by the safety state (R12, R24, R25). -/
def conditionMotion (x : CondContext) (n : Fin 12) (console : Int) (supplied : Option Int) (c : Channel)
    (l : LensChannel) : Channel × Bool :=
  let lo := effMin c l
  let hi := effMax c l
  match x.safety with
  | .normal =>
    let c := takeSupply c supplied
    let scale := motionScale x n c
    let t := motionTarget c console
    limiter lo hi scale t.2 t.1
  | .stopping => ramp lo hi c
  | .held => ({ c with outVel := 0, target := c.outPos }, false)
  | .dropped => ({ c with outVel := 0 }, false)

/-- A LENS channel in LIVE that no calibration holds, by its source (R21, R24, R25). Without an active map its selected
engineering value stays (log entry 73). -/
def conditionLens (safety : Safety) (console : Int) (supplied : Option Int) (c : Channel) (l : LensChannel) :
    Channel × Bool :=
  match l.active with
  | none => ({ c with outVel := 0, target := c.outPos }, false)
  | some m =>
    let t := lensTarget safety m (takeSupply c supplied) console
    limiter (effMin c l) (effMax c l) 256 t.2 t.1

/-- A used channel on an outbound frame in LIVE, but for DROPPED (R12 steps 1 to 5). A due source comes before the
catch of a Resume (log entry 48). -/
def conditionLive (x : CondContext) (part : Word) (n : Fin 12) (console : Int) (supplied : Option Int) (c : Channel)
    (l : LensChannel) : Conditioned :=
  let a := applySource x n { c with flags := noFlags } l
  let c := resumeCatch x a.1
  if c.isLens then
    if l.seeking then
      let r := calibrate (effMin c l) (effMax c l) part c l
      { chan := r.1, lens := r.2, hit := false, mapChanged := a.2, calibrated := true }
    else
      let r := conditionLens x.safety console supplied c l
      { chan := r.1, lens := l, hit := r.2, mapChanged := a.2, calibrated := false }
  else
    let r := conditionMotion x n console supplied c l
    { chan := r.1, lens := l, hit := r.2, mapChanged := false, calibrated := false }

/-- A used channel that is not conditioned: in PARKED, ARMING and DROPPED its output stands, its velocity is 0 and its
period flags are clear (R7, R9, R10, R26). The target item and the selected engineering value of a DROPPED channel, for
which no target is chosen, keep those of an earlier frame (log entry 73). -/
def standStill (c : Channel) : Channel := { c with outVel := 0, flags := noFlags }

/-- One channel of an outbound frame (R1, R9, R10, R12, R26). -/
def conditionChannel (x : CondContext) (part : Word) (n : Fin 12) (console : Int) (supplied : Option Int) (c : Channel)
    (l : LensChannel) : Conditioned :=
  if c.used then
    if x.mode = .live ∧ x.safety ≠ .dropped then conditionLive x part n console supplied c l
    else { chan := standStill c, lens := l, hit := false, mapChanged := false, calibrated := l.calibrating }
  else { chan := c, lens := l, hit := false, mapChanged := false, calibrated := false }

/-- Whether the frame's slot of a channel carries ENABLE (R27). -/
def enabled (mode : CraneMode) (granted : Bool) (safety : Safety) (c : Channel) : Bool :=
  c.used && (mode == .live || (mode == .arming && granted)) && safety != .dropped

/-- The slot written for a channel (R1, R27): a used channel's output with every flag bit but ENABLE zero, an UNUSED
channel's slot as it came with ENABLE cleared. -/
def writeSlot (enable : Bool) (c : Channel) (arrived : Slot) : Slot :=
  if c.used then { flag := if enable then 1 else 0, value := BitVec.ofInt 32 c.outPos }
  else { arrived with flag := arrived.flag &&& 0xFE }

end Sys2Proof.Machine
end

