-- ==== Sys2Proof/Machine/Outbound.lean ====
section
/-! DEFINITION. The outbound work of one frame (00_scope.md section 2.2): its part counter value, its placement, its
take values, its conditioning, what the Conditioner hands on, and the frame made ready for port D. -/

namespace Sys2Proof.Machine

/-- A frame taken for outbound work, as it came from the console or was originated (R170, R172). -/
structure Outbound where
  kind : FrameKind
  consoleCycle : Option Half
  flags : Byte
  timecode : Word
  slots : Vector Slot 12
  service : List Byte
deriving DecidableEq, Repr

/-! ## The part counter and the arming count -/

/-- The frame is given its part counter value (R170, R172); in ARMING it is counted (R195). A source stored at an
earlier frame is no longer new (R19), the cue_scale as it is set comes into force (R141), and no reply is held for this
frame yet. -/
def takePart (s : State) : State :=
  let s := s.setLink { s.link with part := s.link.part + 1 }
  let s := s.setTake { s.take with cueScaleNow := s.take.cueScale }
  let s := if s.mode.mode = .arming then s.setMode { s.mode with count := min (s.mode.count + 1) 250 } else s
  (s.setService { s.service with reply := none }).mapChans fun _ c => { c with pendingNew := false }

/-! ## Placement -/

/-- Whether a frame-start period starts a CUED take by its trigger (R145). -/
def triggerStarts (t : TakeEngine) (timecode : Word) : Bool :=
  t.play.state == .cued &&
    (match t.trigger with
      | .request => false
      | .timecode => timecode == t.triggerTimecode
      | .line => t.play.lineTrigger)

/-- What a frame-start period begins: an armed recording (R134) and a triggered take (R145). Both stand before the
TIMECODE test of the same placement, whose record shows RECORDING (log entry 78). -/
def frameStarts (timecode : Word) (s : State) : State :=
  let s :=
    if s.take.recording.state = .recordArmed then
      s.setTake { s.take with recording := { s.take.recording with state := .recording } }
    else s
  if triggerStarts s.take timecode then startPlay s else s

/-! ## Take values -/

/-- A data fault counted (R148). -/
def dataFault (p : Playback) : Playback :=
  { p with faultRun := p.faultRun + 1, faultTotal := satSucc 65535 p.faultTotal }

/-- The RUNNING frame's play index and the queue as it finds it: the index advances but on the first frame, and records
below it are removed unused (R146, R147). -/
def advancePlay (p : Playback) : Playback :=
  let index := if p.firstFrame then p.index else p.index + 1
  { p with index := index, firstFrame := false, queue := p.queue.dropWhile fun r => decide (r.index < index) }

/-- A good record's values supplied: from here on they are the latest (R148). -/
def giveValues (values : List Int) (p : Playback) : Playback := { p with latest := some values }

/-- The record a RUNNING frame uses, or a data fault, at which the latest good record's values stand (R147, R148). -/
def useRecord (p : Playback) : Playback :=
  match p.queue with
  | [] => dataFault p
  | r :: rest =>
    if r.index = p.index then
      if r.good then giveValues r.values { p with queue := rest, faultRun := 0 }
      else dataFault { p with queue := rest }
    else dataFault p

/-- The cue record, once it stands delivered good at the head of the queue (R143). -/
def cueValues (p : Playback) : Option (List Int) :=
  match p.queue with
  | [] => none
  | r :: _ => if r.index = p.cueRecord ∧ r.good = true then some r.values else none

/-- PLAYBACK_DATA, carrying the lowest channel of the take's mask (R148). -/
def playbackDataCause (p : Playback) : Cause :=
  { name := .playbackData, channel := (maskChannels p.mask).head?, zone := none, value := none }

/-- A RUNNING frame's record used, or its data fault counted and PLAYBACK_DATA raised at the third in a row (R146 to
R148). -/
def playFrame (s : State) : State :=
  let p := useRecord (advancePlay s.take.play)
  let s := startRead (s.setTake { s.take with play := p })
  if p.faultRun = 3 then takeCause (playbackDataCause p) s else s

/-- Whether the RUNNING frame would be the third data fault in a row (R148). -/
def thirdFault (p : Playback) : Bool :=
  p.state == .running && p.faultRun == 2 && (useRecord (advancePlay p)).faultRun == 3

/-- The take values of the frame (R15, R143, R146 to R148): the values of the masked channels, if any are supplied. A
RUNNING frame supplies the latest good record: its own, or at a data fault an earlier one, to every channel on a take
source, one that comes to it at that frame too (R148). Where the third fault's stop has aborted the playback it supplies
none (R15; log entry 54). -/
def supply (s : State) : State × Option (List Int) :=
  let p := s.take.play
  match p.state with
  | .running =>
    let t := playFrame s
    (t, if t.take.play.state = .running then t.take.play.latest else none)
  | .cueing | .cued =>
    match cueValues p with
    | none => (s, none)
    | some values => (s.setTake { s.take with play := giveValues values p }, some values)
  | _ => (s, none)

/-- The play state that governs a frame (R160): the one that its own request (R145, R149) and its take values leave, under
which it is conditioned and its values are handed on. On the frame that carries GO it is RUNNING. At the frame of the
third consecutive data fault it is ABORTED (log entry 75). `request` is the frame's request, the identity on a frame
without one. -/
def governingPlay (request : State → State) (s : State) : PlayState := (supply (request s)).1.take.play.state

/-- The frame placed, with what hangs on its placement: the recording and the take that begin at it, and the TIMECODE
condition of the Capture Unit (R129, R134, R145, R159) under the play state that governs the frame (R160). The record of
that condition is filled here, before the frame's request is executed and the frame conditioned (log entries 59 and 72),
and a recording that begins at the frame is RECORDING in it (log entry 78). -/
def placeOutbound (request : State → State) (timecode : Word) (s : State) : State × Placement :=
  let u := placeFrame s
  if u.2.start = .none then u
  else
    let t := frameStarts timecode u.1
    (testCapture .timecode (governingPlay request t)
      (fun c => if timecode = c.value then some (.number timecode.toNat) else none)
      t.link.part timecode t, u.2)

/-- The value of channel n among the values of a mask's channels. -/
def valueFor (mask : BitVec 12) (values : Option (List Int)) (n : Fin 12) : Option Int :=
  match values with
  | none => none
  | some vs => ((maskChannels mask).zip vs).lookup n

/-! ## Conditioning -/

/-- What the frame gives to every channel's conditioning (R12). -/
def condContext (s : State) : CondContext :=
  let e : DirEntry := s.store.dir[s.take.play.entry]
  { mode := s.mode.mode, safety := s.stop.safety, scale := s.zone.scale, resumeCatch := s.cond.resumeCatch
    play := s.take.play.state, mask := s.take.play.mask, mapIds := e.mapIds, cueScale := s.take.cueScaleNow }

/-- The console value of channel n: that of the latest good console frame, which for a console frame is the frame in
hand, or 0 if none has arrived (R12). -/
def consoleValue (s : State) (n : Fin 12) : Int :=
  match s.link.lastGood with
  | none => 0
  | some g => (g.values[n]).toInt

/-- Every channel of the frame conditioned (R12). -/
def conditionAll (values : Option (List Int)) (s : State) : Vector Conditioned 12 :=
  Vector.ofFn fun n =>
    conditionChannel (condContext s) s.link.part n (consoleValue s n) (valueFor s.take.play.mask values n)
      (s.chan n) (s.lensOf n)

/-- The new entries of every channel stored, MAP_CHANGED set where a channel began its fallback (R16), and a Resume's
catch spent where the frame was conditioned in NORMAL (R14). -/
def storeConditioned (r : Vector Conditioned 12) (s : State) : State :=
  let live := s.mode.mode == .live && s.stop.safety == .normal
  let s := s.setCond { chans := r.map Conditioned.chan, resumeCatch := s.cond.resumeCatch && !live }
  let s := s.setLens (r.map Conditioned.lens)
  if r.toList.any Conditioned.mapChanged then
    s.setTake { s.take with play := { s.take.play with mapChanged := true } }
  else s

/-- The frame as it leaves on port D, made from the conditioned entries (R1, R27, R152, R170, R172). -/
def outFrame (o : Outbound) (pl : Placement) (r : Vector Conditioned 12) (s : State) : OutFrame :=
  { frame :=
      { kind := match o.kind with
          | .cycle => kindCycle
          | .subst => kindSubst
        flags := o.flags, cycle := s.link.part.setWidth 16, timecode := o.timecode
        slots := Vector.ofFn fun n : Fin 12 =>
          writeSlot (enabled s.mode.mode s.mode.granted s.stop.safety (s.chan n)) (s.chan n) o.slots[n]
        service := o.service, tracking := List.replicate 48 0 }
    part := s.link.part, consoleCycle := o.consoleCycle, kind := o.kind, timecode := o.timecode
    phase := pl.phase, sync := pl.sync, service := s.service.reply
    calibrated := r.map Conditioned.calibrated }

/-! ## What the Conditioner hands on -/

/-- A channel's recorded value: out_pos, or a LENS channel's selected engineering value (R134). -/
def recordedValue (c : Channel) : Int := if c.isLens then c.eng else c.outPos

/-- The record of the frame (R134). -/
def frameRecord (pl : Placement) (s : State) : List Byte :=
  let e : DirEntry := s.store.dir[s.take.recording.entry]
  recordBytes (pl.start != .none) pl.slip (e.marks.contains s.take.recording.index) pl.phase
    ((maskChannels e.mask).map fun n => recordedValue (s.chan n))

/-- The LIMIT_HIT causes of the frame, in channel order (R23, R24). -/
def limitHits (r : Vector Conditioned 12) : List Cause :=
  ((List.finRange 12).filter fun n => (r[n]).hit).map fun n => channelCause .limitHit n

/-- Whether a LIMIT_HIT of the frame, which begins a stop, keeps the frame's record out of the take: R139 allows either
(log entry 22). -/
def cutByLimit (r : Vector Conditioned 12) (s : State) : Bool :=
  !(limitHits r).isEmpty && (s.stop.safety == .normal && Config.limitHitBeforeAppend s.link.part)

/-- The frame's record appended while RECORDING unless it is `cut`, and the endings that follow an append: TRUNCATED
where the free list is exhausted (R138), or a requested end at a whole number of video frames (R136). -/
def appendFrame (cut : Bool) (pl : Placement) (timecode : Word) (s : State) : State :=
  if cut then s
  else if s.take.recording.state = .recording then
    let u := appendRecord s.take.recording.entry (frameRecord pl s) timecode s.store
    let s := s.setStore u.1
    if u.2 then
      let index := s.take.recording.index + 1
      let s := s.setTake { s.take with recording := { s.take.recording with index := index } }
      if s.take.recording.endRequested = true ∧ index % s.take.ref.cyclesPerFrame = 0 then endRecording s else s
    else
      endRecording (s.setStore (s.store.mapEntry s.take.recording.entry fun e => { e with truncated := true }))
  else s

/-- The index a frame gives the TAKE_INDEX condition (R159): that of the record appended at it, or with no record active
that of the record a RUNNING frame uses. `before` is the record state ahead of the append, `p` the playback after the
conditioning: at the frame of the third consecutive data fault PLAYBACK_DATA has made it ABORTED by then (log entry 28),
so that frame uses no record and meets no TAKE_INDEX condition by it (log entry 75). -/
def takeIndexOf (before : Recording) (appended : Bool) (p : Playback) : Option Nat :=
  if appended then some before.index
  else if before.active then none
  else if p.state = .running then some p.index
  else none

/-- The Capture Unit's outbound tests (R158, R159), under the play state that governs the frame. -/
def outputTests (index : Option Nat) (timecode : Word) (s : State) : State :=
  let play := s.take.play.state
  let s := testCrossing .outputCrosses play (fun n => (s.chan n).outPos) s.link.part timecode s
  testCapture .takeIndex play
    (fun c => match index with
      | none => none
      | some i => if i = c.value.toNat then some (.number i) else none)
    s.link.part timecode s

/-- A channel of the cue set stands at its cue record (R144). -/
def arrived (c : Channel) (l : LensChannel) : Bool :=
  decide ((c.outPos - clamp (effMin c l) (effMax c l) c.target).natAbs ≤ c.desc.cueTolerance) && c.outVel == 0

/-- The cue test (R144). -/
def cuePasses (s : State) : Bool :=
  (maskChannels s.take.play.mask).all fun n =>
    !(s.chan n).onTake || (s.chan n).fallback || arrived (s.chan n) (s.lensOf n)

/-- The change of play state at the end of a frame: CUED by the cue test, ENDED after the last record (R144, R146). CUED
stands from here on, for an edge or a return before the next frame too (log entry 69). -/
def playHandOn (s : State) : State :=
  let p := s.take.play
  let e : DirEntry := s.store.dir[p.entry]
  match p.state with
  | .cueing =>
    if (cueValues p).isSome ∧ cuePasses s = true then
      s.setTake { s.take with play := { p with state := .cued, lineTrigger := false } }
    else s
  | .running =>
    if e.length ≤ p.index + 1 then
      dropRead (s.setTake { s.take with play := { p with state := .ended, queue := [], lineTrigger := false } })
    else s
  | _ => s

/-- The pending maps that are due become active (R96). -/
def swapMaps (s : State) : State :=
  s.mapAllLens fun n l => if (s.chan n).isLens && (s.chan n).outVel == 0 && !l.calibrating then swapMap l else l

/-- The stop timer and the tests of R70 and R71, at a frame that was conditioned in STOPPING. HELD stands from here on,
for a return or a cause before the next frame too (log entry 77). -/
def stopTick (s : State) : State :=
  let t := satSucc 65535 s.stop.stopTimer
  let s := s.setStop { s.stop with stopTimer := t }
  if motionAtRest s then s.setStop { s.stop with safety := .held }
  else if s.stop.stopLimit ≤ t then takeCause (plainCause .stopTimeout) s
  else s

/-- The frame's values handed on: recorded, tested by the Capture Unit, then the cue test and the end of a take, the map
swap, the LIMIT_HIT causes, and in STOPPING the stop timer (R12, R70, R71, R96). -/
def handOn (pl : Placement) (timecode : Word) (stopping : Bool) (r : Vector Conditioned 12) (s : State) : State :=
  let before := s.take.recording
  let e : DirEntry := s.store.dir[before.entry]
  let s := appendFrame (cutByLimit r s) pl timecode s
  let e' : DirEntry := s.store.dir[before.entry]
  let s := outputTests (takeIndexOf before (decide (e.length < e'.length)) s.take.play) timecode s
  let s := takeCauses (limitHits r) (swapMaps (playHandOn s))
  if stopping ∧ s.stop.safety = .stopping then stopTick s else s

/-! ## The whole of it -/

/-- A frame made ready for port D's transmitter, after those that wait (R165). -/
def queueD (f : OutFrame) (s : State) : State := s.setLink { s.link with readyD := s.link.readyD ++ [f] }

/-- The outbound work of a placed frame after its request: take values, conditioning, hand-on, and the frame queued for
port D (R12, R173). -/
def finishOutbound (o : Outbound) (pl : Placement) (s : State) : State :=
  let u := supply s
  let s := u.1
  let stopping := s.mode.mode == .live && s.stop.safety == .stopping
  let r := conditionAll u.2 s
  let s := storeConditioned r s
  let f := outFrame o pl r s
  queueD f (handOn pl o.timecode stopping r s)

/-- The timecode of the latest good console frame, 0 if none (R129, R172). -/
def substTimecode (s : State) : Word := consoleTimecode s

/-- The frame of a SUBST (R172). -/
def substFrame (s : State) : Outbound :=
  { kind := .subst, consoleCycle := none, flags := 0, timecode := substTimecode s
    slots := Vector.ofFn fun n : Fin 12 =>
      { flag := Config.substSlotFlags n
        value := match s.link.lastGood with
          | none => 0
          | some g => g.values[n] }
    service := 0 :: (List.range 39).map fun k => Config.substServicePad (k + 1) }

/-- One SUBST frame originated (R172). -/
def originateSubst (s : State) : State :=
  let s := takePart (s.setLink { s.link with lastSubst := s.timer })
  let u := placeOutbound id (substTimecode s) s
  finishOutbound (substFrame u.1) u.2 u.1

/-- The silence timer reaches its limit (R172): the console is absent, CONSOLE_SILENT is raised, a SUBST frame is
originated. -/
def goSilent (s : State) : State :=
  let s := s.setLink { s.link with consoleAbsent := true }
  originateSubst (takeCause (plainCause .consoleSilent) s)

/-- Whether the silence timer has reached its limit with the console-absent flag clear (R172). -/
def silenceDue (l : Link) (now : Nat) : Bool := !l.consoleAbsent && decide (l.silenceFrom + l.silenceLimit ≤ now)

end Sys2Proof.Machine
end

