-- ==== Sys2Proof/Machine/Status.lean ====
section
/-! DEFINITION. The contents of the status replies, item by item in the order of the tables that give them and coded as
R190 lays down. Where the manual gives an item without its coding, log entry 27 says what the model takes. -/

namespace Sys2Proof.Machine

/-! ## Shared codings -/

/-- A head position, 12 bytes. -/
def posBytes (p : Pos) : List Byte := i32 p.x ++ (i32 p.y ++ i32 p.z)

/-- A snapshot (R190). -/
def snapshotBytes (x : Snapshot) : List Byte :=
  (x.axes.toList.flatMap fun a => i32 a.1 ++ i32 a.2) ++ (optBytes 12 posBytes x.head ++ u16 x.scale)

/-- A state whose two values stand in a list: the first is coded 0, the second 1 (R192). -/
def secondByte (second : Bool) : List Byte := flagByte second

/-- A 12-bit channel mask in two bytes. -/
def maskBytes (m : BitVec 12) : List Byte := le16 (m.setWidth 16)

/-- A list of zeros. -/
def zeros (n : Nat) : List Byte := List.replicate n 0

/-! ## Crane status (R189, R42, R60) -/

/-- The Geometry Unit's items (R42). The head position has no presence byte of its own beside the Head available item
(log entry 55). -/
def geometryBytes (g : Geometry) : List Byte :=
  flagByte g.record.isSome ++
    ((match g.record with
      | none => zeros 10
      | some r => u32 r.height ++ (u32 r.base ++ u16 r.headDecel)) ++
    (flagByte g.head.isSome ++
    ((match g.head with
      | none => zeros 12
      | some p => posBytes p) ++
    (u32 g.headSpeed ++ (le32 g.evaluatedAt ++ flagByte g.saturated)))))

/-- The Zone Monitor's items (R60). -/
def zoneStateBytes (z : ZoneMonitor) : List Byte :=
  u8 (bankCode z.activeBank) ++ (flagByte z.swapPending ++
  (u8 z.bankA.zones.length ++ (u8 z.bankB.zones.length ++
  (u16 z.bankA.releaseHold ++ (u16 z.bankB.releaseHold ++
  (le32 z.bankA.checksum ++ (le32 z.bankB.checksum ++
  ((z.crew.toList.flatMap fun l => secondByte l.active ++ u16 l.count) ++
  (zoneBits z.activeZones ++ (zoneBits z.stopSet ++ (zoneBits z.slowZones ++
  (u16 z.scale ++ (optBytes 5 (fun c : Int × Nat => i32 c.1 ++ u8 c.2) z.least ++
  (u8 (passCode z.pass) ++ le32 z.passAt))))))))))))))

/-- Crane status. -/
def craneContent (s : State) : List Byte :=
  u8 (modeCode s.mode.mode) ++ (u8 s.mode.count ++ (flagByte s.pins.supplyWarn ++
  (u8 s.capture.embed.toNat ++ (geometryBytes s.geo ++ zoneStateBytes s.zone))))

/-! ## Channel (R6) -/

/-- A descriptor, every field of R1. -/
def descriptorBytes (d : Descriptor) : List Byte :=
  u8 (clsCode d.cls) ++ (u8 (roleCode d.role) ++ (u8 (axisKindCode d.kind) ++
  (i32 d.posMin ++ (i32 d.posMax ++ (u32 d.velMax ++ (u16 d.accMax ++ (u16 d.stopAcc ++
  (u32 d.followLimit ++ (u32 d.catchWindow ++ (u32 d.cueTolerance ++ u16 d.calibSpeed))))))))))

/-- The presence that READ_STATUS reports: the table's, but ABSENT after either reset until a return is matched (R6;
log entry 32). -/
def Channel.reportedPresent (c : Channel) : Bool := c.present && c.answered

/-- Channel status. The items that only a LENS channel has read 0, without a presence byte, on any other (log entry
43). -/
def channelContent (c : Channel) (l : LensChannel) : List Byte :=
  descriptorBytes c.desc ++ (i32 (effMin c l) ++ (i32 (effMax c l) ++ (secondByte (!c.reportedPresent) ++
  (i32 c.outPos ++ (i32 c.outVel ++ (i32 c.target ++ (i32 (if c.isLens then c.eng else 0) ++
  (u8 (sourceCode c.source) ++ (optBytes 1 (fun x => u8 (sourceCode x)) c.pendingSource ++
  (flagByte (c.isLens && c.fallback) ++ (u8 (catchStateCode c.caughtState) ++
  (flagByte c.flags.posClamped ++ (flagByte c.flags.velLimited ++ (flagByte c.flags.accLimited ++
  (flagByte c.flags.limitHit ++ (flagByte (c.isLens && c.flags.lensClamped) ++ i32 c.feedback))))))))))))))))

/-! ## Port (R179) -/

/-- A counter with its at-threshold status. -/
def counterBytes (c : Counter) : List Byte := u8 c.count ++ flagByte c.atThreshold

/-- A port's own items, the fault mask as one bit set in which 1 means IN (log entry 71). -/
def portBytes (p : Port) (timer : Nat) : List Byte :=
  u8 (rxSyncCode p.rx.sync) ++ (u8 p.rx.score ++ (u8 p.rx.goodRun ++
  (counterBytes p.counters.symbol ++ (counterBytes p.counters.crc ++ (counterBytes p.counters.sequence ++
  (u8 p.threshold ++ (kindByte p.faultIn ++
  (flagByte p.roll.symbol ++ (flagByte p.roll.crc ++ (flagByte p.roll.sequence ++
  (flagByte p.autoClear ++ u16 timer)))))))))))

/-- Port status, with the items of the port named. -/
def portContent (l : Link) : PortId → List Byte
  | .c =>
    portBytes l.portC l.silenceLimit ++ (flagByte l.consoleAbsent ++ (optBytes 2 u16 l.period ++
      (le16 l.offset ++ optBytes 2 le16 l.expected)))
  | .d =>
    portBytes l.portD l.returnTimeout ++ (u8 l.inFlight.length ++ (u8 l.lossCount ++
      (flagByte l.feedbackLost ++ (u16 l.totalLost ++ (flagByte l.armingLoss ++ le32 l.part)))))

/-! ## Safety and fault record (R88) -/

/-- Whether a condition of a code stands, as a Resume would find it now (R77). -/
def stands (s : State) (code : Nat) : Bool := (standing s.stop.gripMemory s).any fun x => x.code == code

/-- Safety status. -/
def safetyContent (s : State) : List Byte :=
  u8 (safetyCode s.stop.safety) ++ (u16 s.stop.stopTimer ++ (u16 s.stop.stopLimit ++
  (flagByte s.stop.softStop ++ (u16 s.stop.autoResumes ++ (flagByte s.stop.stopReqMemory ++
  (flagByte s.stop.gripMemory ++
  (secondByte (!s.pins.estopInClosed) ++ (secondByte (!s.pins.estopOutClosed) ++
  (secondByte s.pins.brakeReleased ++ (secondByte (!s.pins.supplyWarn) ++ (secondByte (!s.pins.supplyFail) ++
  (((List.range 6).flatMap fun k => flagByte (stands s k)) ++ secondByte s.stop.fault.isSome))))))))))))

/-- A locked fault record (R85, R86). -/
def faultBytes (r : FaultRecord) : List Byte :=
  u8 (causeCode r.cause.name) ++ (u8 (causeClassCode r.cls) ++ (u8 (modeCode r.mode) ++
  (u8 (safetyCode r.safety) ++ (le32 r.part ++ (le32 r.timecode ++
  (optBytes 1 (fun n : Fin 12 => u8 n.val) r.cause.channel ++ (optBytes 1 u8 r.cause.zone ++
  (optBytes 4 i32 r.cause.value ++ (snapshotBytes r.snapshot ++ (u8 r.laterCount ++
  (optBytes 5 (fun x : CauseName × Word => u8 (causeCode x.1) ++ le32 x.2) r.lastLater ++
  u8 (causeClassCode r.highest))))))))))))

/-- Fault record: an EMPTY one reads back with every item absent or 0 (R88). -/
def faultContent (s : State) : List Byte :=
  match s.stop.fault with
  | none => zeros 140
  | some r => faultBytes r

/-! ## Capture record (R163) -/

/-- A condition (R157). -/
def conditionBytes (c : Condition) : List Byte :=
  u8 (captureKindCode c.kind) ++ (u8 c.channel.val ++ (le32 c.value ++
    (u8 (directionCode c.direction) ++ u8 (scopeCode c.scope))))

/-- A met value in four bytes; a cause has its name in byte 0 and its class in byte 1 (log entry 27). -/
def metBytes : MetValue → List Byte
  | .number x => i32 x
  | .cause n k => u8 (causeCode n) ++ (u8 (causeClassCode k) ++ zeros 2)

/-- A capture record (R161), its take index as the activity in one byte and the index in four (log entry 61). -/
def captureRecordBytes (r : CaptureRecord) : List Byte :=
  conditionBytes r.condition ++ (metBytes r.met ++ (le32 r.part ++ (le32 r.timecode ++
    (u8 (activityCode r.activity) ++ (u32 r.index ++ snapshotBytes r.snapshot)))))

/-- Capture record status. The record's items have no presence byte before them: they are 0 unless the unit is TRIPPED
(log entry 62). -/
def captureContent (c : CaptureUnit) : List Byte :=
  u8 (captureStateCode c.state) ++ (optBytes 8 conditionBytes c.condition ++ (optBytes 4 i32 c.previous ++
    (match c.record with
      | none => zeros 136
      | some r => captureRecordBytes r)))

/-! ## Memory and directory (R125) -/

/-- The memory-error capture record (R112). -/
def memErrBytes (r : MemErrRecord) : List Byte :=
  u32 r.address ++ (r.syndrome :: (u8 (wordClassCode r.kind) ++ (u8 (memReaderCode r.reader) ++
    (le32 r.part ++ flagByte r.doubleAfterSingle))))

/-- Memory status, index 0. The free list's head block and its tail block are two optional items, each with its presence
byte (log entry 56). The items of the memory-error record follow the LOCKED item without a presence byte, 0 where it is
UNLOCKED (log entry 68). -/
def memoryContent (st : TakeStore) : List Byte :=
  u8 (memStateCode st.state) ++ (u16 st.progress ++ (u16 st.free.length ++
  (optBytes 2 u16 st.free.head? ++ (optBytes 2 u16 st.free.getLast? ++ (u16 st.bad.length ++
  (u8 (st.dir.toList.countP fun e => e.state != .empty) ++
  (flagByte (st.dir.toList.any fun e => e.state == .recording) ++
  (u16 st.correctable ++ (u16 st.uncorrectable ++ (flagByte st.reportSingles ++
  (flagByte st.errRecord.isSome ++
  (match st.errRecord with
    | none => zeros 12
    | some r => memErrBytes r))))))))))))

/-- The bad-set numbers of memory index n, 1 to 241 (R189). -/
def badSetContent (st : TakeStore) (n : Nat) : List Byte := ((st.bad.drop (17 * (n - 1))).take 17).flatMap u16

/-- Directory entry status (R119, R125): the twelve map_ids, a presence byte before the first block, and the marks as a count
with sixteen places are log entry 44's codings. -/
def entryContent (e : DirEntry) : List Byte :=
  u16 e.take ++ (u8 (entryStateCode e.state) ++ (flagByte e.truncated ++ (flagByte e.interrupted ++
  (flagByte e.slipped ++ (flagByte e.damaged ++ (maskBytes e.mask ++ ((e.mapIds.toList.flatMap u16) ++
  (u8 e.cyclesPerFrame ++ (le32 e.startTimecode ++ (u32 e.length ++
  (optBytes 2 u16 e.blocks.head? ++ (u16 e.blocks.length ++ (u16 e.perBlock ++
  (u8 e.marks.length ++ ((List.range 16).flatMap fun k => u32 (e.marks.getD k 0))))))))))))))))

/-! ## Play status (R150) -/

/-- The marks an active record has so far. -/
def activeMarks (s : State) : Nat :=
  let e : DirEntry := s.store.dir[s.take.recording.entry]
  if s.take.recording.active then e.marks.length else 0

/-- Play status. The items of an active record read 0, without presence bytes, while none is (log entry 45); the abort index
and reason are one optional item (log entry 46). -/
def playContent (s : State) : List Byte :=
  let r := s.take.ref
  let g := s.take.recording
  let p := s.take.play
  u8 (refSyncCode r.sync) ++ (u8 r.cyclesPerFrame ++ (flagByte r.required ++ (u8 r.phase ++
  (u8 (frameStartCode r.startKind) ++ (u8 r.goodRun ++ (u8 r.distance ++ (u16 r.slips ++
  (u8 (recStateCode g.state) ++ (u8 g.entry.val ++ (u16 g.take ++ (maskBytes g.mask ++ (u32 g.index ++
  (flagByte g.endRequested ++ (u8 (activeMarks s) ++
  (u8 (playStateCode p.state) ++ (u16 p.take ++ (maskBytes p.mask ++ (u8 p.cueMark ++ (u32 p.cueRecord ++
  (u32 p.index ++ (optBytes 5 (fun x : Nat × AbortReason => u32 x.1 ++ u8 (abortReasonCode x.2)) p.abort ++
  (flagByte p.mapChanged ++ (u8 p.faultRun ++ (u16 p.faultTotal ++ (u16 p.queue.length ++ (u16 p.runSlips ++
  (u8 (triggerCode s.take.trigger) ++ (le32 s.take.triggerTimecode ++ (u16 s.take.cueScale ++
  flagByte p.lineTrigger)))))))))))))))))))))))))))))

/-! ## Self-check (R198) -/

/-- The eight check results. -/
def checksBytes (c : Checks) : List Byte :=
  [c.channel, c.geometry, c.zones, c.link, c.drives, c.estop, c.supply, c.sync].flatMap fun m =>
    u8 (checkMarkCode m)

/-- The channel detail; an item that concerns no one channel has the free value of log entry 10. An item of R194 is coded by
its number there, 1 to 4 (log entry 64). -/
def detailBytes (d : CheckDetail) : List Byte :=
  (match d.channel with
    | none => [Config.selfCheckNoChannel]
    | some n => u8 n.val) ++ u8 d.item

/-- Self-check status. -/
def selfCheckContent (m : ModeController) : List Byte :=
  let r := m.check
  u8 (checkResultCode r.result) ++ (checksBytes r.checks ++ (optBytes 2 detailBytes r.detail ++
  (flagByte r.advisory ++ (optBytes 1 (fun x => u8 (abortEventCode x)) r.abortEvent ++
  (le32 r.startedAt ++ (optBytes 4 le32 r.endedAt ++
  u8 (if r.result = .running then m.count else r.periods)))))))

/-! ## Lens channel (R108) -/

/-- A point of a map. -/
def pointBytes (p : Int × Int) : List Byte := i32 p.1 ++ i32 p.2

/-- An active map's items. -/
def activeMapBytes (m : LensMap) : List Byte :=
  u16 m.mapId ++ (u8 m.points.length ++ (secondByte (!m.rising) ++ (le32 m.crc ++
    (pointBytes (m.points.headD (0, 0)) ++ pointBytes (m.points.getLastD (0, 0))))))

/-- A pending map's items. -/
def pendingMapBytes (m : LensMap) : List Byte := u16 m.mapId ++ (u8 m.points.length ++ le32 m.crc)

/-- A calibration result's items. -/
def resultBytes (r : CalResult) : List Byte :=
  i32 r.foundMin ++ (i32 r.foundMax ++ (u8 (mapFitCode r.fit) ++ le32 r.madeAt))

/-- Lens channel status. The lens feedback and its feedback-clamped flag stand behind one presence byte, both 0 where the
feedback is absent (log entry 74). -/
def lensContent (c : Channel) (l : LensChannel) : List Byte :=
  optBytes 24 activeMapBytes l.active ++ (optBytes 7 pendingMapBytes l.pending ++
  (u8 (calStateCode l.cal) ++ (optBytes 1 (fun x => u8 (calFailureCode x)) l.failure ++
  (u16 l.count ++ (i32 l.seekLow ++ (i32 l.seekHigh ++ (optBytes 4 i32 l.foundMin ++
  (optBytes 13 resultBytes l.result ++ (i32 (effMin c l) ++ (i32 (effMax c l) ++
  optBytes 5 (fun x : Int => i32 x ++ flagByte l.feedbackClamped) l.feedback))))))))))

/-! ## Last reply (R184) -/

/-- Last-reply status: the record's tag, code and result behind one presence byte, all 0 where the record is NONE
(log entry 76). -/
def lastReplyContent (u : ServiceUnit) : List Byte :=
  optBytes 3 (fun r : LastReply => r.tag :: r.code :: u8 (resultCode r.result)) u.lastReply

/-! ## Pages (R190) -/

/-- Pages of a content of a length; a content without bytes has one page (log entry 27). -/
def pageCount (length : Nat) : Nat := max 1 (ceilDiv length 35)

/-- The reply data of one page of a content. -/
def pageData (content : List Byte) (page : Nat) : List Byte :=
  BitVec.ofNat 8 (pageCount content.length) :: BitVec.ofNat 8 page :: ((content.drop (35 * page)).take 35)

/-- One page of a status whose index is in its range: OK with its data, or BAD_PARAM for a page at or beyond the page
count (R189). -/
def pageReply (content : List Byte) (page : Byte) : Reply :=
  if page.toNat < pageCount content.length then { result := .ok, data := pageData content page.toNat }
  else { result := .badParam, data := [] }

end Sys2Proof.Machine
end

