-- ==== Sys2Proof/Machine/Requests.lean ====
section
/-! DEFINITION. The execution of a service request (section 10.1): its tag, the refusal in ARMING, its reply and the
last-reply record. -/

namespace Sys2Proof.Machine

/-- The outcome type of every command's meaning. -/
abbrev Outcome := Host.Outcome State Fault Refusal

/-- A request's own effect and reply, once its form and the ARMING refusal have been passed. -/
abbrev Body := State → State × Reply

/-- A reply without data. -/
def plain (r : Result) : Reply := { result := r, data := [] }

/-- A request that changes nothing and replies with a result. -/
def refuse (r : Result) (s : State) : State × Reply := (s, plain r)

/-- The requests that ARMING does not refuse: IDENTIFY, READ_STATUS, ARM, PARK, STOP and SOFT_RESET (R183). -/
def armingAccepts (code : Byte) : Bool := [0x01, 0x02, 0x20, 0x21, 0x22, 0x7F].contains code

/-- The reply kept for the frame in hand, and the last-reply record set (R181, R184). -/
def answer (tag code : Byte) (r : Reply) (s : State) : State :=
  s.setService
    { s.service with
      lastReply := some { tag := tag, code := code, result := r.result }
      reply := some (tag, r) }

/-- A request of correct form executed (R181 to R184): none for tag 0, refused in ARMING, else by its own rule. -/
def request (tag code : Byte) (body : Body) (s : State) : State :=
  if tag = 0 then s
  else if s.mode.mode = .arming ∧ armingAccepts code = false then answer tag code (plain .refusedBusy) s
  else answer tag code (body s).2 (body s).1

end Sys2Proof.Machine
end

