-- ==== Sys2Proof/Machine/CaptureRequests.lean ====
section
/-! DEFINITION. SET_EMBED (R156), ARM_CAPTURE (R157) and RELEASE_CAPTURE (R162). -/

namespace Sys2Proof.Machine

/-- SET_EMBED's own rule (R156): bit 7 names no field. -/
def setEmbedBody (mask : Byte) : Body := fun s => (s.setCapture { s.capture with embed := mask.setWidth 7 }, plain .ok)

/-- SET_EMBED. -/
def execSetEmbed (tag mask : Byte) (s : State) : Outcome := .next (request tag 0x44 (setEmbedBody mask) s)

/-- A kind whose condition is a crossing (R157). -/
def CaptureKind.crossing : CaptureKind → Bool
  | .outputCrosses => true
  | .feedbackCrosses => true
  | _ => false

/-- A kind that uses the value item (R157). -/
def CaptureKind.valued : CaptureKind → Bool
  | .slowEnter => false
  | .anyStop => false
  | _ => true

/-- The condition an ARM_CAPTURE names, where its checks pass (R157); the items its kind does not use are 0 and UP.
Every kind uses the scope (log entry 70). -/
def capturedCondition (s : State) (kind channel : Byte) (value : Word) (direction scope : Byte) : Option Condition :=
  match captureKindOf? kind, scopeOf? scope with
  | some k, some sc =>
    if k.crossing then
      match channelOf? channel, directionOf? direction with
      | some n, some d =>
        if k = .outputCrosses ∧ (s.chan n).used = false then none
        else some { kind := k, channel := n, value := value, direction := d, scope := sc }
      | _, _ => none
    else if k = .takeIndex ∧ 16777215 < value.toNat then none
    else
      some
        { kind := k, channel := 0, value := if k.valued then value else 0, direction := .up, scope := sc }
  | _, _ => none

/-- ARM_CAPTURE's own rule (R157). -/
def armCaptureBody (kind channel : Byte) (value : Word) (direction scope : Byte) : Body := fun s =>
  match capturedCondition s kind channel value direction scope with
  | none => refuse .badParam s
  | some c =>
    if s.capture.state = .tripped then refuse .refusedBusy s
    else
      (s.setCapture { s.capture with state := .armed, condition := some c, previous := none }, plain .ok)

/-- ARM_CAPTURE. -/
def execArmCapture (tag kind channel : Byte) (value : Word) (direction scope : Byte) (s : State) : Outcome :=
  .next (request tag 0x48 (armCaptureBody kind channel value direction scope) s)

/-- RELEASE_CAPTURE's own rule (R162). -/
def releaseCaptureBody : Body := fun s =>
  (s.setCapture { s.capture with state := .idle, condition := none, previous := none, record := none }, plain .ok)

/-- RELEASE_CAPTURE. -/
def execReleaseCapture (tag : Byte) (s : State) : Outcome := .next (request tag 0x49 releaseCaptureBody s)

end Sys2Proof.Machine
end

