-- ==== Sys2Proof/Machine/ChannelRequests.lean ====
section
/-! DEFINITION. SET_CHANNEL (R3, R4) and SET_SOURCE (R19). -/

namespace Sys2Proof.Machine

/-! ## SET_CHANNEL -/

/-- The numeric fields of a SET_CHANNEL as they arrive. -/
structure ChannelFields where
  posMin : Word
  posMax : Word
  velMax : Word
  accMax : Half
  stopAcc : Half
  followLimit : Word
  catchWindow : Word
  cueTolerance : Word
  calibSpeed : Half
deriving DecidableEq, Repr

/-- Items 5 to 8 of R3, for a used channel. -/
def fieldsInRange (cls : ChClass) (f : ChannelFields) : Bool :=
  decide (f.posMin.toInt < f.posMax.toInt) &&
  (decide (1 ≤ f.velMax.toNat) && decide (f.velMax.toNat ≤ 1048576)) && decide (1 ≤ f.accMax.toNat) &&
  (decide (f.followLimit.toNat ≤ 16777216) && decide (f.catchWindow.toNat ≤ 16777216) &&
    decide (f.cueTolerance.toNat ≤ 1048576)) &&
  decide (f.accMax.toNat ≤ f.stopAcc.toNat) && (cls != .lens || f.calibSpeed != 0)

/-- Item 9 of R3: the arm length stays 0 or more over the REACH channel's travel. -/
def reachFits (g : Option GeoRecord) (role : Role) (posMin : Int) : Bool :=
  match g with
  | none => true
  | some r => role != .reach || decide (0 ≤ (r.base : Int) + posMin)

/-- The descriptor as it is stored: an UNUSED channel's numbers are 0 and its kind LINEAR (R2), a LENS channel's kind is
LINEAR and its calib_speed clamped to vel_max, a MOTION channel's calib_speed is 0 (R3). -/
def storedDescriptor (cls : ChClass) (role : Role) (kind : AxisKind) (f : ChannelFields) : Descriptor :=
  match cls with
  | .unused => resetDescriptor
  | _ =>
    { cls := cls, role := role, kind := if cls = .lens then .linear else kind
      posMin := f.posMin.toInt, posMax := f.posMax.toInt, velMax := f.velMax.toNat, accMax := f.accMax.toNat
      stopAcc := f.stopAcc.toNat, followLimit := f.followLimit.toNat, catchWindow := f.catchWindow.toNat
      cueTolerance := f.cueTolerance.toNat
      calibSpeed := if cls = .lens then min f.calibSpeed.toNat f.velMax.toNat else 0 }

/-- The kind a descriptor takes: a MOTION channel's from its code, any other's LINEAR (R2, R3 item 2). -/
def kindFor (cls : ChClass) (kind : Byte) : Option AxisKind := if cls = .motion then axisKindOf? kind else some .linear

/-- The descriptor a SET_CHANNEL names, where every check of R3 passes. -/
def checkedDescriptor (s : State) (n : Fin 12) (cls role kind : Byte) (f : ChannelFields) : Option Descriptor :=
  match clsOf? cls, roleOf? role with
  | some cls, some role =>
    match kindFor cls kind with
    | none => none
    | some kind =>
      if roleAgrees cls role kind = true ∧ (role.single && heldElsewhere s.cond.chans n role) = false ∧
          (cls = .unused ∨ fieldsInRange cls f = true) ∧ reachFits s.geo.record role f.posMin.toInt = true then
        some (storedDescriptor cls role kind f)
      else none
  | _, _ => none

/-- The calibration of a channel cleared (R4, R98). -/
def clearCalibration (l : LensChannel) : LensChannel :=
  { l with
    cal := .none, failure := none, count := 0, seekLow := 0, seekHigh := 0, foundMin := none, result := none
    window := [], phaseFrom := none, apply := none }

/-- The limiter state brought into line with a new descriptor (R4). A map-mismatch fallback that is on stays on
(log entry 47). -/
def adoptDescriptor (d : Descriptor) (c : Channel) : Channel :=
  { c with
    desc := d, flags := noFlags, caughtState := .waiting, pendingSource := none, pendingNew := false
    outPos := if d.cls = .unused then 0 else c.outPos
    outVel := if d.cls = .unused then 0 else c.outVel }

/-- An accepted SET_CHANNEL (R4). -/
def writeDescriptor (n : Fin 12) (d : Descriptor) (s : State) : State :=
  let s' := s.mapChan n (adoptDescriptor d)
  if (s.chan n).isLens = true ∨ d.cls = .lens then s'.mapLens n clearCalibration else s'

/-- SET_CHANNEL's own rule (R3). -/
def setChannelBody (channel cls role kind : Byte) (f : ChannelFields) : Body := fun s =>
  if s.mode.mode = .live then refuse .refusedMode s
  else
    match channelOf? channel with
    | none => refuse .badParam s
    | some n =>
      match checkedDescriptor s n cls role kind f with
      | none => refuse .badParam s
      | some d => (writeDescriptor n d s, plain .ok)

/-- SET_CHANNEL. -/
def execSetChannel (tag channel cls role kind : Byte) (posMin posMax velMax : Word) (accMax stopAcc : Half)
    (followLimit catchWindow cueTolerance : Word) (calibSpeed : Half) (s : State) : Outcome :=
  .next (request tag 0x10
    (setChannelBody channel cls role kind
      { posMin := posMin, posMax := posMax, velMax := velMax, accMax := accMax, stopAcc := stopAcc
        followLimit := followLimit, catchWindow := catchWindow, cueTolerance := cueTolerance
        calibSpeed := calibSpeed }) s)

/-! ## SET_SOURCE -/

/-- A source requested for a used channel of the mask (R19). -/
def requestSource (src : Source) (c : Channel) : Channel :=
  if c.pendingSource.getD c.source = src then c else { c with pendingSource := some src, pendingNew := true }

/-- SET_SOURCE's own rule (R19). -/
def setSourceBody (mask : Half) (source : Byte) : Body := fun s =>
  if s.mode.mode = .parked ∨ s.stop.safety = .dropped then refuse .refusedMode s
  else
    match sourceOf? source with
    | none => refuse .badParam s
    | some src =>
      if maskTooWide mask then refuse .badParam s
      else
        (s.mapChans fun n c => if inMask (maskOf mask) n && c.used then requestSource src c else c, plain .ok)

/-- SET_SOURCE. -/
def execSetSource (tag : Byte) (mask : Half) (source : Byte) (s : State) : Outcome :=
  .next (request tag 0x11 (setSourceBody mask source) s)

end Sys2Proof.Machine
end

