-- ==== Sys2Proof/Machine/LensRequests.lean ====
section
/-! DEFINITION. LENS_CALIBRATE (R99, R100). -/

namespace Sys2Proof.Machine

/-- An end-stop calibration begun from the effective limits as they stand (R100). A stall that still waits for the frame
that applies it is applied at that frame (log entry 24). -/
def beginCalibration (lo hi : Int) (l : LensChannel) : LensChannel :=
  { l with
    cal := .seekLow, failure := none, count := 0, seekLow := lo, seekHigh := hi, foundMin := none, window := []
    phaseFrom := none }

/-- LENS_CALIBRATE's own rule (R99). -/
def lensCalibrateBody (channel : Byte) : Body := fun s =>
  match channelOf? channel with
  | none => refuse .badParam s
  | some n =>
    if (s.chan n).isLens = false then refuse .badParam s
    else if s.mode.mode = .parked ∨ s.stop.safety = .stopping ∨ s.stop.safety = .dropped then refuse .refusedMode s
    else if (s.lensOf n).calibrating ∨ (s.chan n).onTake = true then refuse .refusedBusy s
    else (s.mapLens n (beginCalibration (s.limits n).1 (s.limits n).2), plain .accepted)

/-- LENS_CALIBRATE. -/
def execLensCalibrate (tag channel : Byte) (s : State) : Outcome :=
  .next (request tag 0x40 (lensCalibrateBody channel) s)

end Sys2Proof.Machine
end

