-- ==== Sys2Proof/Machine/StopRequests.lean ====
section
/-! DEFINITION. STOP (R74), RESUME (R76), RELEASE_FAULT (R87) and SET_STOP (R72). -/

namespace Sys2Proof.Machine

/-- STOP's own rule (R74; in ARMING also R197). -/
def stopBody : Body := fun s =>
  match s.mode.mode with
  | .parked => refuse .ok s
  | .arming => (abortArming .aborted .stop id none (takeCause (plainCause .consoleStop) s), plain .ok)
  | .live => (takeCause (plainCause .consoleStop) s, plain .ok)

/-- STOP. -/
def execStop (tag : Byte) (s : State) : Outcome := .next (request tag 0x22 stopBody s)

/-- RESUME in HELD (R77, R78, R185). -/
def resumeHeld (s : State) : State × Reply :=
  match standing s.stop.gripMemory s with
  | [] => (resumed s, plain .ok)
  | x :: _ => (s, { result := .refusedCondition, data := u8 x.code ++ u8 x.zoneId })

/-- RESUME's own rule (R76). -/
def resumeBody : Body := fun s =>
  match s.mode.mode, s.stop.safety with
  | .live, .normal => refuse .ok s
  | .live, .held => resumeHeld s
  | _, _ => refuse .refusedMode s

/-- RESUME. -/
def execResume (tag : Byte) (s : State) : Outcome := .next (request tag 0x23 resumeBody s)

/-- RELEASE_FAULT's own rule (R87). -/
def releaseFaultBody : Body := fun s =>
  if s.stop.fault.isNone then refuse .ok s
  else if s.mode.mode = .live ∧ s.stop.safety ≠ .held then refuse .refusedMode s
  else (s.setStop { s.stop with fault := none }, plain .ok)

/-- RELEASE_FAULT. -/
def execReleaseFault (tag : Byte) (s : State) : Outcome := .next (request tag 0x24 releaseFaultBody s)

/-- A natural number clamped into a range (section 4.5). -/
def clampNat (lo hi n : Nat) : Nat := max lo (min n hi)

/-- SET_STOP's own rule (R72). -/
def setStopBody (limit : Half) : Body := fun s =>
  (s.setStop { s.stop with stopLimit := clampNat 10 5000 limit.toNat }, plain .ok)

/-- SET_STOP. -/
def execSetStop (tag : Byte) (limit : Half) (s : State) : Outcome := .next (request tag 0x25 (setStopBody limit) s)

end Sys2Proof.Machine
end

