-- ==== Sys2Proof/Machine/LinkRequests.lean ====
section
/-! DEFINITION. SET_LINK and CLEAR_COUNTERS (R178). -/

namespace Sys2Proof.Machine

/-- The settings of a SET_LINK, once every one of them is inside its set. -/
structure LinkSettings where
  port : PortId
  threshold : Nat
  faultIn : PerKind Bool
  roll : PerKind Bool
  autoClear : Bool
  timer : Nat
deriving DecidableEq, Repr

/-- A SET_LINK's settings, with the threshold clamped (R178). -/
def linkSettings (port threshold faultMask wrapSymbol wrapCrc wrapSequence autoClear : Byte) (portTimer : Half) :
    Option LinkSettings :=
  match portOf? port, switchOf? wrapSymbol, switchOf? wrapCrc, switchOf? wrapSequence, switchOf? autoClear with
  | some p, some a, some b, some c, some d =>
    some
      { port := p, threshold := max 1 threshold.toNat, faultIn := kindBits faultMask
        roll := { symbol := a, crc := b, sequence := c }, autoClear := d, timer := portTimer.toNat }
  | _, _, _, _, _ => none

/-- A port's settings written (R178). -/
def writeSettings (x : LinkSettings) (p : Port) : Port :=
  { p with threshold := x.threshold, faultIn := x.faultIn, roll := x.roll, autoClear := x.autoClear }

/-- The port timer written, at once in force: a shorter silence limit may expire the silence timer (R172), a shorter
return timeout may lose entries (R176). -/
def writeTimer (x : LinkSettings) (s : State) : State :=
  match x.port with
  | .c =>
    let s := s.setLink { s.link with silenceLimit := clampNat 1000 50000 x.timer }
    if silenceDue s.link s.timer then goSilent s else s
  | .d => expireEntries (s.setLink { s.link with returnTimeout := clampNat 100 2000 x.timer })

/-- SET_LINK's own rule (R178). -/
def setLinkBody (x : Option LinkSettings) : Body := fun s =>
  match x with
  | none => refuse .badParam s
  | some x =>
    (writeTimer x (s.setLink (s.link.putPort x.port (writeSettings x (s.link.port x.port)))), plain .ok)

/-- SET_LINK. -/
def execSetLink (tag port threshold faultMask wrapSymbol wrapCrc wrapSequence autoClear : Byte) (portTimer : Half)
    (s : State) : Outcome :=
  .next (request tag 0x28
    (setLinkBody
      (linkSettings port threshold faultMask wrapSymbol wrapCrc wrapSequence autoClear portTimer)) s)

/-- A counter cleared (R178). -/
def clearedCounter : Counter := { count := 0, atThreshold := false, spent := false }

/-- The named counters cleared (R178). -/
def clearKinds (kinds : PerKind Bool) (c : PerKind Counter) : PerKind Counter :=
  { symbol := if kinds.symbol then clearedCounter else c.symbol
    crc := if kinds.crc then clearedCounter else c.crc
    sequence := if kinds.sequence then clearedCounter else c.sequence }

/-- CLEAR_COUNTERS's own rule (R178). -/
def clearCountersBody (port kinds : Byte) : Body := fun s =>
  match portOf? port with
  | none => refuse .badParam s
  | some p =>
    let q := s.link.port p
    (s.setLink (s.link.putPort p { q with counters := clearKinds (kindBits kinds) q.counters }), plain .ok)

/-- CLEAR_COUNTERS. -/
def execClearCounters (tag port kinds : Byte) (s : State) : Outcome :=
  .next (request tag 0x29 (clearCountersBody port kinds) s)

end Sys2Proof.Machine
end

