-- ==== Sys2Proof/Machine/RecordRequests.lean ====
section
/-! DEFINITION. SET_SYNC (R131), RECORD (R133), RECORD_END (R136) and MARK (R135). -/

namespace Sys2Proof.Machine

/-! ## SET_SYNC -/

/-- The reference settings written (R131). A changed cycles_per_frame ends the good-frame run and a lock, without a
slip. -/
def writeSync (cycles : Nat) (required : Bool) (r : Reference) : Reference :=
  if cycles = r.cyclesPerFrame then { r with required := required }
  else
    { r with
      cyclesPerFrame := cycles, required := required, goodRun := 0
      sync := if r.sync = .locked then .measuring else r.sync }

/-- SET_SYNC's own rule (R131). -/
def setSyncBody (cycles required : Byte) : Body := fun s =>
  if s.mode.mode = .live then refuse .refusedMode s
  else
    match switchOf? required with
    | none => refuse .badParam s
    | some on =>
      (s.setTake { s.take with ref := writeSync (clampNat 10 80 cycles.toNat) on s.take.ref }, plain .ok)

/-- SET_SYNC. -/
def execSetSync (tag cyclesPerFrame syncRequired : Byte) (s : State) : Outcome :=
  .next (request tag 0x2A (setSyncBody cyclesPerFrame syncRequired) s)

/-! ## RECORD -/

/-- A take number of 1 to 9,999. -/
def takeNumber (n : Half) : Bool := decide (1 ≤ n.toNat) && decide (n.toNat ≤ 9999)

/-- A RECORD's mask names some channel, none above bit 11 and none that is UNUSED (R133). -/
def recordMaskOk (s : State) (mask : Half) : Bool :=
  mask != 0 && !maskTooWide mask && (maskChannels (maskOf mask)).all fun n => (s.chan n).used

/-- Conditions 3 to 11 of R133 in their order: the first that fails, with its reply. -/
def recordRefusal (s : State) (take mask : Half) : Option Result :=
  if takeNumber take = false ∨ recordMaskOk s mask = false then some .badParam
  else if s.store.state = .unformatted then some .refusedCondition
  else if s.store.state = .formatting then some .refusedBusy
  else if s.take.ref.required = true ∧ s.take.ref.sync ≠ .locked then some .refusedCondition
  else if s.take.recording.active then some .refusedBusy
  else if (findEntry s.store fun e => e.state == .empty).isNone then some .noSpace
  else if s.store.free = [] then some .noSpace
  else if (findEntry s.store fun e => e.state != .empty && e.take == take.toNat).isSome then some .badParam
  else if s.pins.supplyWarn then some .refusedSupply
  else none

/-- The directory entry a RECORD creates (R120). -/
def newEntry (s : State) (take : Nat) (mask : BitVec 12) : DirEntry :=
  { state := .recording, take := take, truncated := false, interrupted := false, slipped := false, damaged := false
    mask := mask
    mapIds := Vector.ofFn fun n : Fin 12 =>
      if inMask mask n && (s.chan n).isLens then ((s.lensOf n).active.map LensMap.mapId).getD 0 else 0
    cyclesPerFrame := s.take.ref.cyclesPerFrame, startTimecode := 0, length := 0, blocks := []
    perBlock := recordsPerBlock mask, marks := [] }

/-- An accepted RECORD: the entry created, the record state RECORD_ARMED (R120, R133). -/
def armRecording (i : Fin 32) (take : Nat) (mask : BitVec 12) (s : State) : State :=
  let s := s.setStore (s.store.mapEntry i fun _ => newEntry s take mask)
  s.setTake
    { s.take with
      recording :=
        { state := .recordArmed, entry := i, take := take, mask := mask, endRequested := false, index := 0 } }

/-- RECORD's own rule (R133). -/
def recordBody (take mask : Half) : Body := fun s =>
  if s.mode.mode = .parked ∨ s.stop.safety ≠ .normal then refuse .refusedMode s
  else
    match recordRefusal s take mask, findEntry s.store fun e => e.state == .empty with
    | some r, _ => refuse r s
    | none, some i => (armRecording i take.toNat (maskOf mask) s, plain .accepted)
    | none, none => refuse .noSpace s

/-- RECORD. -/
def execRecord (tag : Byte) (take mask : Half) (s : State) : Outcome := .next (request tag 0x30 (recordBody take mask) s)

/-! ## RECORD_END -/

/-- The armed recording's entry discarded (R120, R136). -/
def discardRecording (s : State) : State :=
  let s := s.setStore (s.store.mapEntry s.take.recording.entry fun _ => emptyEntry)
  s.setTake { s.take with recording := idleRecording }

/-- RECORD_END's own rule (R136). -/
def recordEndBody : Body := fun s =>
  let r := s.take.recording
  match r.state with
  | .idle => refuse .refusedMode s
  | .recordArmed => (discardRecording s, plain .ok)
  | .recording =>
    if 0 < r.index ∧ r.index % s.take.ref.cyclesPerFrame = 0 then (endRecording s, plain .ok)
    else (s.setTake { s.take with recording := { r with endRequested := true } }, plain .accepted)

/-- RECORD_END. -/
def execRecordEnd (tag : Byte) (s : State) : Outcome := .next (request tag 0x31 recordEndBody s)

/-! ## MARK -/

/-- MARK's own rule (R135). -/
def markBody : Body := fun s =>
  let r := s.take.recording
  let e : DirEntry := s.store.dir[r.entry]
  if r.state = .idle then refuse .refusedMode s
  else if e.marks.contains r.index then refuse .ok s
  else if 16 ≤ e.marks.length then refuse .noSpace s
  else (s.setStore (s.store.mapEntry r.entry fun e => { e with marks := e.marks ++ [r.index] }), plain .ok)

/-- MARK. -/
def execMark (tag : Byte) (s : State) : Outcome := .next (request tag 0x32 markBody s)

end Sys2Proof.Machine
end

