-- ==== Sys2Proof/Machine/MemoryRequests.lean ====
section
/-! DEFINITION. DELETE_TAKE (R124), FORMAT (R116), RELEASE_MEMORY_ERROR and SET_MEMORY (R114). -/

namespace Sys2Proof.Machine

/-! ## DELETE_TAKE -/

/-- A take deleted: its blocks go to the tail of the free list, its entry becomes EMPTY (R124). -/
def deleteEntry (i : Fin 32) (st : TakeStore) : TakeStore :=
  let e : DirEntry := st.dir[i]
  { st with free := st.free ++ e.blocks }.mapEntry i fun _ => emptyEntry

/-- DELETE_TAKE's own rule (R124). -/
def deleteTakeBody (take : Half) : Body := fun s =>
  if s.store.state = .formatting then refuse .refusedBusy s
  else if takeNumber take = false then refuse .badParam s
  else
    match findEntry s.store fun e => e.state != .empty && e.take == take.toNat with
    | none => refuse .notFound s
    | some i =>
      let e : DirEntry := s.store.dir[i]
      if e.state = .recording then refuse .refusedBusy s
      else if s.take.play.active = true ∧ s.take.play.take = take.toNat then refuse .refusedBusy s
      else (s.setStore (deleteEntry i s.store), plain .ok)

/-- DELETE_TAKE. -/
def execDeleteTake (tag : Byte) (take : Half) (s : State) : Outcome :=
  .next (request tag 0x38 (deleteTakeBody take) s)

/-! ## FORMAT -/

/-- FORMAT's own rule (R116). -/
def formatBody : Body := fun s =>
  if s.store.state = .formatting ∨ s.take.recording.active = true ∨ s.take.play.active = true then
    refuse .refusedBusy s
  else (s.setStore (beginFormat s.store), plain .accepted)

/-- FORMAT. -/
def execFormat (tag : Byte) (s : State) : Outcome := .next (request tag 0x39 formatBody s)

/-! ## The memory-error capture record -/

/-- RELEASE_MEMORY_ERROR's own rule (R114). -/
def releaseMemoryErrorBody : Body := fun s => (s.setStore { s.store with errRecord := none }, plain .ok)

/-- RELEASE_MEMORY_ERROR. -/
def execReleaseMemoryError (tag : Byte) (s : State) : Outcome := .next (request tag 0x3A releaseMemoryErrorBody s)

/-- SET_MEMORY's own rule (R114). -/
def setMemoryBody (reportSingles : Byte) : Body := fun s =>
  match switchOf? reportSingles with
  | none => refuse .badParam s
  | some on => (s.setStore { s.store with reportSingles := on }, plain .ok)

/-- SET_MEMORY. -/
def execSetMemory (tag reportSingles : Byte) (s : State) : Outcome :=
  .next (request tag 0x3B (setMemoryBody reportSingles) s)

end Sys2Proof.Machine
end

