-- ==== Sys2Proof/Machine/ModeRequests.lean ====
section
/-! DEFINITION. ARM (R194), PARK (R199) and SOFT_RESET (R200 with the values-after-reset section of each chapter). -/

namespace Sys2Proof.Machine

/-- ARM's own rule (R194). -/
def armBody : Body := fun s =>
  match s.mode.mode with
  | .parked => (armParked s, plain .accepted)
  | _ => refuse .ok s

/-- ARM. -/
def execArm (tag : Byte) (s : State) : Outcome := .next (request tag 0x20 armBody s)

/-- PARK's own rule (R199; in ARMING R197). -/
def parkBody : Body := fun s =>
  match s.mode.mode with
  | .parked => refuse .ok s
  | .arming => (abortArming .aborted .park id none s, plain .ok)
  | .live => if s.stop.safety = .dropped ∨ motionAtRest s = true then (parkLive s, plain .ok) else refuse .refusedBusy s

/-- PARK. -/
def execPark (tag : Byte) (s : State) : Outcome := .next (request tag 0x21 parkBody s)

/-! ## SOFT_RESET -/

/-- R28, which R200 names: presence too is kept. R6 reports it ABSENT from here to the next matched return (log entry
32). -/
def softResetChannel (c : Channel) : Channel :=
  { c with
    outVel := 0, source := .live, pendingSource := none, pendingNew := false, caughtState := .waiting
    holdValue := 0, takeHold := 0, fallback := false, flags := noFlags
    answered := false }

/-- R43. -/
def softResetGeometry (g : Geometry) : Geometry := { g with headSpeed := 0, reference := none }

/-- R109. -/
def softResetLens (l : LensChannel) : LensChannel :=
  { failCalibration .softReset l with window := [], foundMin := none }

/-- R164. -/
def softResetCapture (c : CaptureUnit) : CaptureUnit :=
  if c.state = .tripped then c else { c with state := .idle, condition := none, previous := none }

/-- The mode's part of a SOFT_RESET (R197, R200): an arming is aborted, a LIVE crane leaves LIVE. -/
def softResetMode (s : State) : State :=
  match s.mode.mode with
  | .arming => abortArming .aborted .softReset id none s
  | _ => leaveLive s

/-- SOFT_RESET as every block takes it (R200). -/
def softReset (s : State) : State :=
  let s := interruptRecording (softResetMode s)
  let s := s.setCond { chans := s.cond.chans.map softResetChannel, resumeCatch := false }
  let s := s.setGeo (softResetGeometry s.geo)
  let s := s.setStop { s.stop with safety := .normal, stopTimer := 0, softStop := false }
  let s := s.setLens (s.lens.map softResetLens)
  let s := dropRead (s.setTake { s.take with play := idlePlayback })
  let s := s.setStore (endFormat s.store)
  let s := s.setCapture (softResetCapture s.capture)
  openChain (s.setService { s.service with staging := List.replicate 1024 0 })

/-- SOFT_RESET's own rule (R200). -/
def softResetBody : Body := fun s => (softReset s, plain .ok)

/-- SOFT_RESET. -/
def execSoftReset (tag : Byte) (s : State) : Outcome := .next (request tag 0x7F softResetBody s)

end Sys2Proof.Machine
end

