-- ==== Sys2Proof/Machine/PlayRequests.lean ====
section
/-! DEFINITION. CUE (R142, R143), SET_TRIGGER (R141), GO (R145) and ABORT_PLAY (R149). -/

namespace Sys2Proof.Machine

/-! ## CUE -/

/-- The COMPLETE entry that holds a take number, with what it holds. -/
def completeEntry (s : State) (take : Half) : Option (Fin 32) :=
  findEntry s.store fun e => e.state == .complete && e.take == take.toNat

/-- The record a mark number stands for: record 0 for mark 0 (R142). -/
def cueRecordOf (e : DirEntry) (mark : Nat) : Nat := if mark = 0 then 0 else e.marks.getD (mark - 1) 0

/-- Conditions 3 to 7 of R142 in their order. -/
def cueRefusal (s : State) (take : Half) (mark : Byte) : Option Result :=
  if takeNumber take = false ∨ 16 < mark.toNat then some .badParam
  else if s.store.state = .unformatted then some .refusedCondition
  else if s.store.state = .formatting then some .refusedBusy
  else if s.take.recording.active then some .refusedBusy
  else if s.take.play.active then some .refusedBusy
  else none

/-- The play state as CUE sets it (R143 items 1 and 2). -/
def cuePlay (i : Fin 32) (e : DirEntry) (mark : Nat) : Playback :=
  { idlePlayback with
    state := .cueing, take := e.take, entry := i, mask := e.mask, cueMark := mark, cueRecord := cueRecordOf e mark
    index := cueRecordOf e mark, nextRead := cueRecordOf e mark }

/-- The fallback of a channel ended, the take hold set as at a source change (R15, R16). -/
def endFallback (c : Channel) (l : LensChannel) : Channel :=
  if c.fallback then { c with fallback := false, takeHold := holdFromOutput c l } else c

/-- Whether a channel goes into map-mismatch fallback at a CUE of an entry (R16, R143 item 3). -/
def mismatched (e : DirEntry) (n : Fin 12) (c : Channel) (l : LensChannel) : Bool :=
  c.isLens && c.onTake && inMask e.mask n && mapDiffers e.mapIds[n] l

/-- The comparison of R16 made afresh for every channel, MAP_CHANGED set where one differs. -/
def compareMaps (e : DirEntry) (s : State) : State :=
  let any := (List.finRange 12).any fun n => mismatched e n (s.chan n) (s.lensOf n)
  let s' := s.mapChans fun n c =>
    let c := endFallback c (s.lensOf n)
    if mismatched e n c (s.lensOf n) then beginFallback c else c
  s'.setTake { s'.take with play := { s'.take.play with mapChanged := any } }

/-- An accepted CUE (R143): the play state set, the maps compared, the prefetch begun. -/
def beginCue (i : Fin 32) (mark : Nat) (s : State) : State :=
  let e : DirEntry := s.store.dir[i]
  startRead (compareMaps e (s.setTake { s.take with play := cuePlay i e mark }))

/-- CUE's own rule (R142). -/
def cueBody (take : Half) (mark : Byte) : Body := fun s =>
  if s.mode.mode = .parked ∨ s.stop.safety ≠ .normal then refuse .refusedMode s
  else
    match cueRefusal s take mark, completeEntry s take with
    | some r, _ => refuse r s
    | none, none => refuse .notFound s
    | none, some i =>
      let e : DirEntry := s.store.dir[i]
      if e.length = 0 ∨ e.marks.length < mark.toNat then refuse .notFound s
      else if s.pins.supplyWarn then refuse .refusedSupply s
      else (beginCue i mark.toNat s, plain .accepted)

/-- CUE. -/
def execCue (tag : Byte) (take : Half) (markNumber : Byte) (s : State) : Outcome :=
  .next (request tag 0x34 (cueBody take markNumber) s)

/-! ## SET_TRIGGER -/

/-- The playback settings written; a change of kind clears the line-trigger flag (R141, R145). An edge before the next
outbound frame finds the new kind (log entry 58). -/
def writeTrigger (k : TriggerKind) (timecode : Word) (cueScale : Nat) (t : TakeEngine) : TakeEngine :=
  { t with
    trigger := k, triggerTimecode := timecode, cueScale := cueScale
    play := if k = t.trigger then t.play else { t.play with lineTrigger := false } }

/-- SET_TRIGGER's own rule (R141). -/
def setTriggerBody (kind : Byte) (timecode : Word) (cueScale : Half) : Body := fun s =>
  match triggerOf? kind with
  | none => refuse .badParam s
  | some k => (s.setTake (writeTrigger k timecode (clampNat 1 256 cueScale.toNat) s.take), plain .ok)

/-- SET_TRIGGER. -/
def execSetTrigger (tag kind : Byte) (timecode : Word) (cueScale : Half) (s : State) : Outcome :=
  .next (request tag 0x35 (setTriggerBody kind timecode cueScale) s)

/-! ## GO and ABORT_PLAY -/

/-- GO's own rule (R145). -/
def goBody : Body := fun s =>
  if s.mode.mode = .parked ∨ s.take.play.state ≠ .cued then refuse .refusedMode s
  else if s.pins.supplyWarn then refuse .refusedSupply s
  else (startPlay s, plain .ok)

/-- GO. -/
def execGo (tag : Byte) (s : State) : Outcome := .next (request tag 0x36 goBody s)

/-- ABORT_PLAY's own rule (R149). -/
def abortPlayBody : Body := fun s => (abortActive .request s, plain .ok)

/-- ABORT_PLAY. -/
def execAbortPlay (tag : Byte) (s : State) : Outcome := .next (request tag 0x37 abortPlayBody s)

end Sys2Proof.Machine
end

