-- ==== Sys2Proof/Machine/StatusRequests.lean ====
section
/-! DEFINITION. IDENTIFY (R186) and the twelve READ_STATUS selectors (R189). -/

namespace Sys2Proof.Machine

/-- IDENTIFY (R186): part identifier, hardware revision, channel count, staging size, part counter. -/
def identifyBody : Body := fun s =>
  (s, { result := .ok
        data := le16 0x0C12 ++ (Config.hardwareRevision :: (u8 12 ++ (u16 1024 ++ le32 s.link.part))) })

/-- READ_STATUS of a selector whose only index is 0 (R189). -/
def readSingle (content : State → List Byte) (index page : Byte) : Body := fun s =>
  if index = 0 then (s, pageReply (content s) page) else refuse .badParam s

/-- READ_STATUS of a selector whose index is a channel (R189). -/
def readChannel (content : Channel → LensChannel → List Byte) (index page : Byte) : Body := fun s =>
  match channelOf? index with
  | none => refuse .badParam s
  | some n => (s, pageReply (content (s.chan n) (s.lensOf n)) page)

/-- READ_STATUS of a port (R179). -/
def readPort (index page : Byte) : Body := fun s =>
  match portOf? index with
  | none => refuse .badParam s
  | some p => (s, pageReply (portContent s.link p) page)

/-- READ_STATUS of the memory (R125, R189). -/
def readMemory (index page : Byte) : Body := fun s =>
  if index = 0 then (s, pageReply (memoryContent s.store) page)
  else if index.toNat ≤ 241 then (s, pageReply (badSetContent s.store index.toNat) page)
  else refuse .badParam s

/-- READ_STATUS of a directory entry (R125). -/
def readEntry (index page : Byte) : Body := fun s =>
  if h : index.toNat < 32 then
    let e : DirEntry := s.store.dir[index.toNat]
    (s, pageReply (entryContent e) page)
  else refuse .badParam s

/-- IDENTIFY. -/
def execIdentify (tag : Byte) (s : State) : Outcome := .next (request tag 0x01 identifyBody s)

/-- READ_STATUS, crane status. -/
def execReadStatusCrane (tag index page : Byte) (s : State) : Outcome :=
  .next (request tag 0x02 (readSingle craneContent index page) s)

/-- READ_STATUS, channel. -/
def execReadStatusChannel (tag index page : Byte) (s : State) : Outcome :=
  .next (request tag 0x02 (readChannel channelContent index page) s)

/-- READ_STATUS, port. -/
def execReadStatusPort (tag index page : Byte) (s : State) : Outcome :=
  .next (request tag 0x02 (readPort index page) s)

/-- READ_STATUS, safety. -/
def execReadStatusSafety (tag index page : Byte) (s : State) : Outcome :=
  .next (request tag 0x02 (readSingle safetyContent index page) s)

/-- READ_STATUS, fault record. -/
def execReadStatusFaultRecord (tag index page : Byte) (s : State) : Outcome :=
  .next (request tag 0x02 (readSingle faultContent index page) s)

/-- READ_STATUS, capture record. -/
def execReadStatusCaptureRecord (tag index page : Byte) (s : State) : Outcome :=
  .next (request tag 0x02 (readSingle (fun s => captureContent s.capture) index page) s)

/-- READ_STATUS, memory. -/
def execReadStatusMemory (tag index page : Byte) (s : State) : Outcome :=
  .next (request tag 0x02 (readMemory index page) s)

/-- READ_STATUS, directory entry. -/
def execReadStatusDirectoryEntry (tag index page : Byte) (s : State) : Outcome :=
  .next (request tag 0x02 (readEntry index page) s)

/-- READ_STATUS, play status. -/
def execReadStatusPlayStatus (tag index page : Byte) (s : State) : Outcome :=
  .next (request tag 0x02 (readSingle playContent index page) s)

/-- READ_STATUS, self-check result. -/
def execReadStatusSelfCheck (tag index page : Byte) (s : State) : Outcome :=
  .next (request tag 0x02 (readSingle (fun s => selfCheckContent s.mode) index page) s)

/-- READ_STATUS, lens channel. -/
def execReadStatusLensChannel (tag index page : Byte) (s : State) : Outcome :=
  .next (request tag 0x02 (readChannel lensContent index page) s)

/-- READ_STATUS, last reply: the record as it stood before this request (R184). -/
def execReadStatusLastReply (tag index page : Byte) (s : State) : Outcome :=
  .next (request tag 0x02 (readSingle (fun s => lastReplyContent s.service) index page) s)

end Sys2Proof.Machine
end

