-- ==== Sys2Proof/Machine/TableRequests.lean ====
section
/-! DEFINITION. STAGE_WRITE (R187), the three commits (R188 with R30, R31, R46, R47, R91, R92) and ZONE_SWAP (R48). -/

namespace Sys2Proof.Machine

/-! ## Staging -/

/-- Bytes copied into the staging buffer from an offset (R187). -/
def stageBytes (staging : List Byte) (offset : Nat) (bytes : List Byte) : List Byte :=
  staging.take offset ++ (bytes ++ staging.drop (offset + bytes.length))

/-- STAGE_WRITE's own rule (R187). The test of offset plus byte count stands for a byte count of 0 too (log entry 65). -/
def stageWriteBody (offset : Half) (bytes : List Byte) : Body := fun s =>
  if 1024 < offset.toNat + bytes.length then refuse .badParam s
  else
    (s.setService { s.service with staging := stageBytes s.service.staging offset.toNat bytes }, plain .ok)

/-- STAGE_WRITE; more than 32 bytes fail its form (R183), which is tested before the refusal in ARMING. -/
def execStageWrite (tag : Byte) (offset : Half) (bytes : List Byte) (s : State) : Outcome :=
  .next
    (if tag ≠ 0 ∧ 32 < bytes.length then answer tag 0x18 (plain .badParam) s
    else request tag 0x18 (stageWriteBody offset bytes) s)

/-! ## Commits -/

/-- The bytes a commit reads from the staging buffer (R188). -/
def staged (s : State) (length : Half) : List Byte := s.service.staging.take length.toNat

/-- A geometry record read from its 12 bytes, inside its ranges (section 10.6, R30 item 4). -/
def parseGeometry (bs : List Byte) : Option GeoRecord :=
  let g : GeoRecord :=
    { height := (wordAt bs 0).toNat, base := (wordAt bs 4).toNat, headDecel := (wordAt bs 8).toNat }
  if g.height ≤ 20000000 ∧ g.base ≤ 20000000 ∧ 1 ≤ g.headDecel ∧ g.headDecel ≤ 1000 then some g else none

/-- Item 5 of R30. -/
def reachAllows (chans : Vector Channel 12) (g : GeoRecord) : Bool :=
  match roleHolder chans .motion .reach with
  | none => true
  | some n => decide (0 ≤ (g.base : Int) + (chans[n]).desc.posMin)

/-- COMMIT of the geometry (R30, R31). -/
def commitGeometryBody (length : Half) (crc : Word) : Body := fun s =>
  if s.mode.mode = .live then refuse .refusedMode s
  else if length.toNat ≠ 12 then refuse .badParam s
  else if crc32 (staged s length) ≠ crc then refuse .badChecksum s
  else
    match parseGeometry (staged s length) with
    | none => refuse .badParam s
    | some g =>
      if reachAllows s.cond.chans g then
        (s.setGeo { s.geo with record := some g, reference := none }, plain .ok)
      else refuse .badParam s

/-- COMMIT with target GEOMETRY; its channel is not used. -/
def execCommitGeometry (tag _channel : Byte) (length : Half) (crc : Word) (s : State) : Outcome :=
  .next (request tag 0x19 (commitGeometryBody length crc) s)

/-- A zone bank read from its bytes, every field inside its range (R46 items 5 to 7); its checksum is the one given with
the commit (R47). -/
def parseBank (bs : List Byte) (length : Nat) (crc : Word) : Option Bank :=
  let count := (halfAt bs 0).toNat
  let hold := (halfAt bs 2).toNat
  if count ≤ 32 ∧ length = 4 + 20 * count ∧ hold ≤ 10000 then
    (parseZones bs 0 count).map fun zs => { releaseHold := hold, zones := zs, checksum := crc }
  else none

/-- COMMIT of a zone bank (R46, R47). -/
def commitZoneBody (length : Half) (crc : Word) : Body := fun s =>
  if s.zone.swapPending then refuse .refusedBusy s
  else if length.toNat < 4 ∨ 1024 < length.toNat then refuse .badParam s
  else if crc32 (staged s length) ≠ crc then refuse .badChecksum s
  else
    match parseBank (staged s length) length.toNat crc with
    | none => refuse .badParam s
    | some b => (s.setZone (s.zone.putBank s.zone.activeBank.other b), plain .ok)

/-- COMMIT with target ZONE_SHADOW; its channel is not used. -/
def execCommitZoneShadow (tag _channel : Byte) (length : Half) (crc : Word) (s : State) : Outcome :=
  .next (request tag 0x19 (commitZoneBody length crc) s)

/-- The points of a lens map from point j on (section 10.6). -/
def parsePoints (bs : List Byte) (j : Nat) : Nat → List (Int × Int)
  | 0 => []
  | n + 1 => ((wordAt bs (4 + 8 * j)).toInt, (wordAt bs (8 + 8 * j)).toInt) :: parsePoints bs (j + 1) n

/-- A list in which each item stands in a relation to the next one. -/
def chained (r : Int → Int → Bool) : List Int → Bool
  | [] => true
  | [_] => true
  | a :: b :: rest => r a b && chained r (b :: rest)

/-- A lens map read from its bytes (R91 items 5 to 8). -/
def parseMap (bs : List Byte) (length : Nat) (crc : Word) : Option LensMap :=
  let id := (halfAt bs 0).toNat
  let count := (halfAt bs 2).toNat
  let points := parsePoints bs 0 count
  let rises := chained (fun a b => decide (a < b))
  if 2 ≤ count ∧ count ≤ 64 ∧ length = 4 + 8 * count ∧ id ≠ 0 ∧ rises (points.map Prod.fst) = true ∧
      (rises (points.map Prod.snd) = true ∨ chained (fun a b => decide (b < a)) (points.map Prod.snd) = true) then
    some { mapId := id, points := points, crc := crc }
  else none

/-- COMMIT of a lens map (R91, R92). -/
def commitMapBody (channel : Byte) (length : Half) (crc : Word) : Body := fun s =>
  match channelOf? channel with
  | none => refuse .badParam s
  | some n =>
    if (s.chan n).isLens = false then refuse .badParam s
    else if length.toNat < 4 ∨ 1024 < length.toNat then refuse .badParam s
    else if crc32 (staged s length) ≠ crc then refuse .badChecksum s
    else
      match parseMap (staged s length) length.toNat crc with
      | none => refuse .badParam s
      | some m => (s.mapLens n fun l => { l with pending := some m }, plain .ok)

/-- COMMIT with target LENS_MAP. -/
def execCommitLensMap (tag channel : Byte) (length : Half) (crc : Word) (s : State) : Outcome :=
  .next (request tag 0x19 (commitMapBody channel length crc) s)

/-- A COMMIT whose target is outside its set (R188), which no row spells. -/
def badTarget (tag : Byte) (s : State) : State := request tag 0x19 (refuse .badParam) s

/-! ## ZONE_SWAP -/

/-- ZONE_SWAP's own rule (R48). -/
def zoneSwapBody : Body := fun s => (s.setZone { s.zone with swapPending := true }, plain .ok)

/-- ZONE_SWAP. -/
def execZoneSwap (tag : Byte) (s : State) : Outcome := .next (request tag 0x1A zoneSwapBody s)

end Sys2Proof.Machine
end

