-- ==== Sys2Proof/Machine/Frames.lean ====
section
/-! DEFINITION. CONSOLE_FRAME_ARRIVAL: a whole frame taken in on port C (R165 to R172, R181 to R183), with the request it
carries. -/

namespace Sys2Proof.Machine

/-! ## The request of a frame -/

/-- The state after an outcome, the state before it where it is none. -/
def stateAfter (s : State) : Outcome → State
  | .next t => t
  | .fault _ => s
  | .refused _ => s

/-- The request of a frame executed (R182): the meaning of its row. An event is no request. -/
def runRequest (i : Instr) (s : State) : State :=
  match i with
  | .identify t => stateAfter s (execIdentify t s)
  | .readStatusCrane t n p => stateAfter s (execReadStatusCrane t n p s)
  | .readStatusChannel t n p => stateAfter s (execReadStatusChannel t n p s)
  | .readStatusPort t n p => stateAfter s (execReadStatusPort t n p s)
  | .readStatusSafety t n p => stateAfter s (execReadStatusSafety t n p s)
  | .readStatusFaultRecord t n p => stateAfter s (execReadStatusFaultRecord t n p s)
  | .readStatusCaptureRecord t n p => stateAfter s (execReadStatusCaptureRecord t n p s)
  | .readStatusMemory t n p => stateAfter s (execReadStatusMemory t n p s)
  | .readStatusDirectoryEntry t n p => stateAfter s (execReadStatusDirectoryEntry t n p s)
  | .readStatusPlayStatus t n p => stateAfter s (execReadStatusPlayStatus t n p s)
  | .readStatusSelfCheck t n p => stateAfter s (execReadStatusSelfCheck t n p s)
  | .readStatusLensChannel t n p => stateAfter s (execReadStatusLensChannel t n p s)
  | .readStatusLastReply t n p => stateAfter s (execReadStatusLastReply t n p s)
  | .setChannel t ch cls role kind lo hi vel acc stop follow window cue calib =>
    stateAfter s (execSetChannel t ch cls role kind lo hi vel acc stop follow window cue calib s)
  | .setSource t mask src => stateAfter s (execSetSource t mask src s)
  | .stageWrite t offset bytes => stateAfter s (execStageWrite t offset bytes s)
  | .commitGeometry t ch length crc => stateAfter s (execCommitGeometry t ch length crc s)
  | .commitZoneShadow t ch length crc => stateAfter s (execCommitZoneShadow t ch length crc s)
  | .commitLensMap t ch length crc => stateAfter s (execCommitLensMap t ch length crc s)
  | .zoneSwap t => stateAfter s (execZoneSwap t s)
  | .arm t => stateAfter s (execArm t s)
  | .park t => stateAfter s (execPark t s)
  | .stop t => stateAfter s (execStop t s)
  | .resume t => stateAfter s (execResume t s)
  | .releaseFault t => stateAfter s (execReleaseFault t s)
  | .setStop t limit => stateAfter s (execSetStop t limit s)
  | .setLink t port threshold mask a b c auto timer =>
    stateAfter s (execSetLink t port threshold mask a b c auto timer s)
  | .clearCounters t port kinds => stateAfter s (execClearCounters t port kinds s)
  | .setSync t cycles required => stateAfter s (execSetSync t cycles required s)
  | .record t take mask => stateAfter s (execRecord t take mask s)
  | .recordEnd t => stateAfter s (execRecordEnd t s)
  | .mark t => stateAfter s (execMark t s)
  | .cue t take mark => stateAfter s (execCue t take mark s)
  | .setTrigger t kind timecode scale => stateAfter s (execSetTrigger t kind timecode scale s)
  | .go t => stateAfter s (execGo t s)
  | .abortPlay t => stateAfter s (execAbortPlay t s)
  | .deleteTake t take => stateAfter s (execDeleteTake t take s)
  | .format t => stateAfter s (execFormat t s)
  | .releaseMemoryError t => stateAfter s (execReleaseMemoryError t s)
  | .setMemory t singles => stateAfter s (execSetMemory t singles s)
  | .lensCalibrate t ch => stateAfter s (execLensCalibrate t ch s)
  | .setEmbed t mask => stateAfter s (execSetEmbed t mask s)
  | .armCapture t kind ch value direction scope => stateAfter s (execArmCapture t kind ch value direction scope s)
  | .releaseCapture t => stateAfter s (execReleaseCapture t s)
  | .softReset t => stateAfter s (execSoftReset t s)
  | .consoleFrameArrival _ _ _ => s
  | .outboundFrameSent _ => s
  | .returnArrival _ _ _ _ => s
  | .crewLineRelease _ => s
  | .returnTimeout => s
  | .feedbackLost => s
  | .consoleSilenceTimeout => s
  | .substPeriodElapsed => s
  | .codeGroupReceived _ _ => s
  | .linkFault _ _ => s
  | .stopTimeout => s
  | .calibrationTimeLimit _ => s
  | .playbackData => s
  | .armingDecision => s
  | .refPulse _ => s
  | .flywheelFrameStart => s
  | .refLost => s
  | .triggerEdge _ => s
  | .estopInOpen _ => s
  | .supplyWarnChange _ => s
  | .supplyFailAssert _ => s
  | .pinReset _ => s
  | .formatBlockTested _ _ => s
  | .prefetchReadComplete _ => s
  | .estopInClose _ => s
  | .supplyFailDeassert _ => s

/-- A service field that spells no request answered (R183, R188, R189). A target outside its set is tested after the
refusal in ARMING, a selector is refused there never. -/
def rejectRequest (tag code : Byte) (why : Reject) (s : State) : State :=
  match why with
  | .tooLong => answer tag code (plain .badParam) s
  | .unknownCode => answer tag code (plain .unknownRequest) s
  | .wrongLength => answer tag code (plain .badParam) s
  | .badSelector => request tag code (refuse .badParam) s
  | .badTarget => badTarget tag s

/-- The Service Unit's work on a service field (R181 to R184). -/
def serve (field : List Byte) (s : State) : State :=
  match decodeService field with
  | .nothing => s
  | .command i => runRequest i s
  | .rejected tag code why => rejectRequest tag code why s

/-! ## A frame taken in -/

/-- The three classes of a whole frame taken in (R167): bad, good but of a kind that does not belong to its port, or
good. -/
inductive FrameClass where
  | bad | wrongKind | good
deriving DecidableEq, Repr

/-- The class of a frame at a port whose kind it must have (R167). -/
def classify (kind : Byte) (clean : Bool) (bytes : List Byte) : FrameClass :=
  if !clean || !frameIntact bytes then .bad else if byteAt bytes 0 = kind then .good else .wrongKind

/-- What taking in a frame does to its port (R166, R167): the CRC or SEQUENCE error it counts, and the good-frame
run. -/
def takeIn (p : PortId) (k : FrameClass) (clean : Bool) (s : State) : State :=
  let s := match k with
    | .bad => if clean then portError p .crc s else s
    | .wrongKind => portError p .sequence s
    | .good => s
  setRx p (rxFrame (k != .bad) (s.link.port p).rx) s

/-! ## Console frames -/

/-- Whether an interval lies within 500 to 4,000 µs (R169). -/
def periodOk (interval : Nat) : Bool := decide (500 ≤ interval) && decide (interval ≤ 4000)

/-- Whether a good console frame fails the sequence test (R169 item 2): not made on the first console frame after pin
reset nor on the good frame that ends console absence. An expected cycle number that is still absent fails no frame
(log entry 60). -/
def sequenceFails (l : Link) (now : Nat) (cycle : Half) : Bool :=
  match l.lastArrival with
  | none => false
  | some t =>
    !l.consoleAbsent && (!periodOk (now - t) || (match l.expected with
      | none => false
      | some e => e != cycle))

/-- Items 1, 3 and 4 of R169: the measured period, the expected cycle number, the arrival time. -/
def noteArrival (now : Nat) (cycle : Option Half) (l : Link) : Link :=
  { l with
    period := match l.lastArrival with
      | none => l.period
      | some t => if periodOk (now - t) then some (now - t) else l.period
    expected := match cycle with
      | some c => some (c + 1)
      | none => l.expected.map (· + 1)
    lastArrival := some now }

/-- The record of a good console frame (R170). -/
def goodRecord (f : Frame) : GoodFrame :=
  { cycle := f.cycle, timecode := f.timecode, flags := f.flags, values := f.slots.map Slot.value }

/-- A good console frame taken for outbound work (R170): the silence timer, the part counter, the cycle offset, the
record of the frame. -/
def adoptConsole (f : Frame) (s : State) : State :=
  let s := takePart (s.setLink { s.link with silenceFrom := s.timer, consoleAbsent := false })
  s.setLink
    { s.link with offset := s.link.part.setWidth 16 - f.cycle, lastGood := some (goodRecord f) }

/-- A console frame as its outbound work takes it. -/
def consoleOutbound (f : Frame) : Outbound :=
  { kind := .cycle, consoleCycle := some f.cycle, flags := f.flags, timecode := f.timecode, slots := f.slots
    service := f.service }

/-- A good console frame's outbound work (R170, R182): its flags, its placement, its request, then its conditioning. -/
def goodConsole (f : Frame) (s : State) : State :=
  let u := placeOutbound (serve f.service) f.timecode (takeFlags f.flags (adoptConsole f s))
  finishOutbound (consoleOutbound f) u.2 (serve f.service u.1)

/-- A bad console frame (R171). -/
def badConsole (s : State) : State := if s.link.consoleAbsent then s else originateSubst s

/-- A whole frame taken in on port C (R167, R169 to R171). -/
def consoleFrame (clean : Bool) (bytes : List Byte) (s : State) : State :=
  let k := classify kindCycle clean bytes
  let f := parseFrame bytes
  let s := takeIn .c k clean (settleDecision s)
  if k = .good then
    let s := if sequenceFails s.link s.timer f.cycle then portError .c .sequence s else s
    goodConsole f (s.setLink (noteArrival s.timer (some f.cycle) s.link))
  else badConsole (s.setLink (noteArrival s.timer none s.link))

/-- CONSOLE_FRAME_ARRIVAL; a receiver in UNSYNC takes in no frame (R166). -/
def execConsoleFrameArrival (elapsed : Nat) (clean : Bool) (bytes : List Byte) (s : State) : Outcome :=
  let s := advance elapsed s
  .next (if s.link.portC.rx.listening then consoleFrame clean bytes s else s)

end Sys2Proof.Machine
end

