-- ==== Sys2Proof/Machine/SineTable.lean ====
section
/-! DEFINITION. The fixed table of 257 sine values of R32: entry i is 32,768 × sin(i × π / 512), rounded to the
nearest integer. The manual prints seven of the entries; the others are computed from the rule's formula. -/

namespace Sys2Proof.Machine

/-- Entries 0 to 63. -/
def sineSeg0 : List Nat := [
   0, 201, 402, 603, 804, 1005, 1206, 1407, 1608, 1809, 2009, 2210, 2411, 2611, 2811, 3012,
   3212, 3412, 3612, 3812, 4011, 4211, 4410, 4609, 4808, 5007, 5205, 5404, 5602, 5800, 5998, 6195,
   6393, 6590, 6787, 6983, 7180, 7376, 7571, 7767, 7962, 8157, 8351, 8546, 8740, 8933, 9127, 9319,
   9512, 9704, 9896, 10088, 10279, 10469, 10660, 10850, 11039, 11228, 11417, 11605, 11793, 11980, 12167, 12354]

/-- Entries 64 to 127. -/
def sineSeg1 : List Nat := [
   12540, 12725, 12910, 13095, 13279, 13463, 13646, 13828, 14010, 14192, 14373, 14553, 14733, 14912, 15091, 15269,
   15447, 15624, 15800, 15976, 16151, 16326, 16500, 16673, 16846, 17018, 17190, 17361, 17531, 17700, 17869, 18037,
   18205, 18372, 18538, 18703, 18868, 19032, 19195, 19358, 19520, 19681, 19841, 20001, 20160, 20318, 20475, 20632,
   20788, 20943, 21097, 21251, 21403, 21555, 21706, 21856, 22006, 22154, 22302, 22449, 22595, 22740, 22884, 23028]

/-- Entries 128 to 191. -/
def sineSeg2 : List Nat := [
   23170, 23312, 23453, 23593, 23732, 23870, 24008, 24144, 24279, 24414, 24548, 24680, 24812, 24943, 25073, 25202,
   25330, 25457, 25583, 25708, 25833, 25956, 26078, 26199, 26320, 26439, 26557, 26674, 26791, 26906, 27020, 27133,
   27246, 27357, 27467, 27576, 27684, 27791, 27897, 28002, 28106, 28209, 28311, 28411, 28511, 28610, 28707, 28803,
   28899, 28993, 29086, 29178, 29269, 29359, 29448, 29535, 29622, 29707, 29792, 29875, 29957, 30038, 30118, 30196]

/-- Entries 192 to 255. -/
def sineSeg3 : List Nat := [
   30274, 30350, 30425, 30499, 30572, 30644, 30715, 30784, 30853, 30920, 30986, 31050, 31114, 31177, 31238, 31298,
   31357, 31415, 31471, 31527, 31581, 31634, 31686, 31737, 31786, 31834, 31881, 31927, 31972, 32015, 32058, 32099,
   32138, 32177, 32214, 32251, 32286, 32319, 32352, 32383, 32413, 32442, 32470, 32496, 32522, 32546, 32568, 32590,
   32610, 32629, 32647, 32664, 32679, 32693, 32706, 32718, 32729, 32738, 32746, 32753, 32758, 32762, 32766, 32767]

/-- Entries 256 to 256. -/
def sineSeg4 : List Nat := [
   32768]

/-- The sine table s[0] to s[256] (R32). -/
def sineTable : List Nat := sineSeg0 ++ (sineSeg1 ++ (sineSeg2 ++ (sineSeg3 ++ (sineSeg4))))

/-- Entry s[i] of the sine table (R32). -/
def sineEntry (i : Nat) : Nat := sineTable.getD i 0

end Sys2Proof.Machine
end

