-- ==== Sys2Proof/Machine/Geometry.lean ====
section
/-! DEFINITION. The Geometry Unit's evaluation of one return (R33 to R41). -/

namespace Sys2Proof.Machine

/-- One turn in angle counts (section 4.4). -/
def turn : Nat := 1048576

/-- A quarter turn. -/
def quarter : Nat := 262144

/-- A feedback angle reduced to one turn (R33). -/
def reduceAngle (a : Int) : Nat := (a % (turn : Int)).toNat

/-- The lookup argument of a reduced angle (R33). -/
def lookupArgument (a : Nat) : Nat :=
  if a / quarter % 2 = 0 then a % quarter else quarter - a % quarter

/-- The magnitude of the sine at a lookup argument (R34). -/
def sineMagnitude (arg : Nat) : Nat :=
  let i := arg / 1024
  if i = 256 then sineEntry 256
  else sineEntry i + ((sineEntry (i + 1) - sineEntry i) * (arg % 1024) + 512) / 1024

/-- The sine of a reduced angle, scaled by 32,768 (R34). -/
def sineOf (a : Nat) : Int :=
  if a / quarter < 2 then (sineMagnitude (lookupArgument a) : Int) else -(sineMagnitude (lookupArgument a) : Int)

/-- The sine of a feedback angle. -/
def sinAngle (a : Int) : Int := sineOf (reduceAngle a)

/-- The cosine of a feedback angle: the sine of the reduced angle plus a quarter turn (R34). -/
def cosAngle (a : Int) : Int := sineOf ((reduceAngle a + quarter) % turn)

/-- The head position before saturation (R37). -/
def headPosition (g : GeoRecord) (swing lift reach track : Int) : Pos :=
  let arm := (g.base : Int) + reach
  let radius := roundDiv (arm * cosAngle lift) 32768
  { x := track + roundDiv (radius * cosAngle swing) 32768
    y := roundDiv (radius * sinAngle swing) 32768
    z := (g.height : Int) + roundDiv (arm * sinAngle lift) 32768 }

/-- The three coordinates held as signed 32-bit values (R38). -/
def saturatePos (p : Pos) : Pos := { x := sat32 p.x, y := sat32 p.y, z := sat32 p.z }

/-- The greatest single-axis change between two positions (R39). -/
def largestChange (p q : Pos) : Nat := max (p.x - q.x).natAbs (max (p.y - q.y).natAbs (p.z - q.z).natAbs)

/-- The head speed of a new position against the reference (R39). -/
def headSpeedOf (p : Pos) (part : Word) : Option (Pos × Word) → Nat
  | none => 0
  | some (q, from') => min (ceilDiv (largestChange p q) (part - from').toNat) 4294967295

/-- What the roles and the record give when the head position is available (R36): the record, the SWING and LIFT
feedback, and the REACH and TRACK feedback or 0. -/
def headInputs (chans : Vector Channel 12) (g : Geometry) : Option (GeoRecord × Int × Int × Int × Int) :=
  match g.record, roleFeedback chans .swing, roleFeedback chans .lift with
  | some r, some swing, some lift =>
    some (r, swing, lift, (roleFeedback chans .reach).getD 0, (roleFeedback chans .track).getD 0)
  | _, _, _ => none

/-- The evaluation of the return of the outbound frame with a part counter (R35 to R40). -/
def evaluateHead (chans : Vector Channel 12) (part : Word) (g : Geometry) : Geometry :=
  match headInputs chans g with
  | none =>
    { g with head := none, headSpeed := 0, reference := none, evaluatedAt := part, saturated := false }
  | some (r, swing, lift, reach, track) =>
    let raw := headPosition r swing lift reach track
    let p := saturatePos raw
    { g with
      head := some p
      headSpeed := headSpeedOf p part g.reference
      reference := some (p, part)
      evaluatedAt := part
      saturated := raw != p }

end Sys2Proof.Machine
end

