-- ==== Sys2Proof/Machine/Returns.lean ====
section
/-! DEFINITION. RETURN_ARRIVAL: a whole frame taken in on port D, matched, checked, evaluated and forwarded (R174, R175,
R8, R35, R52, R95, R102 to R104, R155, R177). -/

namespace Sys2Proof.Machine

/-! ## Matching -/

/-- The crew lines as the part sees them: a level that has not held for 50 µs is not seen (R202). -/
def seeCrew (crew : Vector LineSample 4) (s : State) : State :=
  s.setPins
    { s.pins with
      crewSeen := Vector.ofFn fun i : Fin 4 =>
        if 50 ≤ (crew[i]).heldFor then (crew[i]).asserted else s.pins.crewSeen[i] }

/-- The place of the in-flight entry with a part cycle number (R174). -/
def matchPlace (l : Link) (cycle : Half) : Option Nat := l.inFlight.findIdx? fun e => e.part.setWidth 16 == cycle

/-! ## Feedback and its checks -/

/-- One channel's feedback stored (R8), with the presence that its status shows (R6); in PARKED the output of a used
channel follows it (R9). -/
def storeFeedback (mode : CraneMode) (slot : Slot) (c : Channel) : Channel :=
  let c :=
    { c with
      feedback := slot.value.toInt, status := slotStatus slot, present := slotStatus slot != statusNone
      answered := true }
  if mode = .parked ∧ c.used = true then { c with outPos := c.feedback, outVel := 0 } else c

/-- The feedback of a matched return stored (R8). -/
def deliverFeedback (f : Frame) (s : State) : State := s.mapChans fun n c => storeFeedback s.mode.mode f.slots[n] c

/-- A matched return ends a run of losses (R174, R176). -/
def endLosses (s : State) : State := s.setLink { s.link with lossCount := 0, feedbackLost := false }

/-- The causes of the two tests of R175 for one slot. -/
def slotCauses (s : State) (e : InFlight) (f : Frame) (n : Fin 12) : List Cause :=
  let sent : SentSlot := e.outputs[n]
  let slot : Slot := f.slots[n]
  let error := (sent.value - slot.value.toInt).natAbs
  if (s.chan n).used && sent.enable then
    (if (s.chan n).desc.followLimit ≠ 0 ∧ sent.calibrated = false ∧ (s.chan n).desc.followLimit < error then
      [followCause n error] else []) ++
    (if slotStatus slot = statusReady ∨ slotStatus slot = statusNotReady then [] else [channelCause .driveFault n])
  else []

/-- The causes a matched return raises, in the order of R175. -/
def returnCauses (s : State) (e : InFlight) (f : Frame) : List Cause := (List.finRange 12).flatMap (slotCauses s e f)

/-! ## The Lens Mapper -/

/-- The lens feedback of a LENS channel (R95): absent without an active map. A channel whose class is no longer LENS keeps
what it had (log entry 52). -/
def mapFeedback (c : Channel) (l : LensChannel) : LensChannel :=
  if c.isLens then
    match l.active with
    | none => { l with feedback := none, feedbackClamped := false }
    | some m => { l with feedback := some (inverseMap m c.feedback).1, feedbackClamped := (inverseMap m c.feedback).2 }
  else l

/-- Whether a frame of a part counter value was sent in the current seek phase (R102). -/
def inPhase (l : LensChannel) (part : Word) : Bool :=
  match l.phaseFrom with
  | none => false
  | some p => decide ((part - p).toNat < 2147483648)

/-- A feedback value appended to the stall window, which keeps the latest 20 (R102). -/
def pushWindow (window : List Int) (x : Int) : List Int := (window ++ [x]).drop (window.length + 1 - 20)

/-- A stall: 20 values that lie within 2 counts of one another (R102). -/
def stalled (window : List Int) : Bool :=
  decide (window.length = 20) && window.all fun a => window.all fun b => decide (a - b ≤ 2)

/-- The value a stall has found (R102). -/
def foundValue (c : Channel) (l : LensChannel) : Int :=
  let limit := if l.cal = .seekLow then l.seekLow else l.seekHigh
  if c.outPos = limit ∧ (c.feedback - limit).natAbs ≤ 2 then limit else clamp (effMin c l) (effMax c l) c.feedback

/-- A stall found in SEEK_LOW (R103) or in SEEK_HIGH (R104). -/
def foundStall (part : Word) (v : Int) (l : LensChannel) : LensChannel :=
  let l' := { l with window := [], phaseFrom := none, apply := some v }
  if l.cal = .seekLow then { l' with foundMin := some v, cal := .seekHigh }
  else
    let low := l.foundMin.getD v
    if low < v then
      { l' with
        cal := .done, foundMin := none
        result := some { foundMin := low, foundMax := v, fit := mapFitOf l.active low v, madeAt := part } }
    else { l' with cal := .failed, failure := some .noTravel, foundMin := none }

/-- The stall window and the stall test at the return of a frame of a part counter value (R102). -/
def stallStep (part : Word) (c : Channel) (l : LensChannel) : LensChannel :=
  if l.calibrating && inPhase l part then
    let w := pushWindow l.window c.feedback
    if stalled w then foundStall part (foundValue c l) l else { l with window := w }
  else l

/-- The Lens Mapper's work on a matched return. -/
def mapReturn (part : Word) (s : State) : State :=
  s.mapAllLens fun n l => stallStep part (s.chan n) (mapFeedback (s.chan n) l)

/-! ## The whole of it -/

/-- A return matched to its entry, its feedback stored: checked, evaluated, mapped, tested and forwarded (R174). -/
def matchedReturn (e : InFlight) (f : Frame) (s : State) : State :=
  let s := endLosses s
  let s := takeCauses (returnCauses s e f) s
  let s := s.setGeo (evaluateHead s.cond.chans e.part s.geo)
  let s := mapReturn e.part (evaluateZones e.part s)
  let s := testCrossing .feedbackCrosses s.take.play.state (fun n => (s.chan n).feedback) e.part (consoleTimecode s) s
  forwardReturn e f s

/-- A good return matched against the in-flight list (R174). Its feedback stands stored before the losses of the entries it
passes over raise their cause (R85; log entry 35). -/
def goodReturn (f : Frame) (s : State) : State :=
  match matchPlace s.link f.cycle with
  | none => portError .d .sequence s
  | some k =>
    let s := loseEntries k (deliverFeedback f s)
    match s.link.inFlight with
    | [] => s
    | e :: rest =>
      let s := s.setLink { s.link with inFlight := rest }
      matchedReturn e f (if k = 0 then s else portError .d .sequence s)

/-- A whole frame taken in on port D (R167, R174). A good frame of another kind is dropped, its SEQUENCE error counted as
it was taken in; a bad one is discarded. -/
def returnFrame (clean : Bool) (bytes : List Byte) (s : State) : State :=
  let k := classify kindReturn clean bytes
  let s := takeIn .d k clean s
  if k = .good then goodReturn (parseFrame bytes) s else s

/-- RETURN_ARRIVAL, with the crew lines as they stand; a receiver in UNSYNC takes in no frame (R166). -/
def execReturnArrival (elapsed : Nat) (crew : Vector LineSample 4) (clean : Bool) (bytes : List Byte) (s : State) :
    Outcome :=
  let s := seeCrew crew (advance elapsed s)
  .next (if s.link.portD.rx.listening then returnFrame clean bytes s else s)

end Sys2Proof.Machine
end

