-- ==== Sys2Proof/Machine/LinkEvents.lean ====
section
/-! DEFINITION. The link's other events: OUTBOUND_FRAME_SENT (R173), RETURN_TIMEOUT and FEEDBACK_LOST (R176),
CONSOLE_SILENCE_TIMEOUT and SUBST_PERIOD_ELAPSED (R172), CODE_GROUP_RECEIVED (R166), LINK_FAULT (R168). An event that a
timer makes due takes effect at the moment it is due (log entry 16); an event that names the outcome of a rule has that
outcome where the rule gives it, and no effect elsewhere (log entry 17). -/

namespace Sys2Proof.Machine

/-- The timer at a moment, where that has not passed. -/
def timeAt (t : Nat) (s : State) : State := s.setTimer (max s.timer t)

/-- OUTBOUND_FRAME_SENT: the next waiting frame starts its transmission on port D (R173). -/
def execOutboundFrameSent (elapsed : Nat) (s : State) : Outcome := .next (sendNext (advance elapsed s))

/-- The moment the oldest entry times out (R176). -/
def oldestDeadline (l : Link) (e : InFlight) : Nat := e.sendTime + l.returnTimeout

/-- RETURN_TIMEOUT: the oldest entry times out, and any other as old (R176). -/
def execReturnTimeout (s : State) : Outcome :=
  match s.link.inFlight with
  | [] => .next s
  | e :: _ => .next (expireEntries (timeAt (oldestDeadline s.link e) s))

/-- FEEDBACK_LOST: the oldest entry times out as the third consecutive lost one (R176). -/
def execFeedbackLost (s : State) : Outcome :=
  match s.link.inFlight with
  | [] => .next s
  | e :: _ =>
    .next (if s.link.lossCount = 2 then loseOldest (timeAt (oldestDeadline s.link e) s) else s)

/-- CONSOLE_SILENCE_TIMEOUT (R172). -/
def execConsoleSilenceTimeout (s : State) : Outcome :=
  .next
    (if s.link.consoleAbsent then s
      else goSilent (settleDecision (timeAt (s.link.silenceFrom + s.link.silenceLimit) s)))

/-- The substitution period in force (R172). -/
def substPeriod (l : Link) : Nat := l.period.getD 1000

/-- SUBST_PERIOD_ELAPSED (R172). -/
def execSubstPeriodElapsed (s : State) : Outcome :=
  .next
    (if s.link.consoleAbsent then
      originateSubst (settleDecision (timeAt (s.link.lastSubst + substPeriod s.link) s))
    else s)

/-- An invalid code group: a SYMBOL error where the receiver listens (R166). -/
def invalidGroup (p : PortId) (s : State) : State :=
  let s := portError p .symbol s
  setRx p (rxInvalid (s.link.port p).rx) s

/-- CODE_GROUP_RECEIVED (R166). -/
def execCodeGroupReceived (p : PortId) (valid : Bool) (s : State) : Outcome :=
  .next (if valid then setRx p (rxValid (s.link.port p).rx) s else invalidGroup p s)

/-- LINK_FAULT: an error that makes its counter reach the threshold (R168). -/
def execLinkFault (p : PortId) (k : ErrKind) (s : State) : Outcome :=
  .next (if nextReaches p k s then portError p k s else s)

end Sys2Proof.Machine
end

