-- ==== Sys2Proof/Machine/PartEvents.lean ====
section
/-! DEFINITION. The events of the part's own blocks: CREW_LINE_RELEASE (R51), STOP_TIMEOUT (R71),
CALIBRATION_TIME_LIMIT (R105), PLAYBACK_DATA (R148), ARMING_DECISION (R196), FLYWHEEL_FRAME_START (R129), REF_LOST
(R130), FORMAT_BLOCK_TESTED (R117) and PREFETCH_READ_COMPLETE (R147). Those that name the outcome of a rule have that
outcome where the rule gives it, and no effect elsewhere (log entry 17). -/

namespace Sys2Proof.Machine

/-! ## Crew lines -/

/-- The crew release hold under which the next sample is taken: that of the bank active once a pending swap has been
exchanged (R49, R51, R52). -/
def holdOfSample (z : ZoneMonitor) : Nat := (exchangeBanks z).activeOne.releaseHold

/-- Whether a crew line's next deasserted sample releases it (R51). -/
def releases (z : ZoneMonitor) (line : Fin 4) : Bool :=
  (z.crew[line]).active && decide (max (holdOfSample z) 1 ≤ satSucc 10000 (z.crew[line]).count)

/-- Whether a zone id names a CREW zone of the active bank on a line. -/
def onLine (z : ZoneMonitor) (line : Fin 4) (id : Nat) : Bool :=
  match z.activeOne.zones[id]? with
  | none => false
  | some r => r.crew && r.line == line.val

/-- A crew line sampled deasserted (R51), its zones' stop-band memory cleared where it becomes INACTIVE (R57). -/
def releaseLine (line : Fin 4) (z : ZoneMonitor) : ZoneMonitor :=
  { z with
    crew := z.crew.set line.val (sampleLine (holdOfSample z) false z.crew[line]) line.isLt
    stopMemory := z.stopMemory.filter fun id => !onLine z line id }

/-- CREW_LINE_RELEASE: the deasserted sample that releases the line. -/
def execCrewLineRelease (line : Fin 4) (s : State) : Outcome :=
  .next
    (if releases s.zone line then
      (s.setZone (releaseLine line s.zone)).setPins
        { s.pins with crewSeen := s.pins.crewSeen.set line.val false line.isLt }
    else s)

/-! ## Stops, calibrations, playback, arming -/

/-- STOP_TIMEOUT: the stop timer's step that reaches its limit with an axis still moving (R71). -/
def execStopTimeout (s : State) : Outcome :=
  .next
    (if s.mode.mode = .live ∧ s.stop.safety = .stopping ∧ motionAtRest s = false ∧
        s.stop.stopLimit ≤ satSucc 65535 s.stop.stopTimer then stopTick s
    else s)

/-- Whether a channel's next frame under calibration passes the time limit (R105). -/
def limitPasses (s : State) (n : Fin 12) : Bool :=
  s.mode.mode == .live && s.stop.safety != .dropped && (s.chan n).isLens && (s.lensOf n).calibrating &&
    (s.lensOf n).apply.isNone && decide (30000 < calCount (s.lensOf n))

/-- CALIBRATION_TIME_LIMIT (R105). -/
def execCalibrationTimeLimit (n : Fin 12) (s : State) : Outcome :=
  let r := calibrate (s.limits n).1 (s.limits n).2 s.link.part (s.chan n) (s.lensOf n)
  .next (if limitPasses s n then (s.mapChan n fun _ => r.1).mapLens n fun _ => r.2 else s)

/-- PLAYBACK_DATA: the RUNNING frame's third consecutive data fault (R148). -/
def execPlaybackData (s : State) : Outcome :=
  .next (if thirdFault s.take.play then playFrame s else s)

/-- ARMING_DECISION (R196). -/
def execArmingDecision (s : State) : Outcome := .next (settleDecision s)

/-! ## The reference -/

/-- The next outbound frame placed ahead of it (log entry 3). -/
def placeAhead (s : State) : State :=
  let u := placeNext s
  u.1.setTake { u.1.take with placed := some u.2 }

/-- FLYWHEEL_FRAME_START: the next frame is a FLYWHEEL frame-start period (R129). -/
def execFlywheelFrameStart (s : State) : Outcome :=
  .next (if s.take.placed = none ∧ nextStart s.take.ref = .flywheel then placeAhead s else s)

/-- REF_LOST: the next frame's placement finds the reference lost (R130). -/
def execRefLost (s : State) : Outcome :=
  .next
    (if s.take.placed = none ∧ s.take.ref.sync ≠ .noRef ∧ (placeReference s.take.ref).1.sync = .noRef then
      placeAhead s
    else s)

/-! ## The take memory -/

/-- FORMAT_BLOCK_TESTED: the format finishes the block its progress names (R117). -/
def execFormatBlockTested (errors : List WordRead) (differ : List Nat) (s : State) : Outcome :=
  .next (if s.store.state = .formatting then s.setStore (testBlock s.link.part errors differ s.store) else s)

/-- A delivered record joins the queue of the playback it was read for; a cue record delivered bad ends the cue
(R143, R147). -/
def queueRecord (q : QueuedRecord) (s : State) : State :=
  let p := s.take.play
  if p.state = .cueing ∧ q.index = p.cueRecord ∧ q.good = false then abortPlay .data s
  else s.setTake { s.take with play := { p with queue := p.queue ++ [q] } }

/-- PREFETCH_READ_COMPLETE: the read in progress delivers its record, and the next read begins (R123, R147). A read that is
still in progress when a format begins, or ends without completing, completes all the same (log entry 57). -/
def execPrefetchReadComplete (errors : List WordRead) (s : State) : Outcome :=
  match s.store.reading with
  | none => .next s
  | some r =>
    let u := deliver s.link.part errors r s.store
    let s := s.setStore u.1
    .next (startRead (if r.wanted then queueRecord u.2 s else s))

end Sys2Proof.Machine
end

