-- ==== Sys2Proof/Machine/Dispatch.lean ====
section
/-! DEFINITION. One arm per command, each a direct call of its meaning. -/

namespace Sys2Proof.Machine

def exec (i : Instr) (s : State) : Host.Outcome State Fault Refusal :=
  match i with
  | .identify tag => Sys2Proof.Machine.execIdentify tag s
  | .readStatusCrane tag index page => Sys2Proof.Machine.execReadStatusCrane tag index page s
  | .readStatusChannel tag index page => Sys2Proof.Machine.execReadStatusChannel tag index page s
  | .readStatusPort tag index page => Sys2Proof.Machine.execReadStatusPort tag index page s
  | .readStatusSafety tag index page => Sys2Proof.Machine.execReadStatusSafety tag index page s
  | .readStatusFaultRecord tag index page => Sys2Proof.Machine.execReadStatusFaultRecord tag index page s
  | .readStatusCaptureRecord tag index page => Sys2Proof.Machine.execReadStatusCaptureRecord tag index page s
  | .readStatusMemory tag index page => Sys2Proof.Machine.execReadStatusMemory tag index page s
  | .readStatusDirectoryEntry tag index page => Sys2Proof.Machine.execReadStatusDirectoryEntry tag index page s
  | .readStatusPlayStatus tag index page => Sys2Proof.Machine.execReadStatusPlayStatus tag index page s
  | .readStatusSelfCheck tag index page => Sys2Proof.Machine.execReadStatusSelfCheck tag index page s
  | .readStatusLensChannel tag index page => Sys2Proof.Machine.execReadStatusLensChannel tag index page s
  | .readStatusLastReply tag index page => Sys2Proof.Machine.execReadStatusLastReply tag index page s
  | .setChannel tag channel cls role kind posMin posMax velMax accMax stopAcc followLimit catchWindow cueTolerance calibSpeed => Sys2Proof.Machine.execSetChannel tag channel cls role kind posMin posMax velMax accMax stopAcc followLimit catchWindow cueTolerance calibSpeed s
  | .setSource tag mask source => Sys2Proof.Machine.execSetSource tag mask source s
  | .stageWrite tag offset bytes => Sys2Proof.Machine.execStageWrite tag offset bytes s
  | .commitGeometry tag channel length crc => Sys2Proof.Machine.execCommitGeometry tag channel length crc s
  | .commitZoneShadow tag channel length crc => Sys2Proof.Machine.execCommitZoneShadow tag channel length crc s
  | .commitLensMap tag channel length crc => Sys2Proof.Machine.execCommitLensMap tag channel length crc s
  | .zoneSwap tag => Sys2Proof.Machine.execZoneSwap tag s
  | .arm tag => Sys2Proof.Machine.execArm tag s
  | .park tag => Sys2Proof.Machine.execPark tag s
  | .stop tag => Sys2Proof.Machine.execStop tag s
  | .resume tag => Sys2Proof.Machine.execResume tag s
  | .releaseFault tag => Sys2Proof.Machine.execReleaseFault tag s
  | .setStop tag limit => Sys2Proof.Machine.execSetStop tag limit s
  | .setLink tag port threshold faultMask wrapSymbol wrapCrc wrapSequence autoClear portTimer => Sys2Proof.Machine.execSetLink tag port threshold faultMask wrapSymbol wrapCrc wrapSequence autoClear portTimer s
  | .clearCounters tag port kinds => Sys2Proof.Machine.execClearCounters tag port kinds s
  | .setSync tag cyclesPerFrame syncRequired => Sys2Proof.Machine.execSetSync tag cyclesPerFrame syncRequired s
  | .record tag take mask => Sys2Proof.Machine.execRecord tag take mask s
  | .recordEnd tag => Sys2Proof.Machine.execRecordEnd tag s
  | .mark tag => Sys2Proof.Machine.execMark tag s
  | .cue tag take markNumber => Sys2Proof.Machine.execCue tag take markNumber s
  | .setTrigger tag kind timecode cueScale => Sys2Proof.Machine.execSetTrigger tag kind timecode cueScale s
  | .go tag => Sys2Proof.Machine.execGo tag s
  | .abortPlay tag => Sys2Proof.Machine.execAbortPlay tag s
  | .deleteTake tag take => Sys2Proof.Machine.execDeleteTake tag take s
  | .format tag => Sys2Proof.Machine.execFormat tag s
  | .releaseMemoryError tag => Sys2Proof.Machine.execReleaseMemoryError tag s
  | .setMemory tag reportSingles => Sys2Proof.Machine.execSetMemory tag reportSingles s
  | .lensCalibrate tag channel => Sys2Proof.Machine.execLensCalibrate tag channel s
  | .setEmbed tag mask => Sys2Proof.Machine.execSetEmbed tag mask s
  | .armCapture tag kind channel value direction scope => Sys2Proof.Machine.execArmCapture tag kind channel value direction scope s
  | .releaseCapture tag => Sys2Proof.Machine.execReleaseCapture tag s
  | .softReset tag => Sys2Proof.Machine.execSoftReset tag s
  | .consoleFrameArrival elapsed clean bytes => Sys2Proof.Machine.execConsoleFrameArrival elapsed clean bytes s
  | .outboundFrameSent elapsed => Sys2Proof.Machine.execOutboundFrameSent elapsed s
  | .returnArrival elapsed crew clean bytes => Sys2Proof.Machine.execReturnArrival elapsed crew clean bytes s
  | .crewLineRelease line => Sys2Proof.Machine.execCrewLineRelease line s
  | .returnTimeout => Sys2Proof.Machine.execReturnTimeout s
  | .feedbackLost => Sys2Proof.Machine.execFeedbackLost s
  | .consoleSilenceTimeout => Sys2Proof.Machine.execConsoleSilenceTimeout s
  | .substPeriodElapsed => Sys2Proof.Machine.execSubstPeriodElapsed s
  | .codeGroupReceived port valid => Sys2Proof.Machine.execCodeGroupReceived port valid s
  | .linkFault port kind => Sys2Proof.Machine.execLinkFault port kind s
  | .stopTimeout => Sys2Proof.Machine.execStopTimeout s
  | .calibrationTimeLimit channel => Sys2Proof.Machine.execCalibrationTimeLimit channel s
  | .playbackData => Sys2Proof.Machine.execPlaybackData s
  | .armingDecision => Sys2Proof.Machine.execArmingDecision s
  | .refPulse heldFor => Sys2Proof.Machine.execRefPulse heldFor s
  | .flywheelFrameStart => Sys2Proof.Machine.execFlywheelFrameStart s
  | .refLost => Sys2Proof.Machine.execRefLost s
  | .triggerEdge heldFor => Sys2Proof.Machine.execTriggerEdge heldFor s
  | .estopInOpen heldFor => Sys2Proof.Machine.execEstopInOpen heldFor s
  | .supplyWarnChange level => Sys2Proof.Machine.execSupplyWarnChange level s
  | .supplyFailAssert heldFor => Sys2Proof.Machine.execSupplyFailAssert heldFor s
  | .pinReset heldFor => Sys2Proof.Machine.execPinReset heldFor s
  | .formatBlockTested errors differ => Sys2Proof.Machine.execFormatBlockTested errors differ s
  | .prefetchReadComplete errors => Sys2Proof.Machine.execPrefetchReadComplete errors s
  | .estopInClose heldFor => Sys2Proof.Machine.execEstopInClose heldFor s
  | .supplyFailDeassert heldFor => Sys2Proof.Machine.execSupplyFailDeassert heldFor s

end Sys2Proof.Machine
end

