-- ==== Sys2Proof/Safety.lean ====
section
/-! DEFINITION. What counts as safe: an outcome that is a next state, and the conditions on one state that the manual
states of every moment (R64, R81, R118, R139, R168, R173). -/

namespace Sys2Proof.Machine

/-- An outcome that goes on. -/
def ranOn (o : Host.Outcome State Fault Refusal) : Prop := ∃ t, o = .next t

/-- While the mode is PARKED or ARMING the safety state is NORMAL (R64). -/
def SafetyGoverned (s : State) : Prop := s.mode.mode ≠ .live → s.stop.safety = .normal

/-- Whether the drives may be driven: ARMING or LIVE, and not DROPPED (R81). -/
def drivable (s : State) : Bool := s.mode.mode != .parked && s.stop.safety != .dropped

/-- ESTOP_OUT is closed, and BRAKE released, exactly while the drives may be driven (R81). -/
def LinesFollow (s : State) : Prop := s.pins.estopOutClosed = drivable s ∧ s.pins.brakeReleased = drivable s

/-- Outside NORMAL, and outside LIVE, no playback and no recording is active (R139, R149). -/
def TakesQuiet (s : State) : Prop :=
  s.mode.mode ≠ .live ∨ s.stop.safety ≠ .normal →
    s.take.play.active = false ∧ s.take.recording.active = false

/-- The in-flight list holds at most 4 entries (R173). -/
def ListBounded (s : State) : Prop := s.link.inFlight.length ≤ 4

end Sys2Proof.Machine
end

