-- ==== Sys2Proof/Certificates/Slice0/Obligations.lean ====
section
/-! DEFINITION. The statements about the TC-12 for the provers, and the words they use. -/

open Sys2Proof Sys2Proof.Machine

namespace Sys2Proof.Claims

/-- A request that is executed by its own rule: it has a tag, and the crane is not arming. -/
def served (tag : Byte) (s : State) : Prop := tag ≠ 0 ∧ s.mode.mode ≠ .arming

/-- A request answered without data, with the state its own rule leaves. -/
def replied (tag code : Byte) (r : Result) (t : State) : Outcome := .next (answer tag code { result := r, data := [] } t)

/-- One channel's entry replaced. -/
def withChannel (s : State) (n : Fin 12) (c : Channel) : State :=
  { s with cond := { s.cond with chans := s.cond.chans.set n.val c n.isLt } }

/-- One channel's lens state replaced. -/
def withLens (s : State) (n : Fin 12) (l : LensChannel) : State := { s with lens := s.lens.set n.val l n.isLt }

/-- One directory entry replaced. -/
def withEntry (st : TakeStore) (i : Fin 32) (e : DirEntry) : TakeStore := { st with dir := st.dir.set i.val e i.isLt }

/-- The table of R2 over the codes of R192: 0 is UNUSED, 1 MOTION, 2 LENS; kind 0 is ROTARY, 1 LINEAR. -/
def roleFits (cls role kind : Nat) : Prop :=
  (role = 0 ∧ cls = 0) ∨
  ((role = 1 ∨ role = 2 ∨ role = 5 ∨ role = 6 ∨ role = 7) ∧ cls = 1 ∧ kind = 0) ∨
  ((role = 3 ∨ role = 4) ∧ cls = 1 ∧ kind = 1) ∨
  (role = 8 ∧ cls = 1) ∨
  ((role = 9 ∨ role = 10 ∨ role = 11 ∨ role = 12) ∧ cls = 2)

/-- Checks 2 to 9 of R3 for channel n. -/
def descriptorFits (s : State) (n : Fin 12) (cls role kind : Byte) (f : ChannelFields) : Prop :=
  cls.toNat ≤ 2 ∧ role.toNat ≤ 12 ∧ (cls.toNat = 1 → kind.toNat ≤ 1) ∧
  roleFits cls.toNat role.toNat kind.toNat ∧
  (role.toNat ≠ 0 ∧ role.toNat ≠ 8 ∧ role.toNat ≠ 12 →
    ∀ m : Fin 12, m ≠ n → roleCode (s.cond.chans[m]).desc.role ≠ role.toNat) ∧
  (cls.toNat ≠ 0 →
    f.posMin.toInt < f.posMax.toInt ∧
    1 ≤ f.velMax.toNat ∧ f.velMax.toNat ≤ 1048576 ∧ 1 ≤ f.accMax.toNat ∧
    f.followLimit.toNat ≤ 2 ^ 24 ∧ f.catchWindow.toNat ≤ 2 ^ 24 ∧ f.cueTolerance.toNat ≤ 2 ^ 20 ∧
    f.accMax.toNat ≤ f.stopAcc.toNat) ∧
  (cls.toNat = 2 → f.calibSpeed ≠ 0) ∧
  (role.toNat = 3 → ∀ g, s.geo.record = some g → 0 ≤ (g.base : Int) + f.posMin.toInt)

/-- The frame that a console frame's bytes are: 160 bytes whose CRC holds, none of whose code groups was invalid, of
kind CYCLE (R167). -/
def goodCycle (clean : Bool) (bytes : List Byte) : Prop :=
  clean = true ∧ bytes.length = 160 ∧ crc32 (bytes.take 156) = wordAt bytes 156 ∧ byteAt bytes 0 = 0x01

/-- The snapshot of R85 as a state stands. -/
def snapshotNow (s : State) : Snapshot :=
  { axes := s.cond.chans.map fun c => (c.outPos, c.feedback), head := s.geo.head, scale := s.zone.scale }

/-- The timecode of the latest good console frame, 0 if none has arrived (R85). -/
def latestTimecode (s : State) : Word :=
  match s.link.lastGood with
  | none => 0
  | some g => g.timecode

/-- R85, R86: the fault record once a cause has been entered in it. -/
def faultEntered (c : Cause) (s : State) : FaultRecord :=
  match s.stop.fault with
  | none =>
    { cause := c, cls := c.name.cls, mode := s.mode.mode, safety := s.stop.safety, part := s.link.part
      timecode := latestTimecode s, snapshot := snapshotNow s, laterCount := 0, lastLater := none
      highest := c.name.cls }
  | some r =>
    { r with
      laterCount := min (r.laterCount + 1) 255, lastLater := some (c.name, s.link.part)
      highest := if c.name.cls = .i then .i else r.highest }

/-- Section 4.5 of 00_scope.md: a rounded quotient is the nearest integer, a half away from zero, with the sign of the
exact one. -/
def roundsHalfAway : Prop :=
  ∀ num den : Int, den ≠ 0 →
    let q := roundDiv num den
    2 * q.natAbs * den.natAbs ≤ 2 * num.natAbs + den.natAbs ∧
    2 * num.natAbs + den.natAbs < 2 * (q.natAbs + 1) * den.natAbs ∧
    (0 ≤ num * den → 0 ≤ q) ∧ (num * den ≤ 0 → q ≤ 0)

/-- R121, R123, R147: the read of a playback's next index, in the block and at the place of its entry that the index
gives it. -/
def nextReadOf (p : Playback) (e : DirEntry) : ReadReq :=
  let place := p.nextRead / e.perBlock
  { wanted := true, entry := p.entry, take := e.take, mask := e.mask, index := p.nextRead
    block := e.blocks.getD place 0, position := p.nextRead % e.perBlock, size := recordSize e.mask
    header := decide (p.nextRead = p.cueRecord ∨ p.nextRead % e.perBlock = 0), sequence := place
    recordCount := if place + 1 = e.blocks.length then e.length - place * e.perBlock else e.perBlock
    nextBlock := e.blocks.getD (place + 1) 0xFFFF }

/-- R129, R130: the placement that the reference gives the next frame. -/
def nextPlacement (r : Reference) : Placement :=
  let u := placeReference r
  { phase := u.1.phase, start := u.1.startKind, slip := u.2, sync := u.1.sync }

/-- R129, R130, R138: the state once the next frame has been placed: the reference moved on, and a slip handed to the
recording and counted in the running slips of a RUNNING playback. -/
def placedNext (s : State) : State :=
  let u := placeReference s.take.ref
  let p := s.take.play
  let g := s.take.recording.entry
  { s with
    store :=
      if u.2 = true ∧ s.take.recording.state = .recording then
        withEntry s.store g { s.store.dir[g] with slipped := true }
      else s.store
    take := { s.take with
      ref := u.1
      play := if u.2 = true ∧ p.state = .running then { p with runSlips := min (p.runSlips + 1) 65535 } else p } }

/-- R12, R129, R172, R195: one SUBST frame originated: under the next part counter value, counted in ARMING, with the
timecode and the slot values of the latest good console frame and no request; it is placed, and then goes through the
same outbound work as a console frame. -/
def substOriginated (s t : State) : Prop :=
  ∃ o : Outbound,
    let a : State := { s with
      link := { s.link with part := s.link.part + 1, lastSubst := s.timer }
      mode := { s.mode with count := if s.mode.mode = .arming then min (s.mode.count + 1) 250 else s.mode.count }
      service := { s.service with reply := none }
      take := { s.take with cueScaleNow := s.take.cueScale }
      cond := { s.cond with chans := Vector.ofFn fun n : Fin 12 => { s.cond.chans[n] with pendingNew := false } } }
    o.kind = .subst ∧ o.consoleCycle = none ∧ o.flags = 0 ∧ o.timecode = latestTimecode s ∧
    o.service.length = 40 ∧ byteAt o.service 0 = 0 ∧
    (∀ n : Fin 12, (o.slots[n]).value = match s.link.lastGood with
      | none => 0
      | some g => g.values[n]) ∧
    t = finishOutbound o (placeOutbound id o.timecode a).2 (placeOutbound id o.timecode a).1

/-- R102: a lens channel's stall window is empty after a lost return, where a calibration runs. -/
def windowEmptied (l : LensChannel) : LensChannel :=
  if l.cal = .seekLow ∨ l.cal = .seekHigh then { l with window := [] } else l

/-- R95: a LENS channel's feedback mapped back through its active map. A channel of another class keeps what it had (log
entry 52). -/
def feedbackMapped (c : Channel) (l : LensChannel) : LensChannel :=
  if c.desc.cls = .lens then
    match l.active with
    | none => { l with feedback := none, feedbackClamped := false }
    | some m => { l with feedback := some (inverseMap m c.feedback).1, feedbackClamped := (inverseMap m c.feedback).2 }
  else l

/-- R157, R160: the Capture Unit is armed with a condition of a kind whose scope is open under a play state. -/
def awaits (u : CaptureUnit) (kind : CaptureKind) (play : PlayState) (c : Condition) : Prop :=
  u.state = .armed ∧ u.condition = some c ∧ c.kind = kind ∧
  (c.scope = .liveOnly → play ≠ .running) ∧ (c.scope = .playbackOnly → play = .running)

/-- R161: the Capture Unit once its condition is met, its record filled from the state as it stands. -/
def trippedBy (c : Condition) (met : MetValue) (part timecode : Word) (s : State) : CaptureUnit :=
  { s.capture with
    state := .tripped, previous := none
    record := some
      { condition := c, met := met, part := part, timecode := timecode
        activity := match s.take.recording.state with
          | .recordArmed => .recordArmed
          | .recording => .recording
          | .idle => playActivity s.take.play.state
        index := if s.take.recording.state = .idle then s.take.play.index else s.take.recording.index
        snapshot := snapshotNow s } }

/-- R159, R161: a test opportunity of a kind that is no crossing. The unit is tripped exactly where it awaits the
condition and the condition is met, and is as it was elsewhere. -/
def testedFor (kind : CaptureKind) (play : PlayState) (met : Condition → Option MetValue) (part timecode : Word)
    (s : State) (u : CaptureUnit) : Prop :=
  (∀ c m, awaits s.capture kind play c → met c = some m → u = trippedBy c m part timecode s) ∧
  ((∀ c m, awaits s.capture kind play c → met c ≠ some m) → u = s.capture)

/-- R197: the checks at the end of an arming, those still PENDING marked NOT_RUN. -/
def settledChecks (c : Checks) : Checks :=
  let f (m : CheckMark) : CheckMark := if m = .pending then .notRun else m
  { channel := f c.channel, geometry := f c.geometry, zones := f c.zones, link := f c.link, drives := f c.drives
    estop := f c.estop, supply := f c.supply, sync := f c.sync }

/-- R81, R197: an arming ended before its decision: PARKED, the chain open, and the record with the checks as given. -/
def armingEnded (s : State) (result : CheckResult) (event : AbortEvent) (checks : Checks)
    (detail : Option CheckDetail) : State :=
  { s with
    mode := { s.mode with
      mode := .parked, granted := false
      check := { s.mode.check with
        result := result, checks := settledChecks checks, detail := detail, abortEvent := some event
        endedAt := some s.link.part, periods := s.mode.count } }
    pins := { s.pins with estopOutClosed := false, brakeReleased := false } }

/-- R122: the last block of an entry closed before a next block. Its 16-byte header stands at the block's start, and a
word the Store held stands at its address with its remaining bytes 0, both with their check bits; every other byte, and
the check bits of every other word, are as they were. An entry without blocks leaves the memory as it was. -/
def lastBlockClosed (next : Nat) (e : DirEntry) (st u : TakeStore) : Prop :=
  u.heldWord = none ∧ (e.blocks = [] → u.mem = st.mem ∧ u.check = st.check) ∧
  ∀ b, e.blocks.getLast? = some b →
    let header := u16 e.take ++ (u16 (e.blocks.length - 1) ++
      (u16 (e.length - (e.blocks.length - 1) * e.perBlock) ++ (u16 next ++ List.replicate 8 0)))
    let held : Nat × List Byte := match st.heldWord with
      | none => (0, [])
      | some (a, bytes) => (a, bytes ++ List.replicate (8 - bytes.length) 0)
    (∀ k, k < 16 → memRead u.mem (b * 16384 + k) = some (byteAt header k)) ∧
    (∀ k, k < 2 → memRead u.check (b * 2048 + k) =
      some (Config.checkBits (wordOf ((header.drop (8 * k)).take 8)))) ∧
    (∀ a, a < b * 16384 ∨ b * 16384 + 16 ≤ a → memRead u.mem a =
      if held.1 ≤ a ∧ a < held.1 + held.2.length then some (byteAt held.2 (a - held.1)) else memRead st.mem a) ∧
    (∀ w, w < b * 2048 ∨ b * 2048 + 2 ≤ w → memRead u.check w =
      if held.1 / 8 ≤ w ∧ w < held.1 / 8 + held.2.length / 8 then
        some (Config.checkBits (wordOf ((held.2.drop (8 * (w - held.1 / 8))).take 8)))
      else memRead st.check w)

/-- R120, R137: the store once the recording of entry i has ended: the entry COMPLETE, marks never reached removed, its
last block closed, and nothing else changed. -/
def recordingEnded (i : Fin 32) (interrupted : Bool) (st u : TakeStore) : Prop :=
  let e : DirEntry := st.dir[i]
  u = { withEntry st i
      { e with
        state := .complete, interrupted := interrupted, marks := e.marks.filter fun m => decide (m < e.length) } with
    mem := u.mem, check := u.check, heldWord := none } ∧
  lastBlockClosed 0xFFFF e st u

/-- R95, R104: what map_fit says of a found range. -/
def fitOf (active : Option LensMap) (low high : Int) : MapFit :=
  match active with
  | none => .noMap
  | some m => if ∀ p ∈ m.points, low ≤ p.2 ∧ p.2 ≤ high then .yes else .no

/-- R106: a lens channel's state once its calibration, if one runs, has ended FAILED with a reason. -/
def calibrationFailed (reason : CalFailure) (l : LensChannel) : LensChannel :=
  if l.cal = .seekLow ∨ l.cal = .seekHigh then
    { l with
      cal := .failed, failure := some reason, foundMin := none, window := [], phaseFrom := none, apply := none }
  else { l with apply := none }

/-- R177, R181: a service field toward the console carries a tag and its reply, or tag 0, OK and length 0. -/
def carriesReply (r : Option (Byte × Reply)) (field : List Byte) : Prop :=
  (∀ tag reply, r = some (tag, reply) →
    byteAt field 0 = tag ∧ byteAt field 1 = BitVec.ofNat 8 (resultCode reply.result) ∧
    byteAt field 2 = BitVec.ofNat 8 reply.data.length ∧
    ∀ k, k < reply.data.length → byteAt field (3 + k) = byteAt reply.data k) ∧
  (r = none → field.take 3 = [0, 0, 0])

/-- R177: the kind and cycle number of a frame toward the console. -/
def headedFor (offset : Half) (e : InFlight) (f : Frame) : Prop :=
  f.kind = (match e.kind with
    | .cycle => (0x03 : Byte)
    | .subst => 0x02) ∧
  f.cycle = (match e.consoleCycle with
    | some c => c
    | none => e.part.setWidth 16 - offset)

/-- R177: a constructed return for a lost entry. -/
def staleReturn (offset : Half) (e : InFlight) (f : Frame) : Prop :=
  headedFor offset e f ∧ f.flags = 0 ∧ f.timecode = e.timecode ∧ carriesReply e.service f.service ∧
  f.tracking.length = 48 ∧
  ∀ n : Fin 12, (f.slots[n]).value = BitVec.ofInt 32 (e.outputs[n]).value ∧
    (f.slots[n]).flag.extractLsb' 4 4 = 4

/-- R153, R155: the seven tracking fields of a return of an entry, each with its bytes and whether its present bit may
be set, as a state stands. -/
def trackedFields (e : InFlight) (s : State) : List (Bool × List Byte) :=
  let orient (r : Role) : List Byte := i32 ((roleFeedback s.cond.chans r).getD 0)
  let lens (r : Role) : List Byte := i32 (match roleHolder s.cond.chans .lens r with
    | none => 0
    | some n => ((s.lens[n]).feedback).getD 0)
  let index : Nat := if s.take.recording.state = .idle then s.take.play.index else s.take.recording.index
  let activity : Activity := match s.take.recording.state with
    | .recordArmed => .recordArmed
    | .recording => .recording
    | .idle => playActivity s.take.play.state
  [ (true, le32 e.part),
    (true, le32 e.timecode ++ [BitVec.ofNat 8 e.phase, BitVec.ofNat 8 (refSyncCode e.sync)]),
    (match s.geo.head with
      | none => (false, List.replicate 12 0)
      | some p => (true, i32 p.x ++ (i32 p.y ++ i32 p.z))),
    (true, orient .pan ++ (orient .tilt ++ orient .roll)),
    (true, lens .zoom ++ (lens .focus ++ lens .iris)),
    (true, BitVec.ofNat 8 (activityCode activity) :: (u32 index).take 3),
    (true, [BitVec.ofNat 8 (safetyCode s.stop.safety + if 256 ≤ s.zone.scale then 128 else 0),
      BitVec.ofNat 8 (min s.zone.scale 255)]) ]

/-- R154: where the write position stands before field k. -/
def writePlace (embed : BitVec 7) (fields : List (Bool × List Byte)) : Nat → Nat
  | 0 => 1
  | k + 1 =>
    let p := writePlace embed fields k
    let n := (fields.getD k (false, [])).2.length
    if embed.getLsbD k = true ∧ p + n ≤ 48 then p + n else p

/-- R152, R154: a tracking area holds the fields that the embed mask selects and that fit, packed in order, the
present-mask that says which, and 0 in every other byte. -/
def tracks (embed : BitVec 7) (fields : List (Bool × List Byte)) (area : List Byte) : Prop :=
  area.length = 48 ∧ (byteAt area 0).getLsbD 7 = false ∧
  (∀ k, k < 7 →
    let f := fields.getD k (false, [])
    let p := writePlace embed fields k
    let written : Prop := embed.getLsbD k = true ∧ p + f.2.length ≤ 48
    ((byteAt area 0).getLsbD k = true ↔ written ∧ f.1 = true) ∧
    (written → ∀ j, j < f.2.length → byteAt area (p + j) = byteAt f.2 j)) ∧
  ∀ j, writePlace embed fields 7 ≤ j → j < 48 → byteAt area j = 0

/-- R166: a port's receiver once it has taken in a whole frame, good or bad. -/
def frameTaken (good : Bool) (r : Receiver) : Receiver :=
  if r.sync = .symbol then
    if good = true then
      if r.goodRun = 0 then { r with goodRun := 1 } else { r with sync := .framed, goodRun := 2 }
    else { r with goodRun := 0 }
  else r

/-- Steps 1 and 2 of R12 with R14, R17, R19 and R20: a used channel once its flags are cleared, a due pending source is
applied and a Resume's catch has come, the source first (log entry 48). -/
def sourced (x : CondContext) (n : Fin 12) (c : Channel) (l : LensChannel) : Channel :=
  let due : Prop := c.pendingNew = false ∧ l.cal ≠ .seekLow ∧ l.cal ≠ .seekHigh ∧ l.apply = none ∧
    (x.safety = .normal ∨ (c.desc.cls = .lens ∧ (x.safety = .stopping ∨ x.safety = .held)))
  let d : Channel := { c with flags := noFlags }
  let d : Channel := match c.pendingSource with
    | none => d
    | some src =>
      if ¬ due then d
      else if src = c.source then { d with pendingSource := none }
      else
        let e : Channel := { d with pendingSource := none, fallback := false, source := src }
        match src with
        | .live => { e with caughtState := .waiting }
        | .hold => { e with holdValue := c.outPos }
        | _ =>
          let e : Channel :=
            { e with takeHold := if c.desc.cls = .lens then engOf l c.outPos else c.outPos }
          if c.desc.cls = .lens ∧ x.mask.getLsbD n.val = true ∧
              (x.play = .cueing ∨ x.play = .cued ∨ x.play = .running) ∧
              mapDiffers x.mapIds[n] l = true then
            { e with fallback := true, caughtState := .waiting }
          else e
  if x.resumeCatch = true ∧ x.safety = .normal ∧ d.source = .live then { d with caughtState := .waiting } else d

/-- R15: the take hold once a take value has been supplied to a channel. -/
def suppliedWith (v : Option Int) (c : Channel) : Channel :=
  match v with
  | none => c
  | some v =>
    if (c.source = .take ∨ c.source = .takeTrim) ∧ c.fallback = false then { c with takeHold := v } else c

/-- R13: a channel follows a compared value: CAUGHT already, no window, or within it. -/
abbrev caughtBy (c : Channel) (v : Int) : Prop :=
  c.caughtState = .caught ∨ c.desc.catchWindow = 0 ∨ (v - c.outPos).natAbs ≤ c.desc.catchWindow

/-- R13, R15, R18: the target of a MOTION channel in NORMAL. -/
def motionAim (c : Channel) (console : Int) : Channel × Int :=
  match c.source with
  | .live => if caughtBy c console then ({ c with caughtState := .caught }, console) else (c, c.outPos)
  | .take => (c, c.takeHold)
  | .takeTrim => (c, sat32 (c.takeHold + console))
  | .hold => (c, c.holdValue)

/-- R13, R15, R16, R18, R21, R24: the target of a LENS channel through its active map, as LIVE in fallback. -/
def lensAim (safety : Safety) (m : LensMap) (c : Channel) (console : Int) : Channel × Int :=
  let ofEng (c : Channel) (e : Int) : Channel × Int :=
    ({ c with eng := e, flags := { c.flags with lensClamped := (forwardMap m e).2 } }, (forwardMap m e).1)
  let ofCount (t : Int) : Channel × Int := ({ c with eng := (inverseMap m t).1 }, t)
  match (if c.fallback = true then Source.live else c.source) with
  | .live =>
    if caughtBy c (forwardMap m console).1 then ofEng { c with caughtState := .caught } console else ofCount c.outPos
  | .take => ofEng c c.takeHold
  | .takeTrim => ofEng c (if safety = .normal then sat32 (c.takeHold + console) else c.takeHold)
  | .hold => ofCount c.holdValue

/-- R101: the step of a seek toward its limit; at the other effective limit it is clamped as at its own (log entry
50). -/
def seekTo (lo hi : Int) (low : Bool) (limit : Int) (c : Channel) : Channel :=
  let d := limit - c.outPos
  let near : Int := if d.natAbs < c.desc.calibSpeed then d.natAbs else c.desc.calibSpeed
  let wish := if d < 0 then -near else near
  let v := if wish < c.outVel - c.desc.accMax then c.outVel - c.desc.accMax
    else if c.outVel + c.desc.accMax < wish then c.outVel + c.desc.accMax else wish
  let past : Prop := (low = true ∧ c.outPos + v < limit) ∨ (low = false ∧ limit < c.outPos + v)
  let p := if past then limit else c.outPos + v
  let q := if p < lo then lo else if hi < p then hi else p
  { c with
    outPos := q
    outVel := q - c.outPos
    target := limit
    flags := { c.flags with accLimited := decide (v ≠ wish) } }

/-! ### The status contents, item by item (R189, R190)

Beside the tables of the manual, what each of these lays down of the choices of log entries 11, 27, 30, 40, 43 to 46, 55,
56, 61, 62, 64, 68, 71, 74 and 76 is the model's. -/

/-- A value in k bytes, its low byte first, two's complement where it is negative (00_scope.md section 4.6). -/
def coded (k : Nat) (x : Int) : List Byte := (List.range k).map fun j => BitVec.ofInt 8 (x / 256 ^ j)

/-- A flag in one byte. -/
def marked (b : Bool) : List Byte := [if b = true then 1 else 0]

/-- An optional item of k bytes behind its presence byte, 0 throughout where it is absent (R190). -/
def optional (k : Nat) (o : Option (List Byte)) : List Byte :=
  match o with
  | none => List.replicate (k + 1) 0
  | some bytes => 1 :: bytes

/-- A head position (R190). -/
def codedPos (p : Pos) : List Byte := coded 4 p.x ++ (coded 4 p.y ++ coded 4 p.z)

/-- A set of zone ids as a bitmap of 4 bytes (R190). -/
def codedZones (ids : List Nat) : List Byte :=
  (List.range 4).map fun j => BitVec.ofNat 8 (((List.range 8).map fun k => if 8 * j + k ∈ ids then 2 ^ k else 0).sum)

/-- A snapshot (R190). -/
def codedSnapshot (x : Snapshot) : List Byte :=
  (List.finRange 12).flatMap (fun n => coded 4 (x.axes[n]).1 ++ coded 4 (x.axes[n]).2) ++
    (optional 12 (x.head.map codedPos) ++ coded 2 x.scale)

/-- Crane status: selector 0 of R189, then R42 and R60. The head position has no presence byte (log entry 55). -/
def craneLayout (s : State) : List Byte :=
  let g := s.geo
  let z := s.zone
  List.flatten
    [coded 1 (modeCode s.mode.mode), coded 1 s.mode.count, marked s.pins.supplyWarn, coded 1 s.capture.embed.toNat,
      marked g.record.isSome,
      match g.record with
        | none => List.replicate 10 0
        | some r => coded 4 r.height ++ (coded 4 r.base ++ coded 2 r.headDecel),
      marked g.head.isSome,
      match g.head with
        | none => List.replicate 12 0
        | some p => codedPos p,
      coded 4 g.headSpeed, coded 4 g.evaluatedAt.toNat, marked g.saturated,
      coded 1 (bankCode z.activeBank), marked z.swapPending, coded 1 z.bankA.zones.length, coded 1 z.bankB.zones.length,
      coded 2 z.bankA.releaseHold, coded 2 z.bankB.releaseHold,
      coded 4 z.bankA.checksum.toNat, coded 4 z.bankB.checksum.toNat,
      (List.finRange 4).flatMap fun k => marked (z.crew[k]).active ++ coded 2 (z.crew[k]).count,
      codedZones z.activeZones, codedZones z.stopSet, codedZones z.slowZones, coded 2 z.scale,
      optional 5 (z.least.map fun x => coded 4 x.1 ++ coded 1 x.2), coded 1 (passCode z.pass), coded 4 z.passAt.toNat]

/-- Channel status (R6). The items of a LENS channel alone are 0 on any other, without a presence byte (log entry
43). -/
def channelLayout (c : Channel) (l : LensChannel) : List Byte :=
  let d := c.desc
  let lens : Bool := decide (d.cls = .lens)
  List.flatten
    [coded 1 (clsCode d.cls), coded 1 (roleCode d.role), coded 1 (axisKindCode d.kind), coded 4 d.posMin,
      coded 4 d.posMax, coded 4 d.velMax, coded 2 d.accMax, coded 2 d.stopAcc, coded 4 d.followLimit,
      coded 4 d.catchWindow, coded 4 d.cueTolerance, coded 2 d.calibSpeed,
      coded 4 (effMin c l), coded 4 (effMax c l), marked (!(c.present && c.answered)),
      coded 4 c.outPos, coded 4 c.outVel, coded 4 c.target, coded 4 (if lens = true then c.eng else 0),
      coded 1 (sourceCode c.source), optional 1 (c.pendingSource.map fun x => coded 1 (sourceCode x)),
      marked (lens && c.fallback), coded 1 (catchStateCode c.caughtState), marked c.flags.posClamped,
      marked c.flags.velLimited, marked c.flags.accLimited, marked c.flags.limitHit, marked (lens && c.flags.lensClamped),
      coded 4 c.feedback]

/-- Port status (R179): a port's own items. The fault mask is a bit set (log entry 71). -/
def portItems (p : Port) (timer : Nat) : List Byte :=
  let counter (c : Counter) : List Byte := coded 1 c.count ++ marked c.atThreshold
  List.flatten
    [coded 1 (rxSyncCode p.rx.sync), coded 1 p.rx.score, coded 1 p.rx.goodRun, counter p.counters.symbol,
      counter p.counters.crc, counter p.counters.sequence, coded 1 p.threshold,
      [(if p.faultIn.symbol = true then 1 else 0) + (if p.faultIn.crc = true then 2 else 0) +
        (if p.faultIn.sequence = true then 4 else 0)],
      marked p.roll.symbol, marked p.roll.crc, marked p.roll.sequence, marked p.autoClear, coded 2 timer]

/-- Port status (R179). -/
def portLayout (l : Link) : PortId → List Byte
  | .c =>
    List.flatten
      [portItems l.portC l.silenceLimit, marked l.consoleAbsent, optional 2 (l.period.map fun p : Nat => coded 2 p),
        coded 2 l.offset.toNat, optional 2 (l.expected.map fun c => coded 2 c.toNat)]
  | .d =>
    List.flatten
      [portItems l.portD l.returnTimeout, coded 1 l.inFlight.length, coded 1 l.lossCount, marked l.feedbackLost,
        coded 2 l.totalLost, marked l.armingLoss, coded 4 l.part.toNat]

/-- Safety status (R88): lines open, released or deasserted are 1 (log entry 27); then the six conditions of R77. -/
def safetyLayout (s : State) : List Byte :=
  let c := s.stop
  List.flatten
    [coded 1 (safetyCode c.safety), coded 2 c.stopTimer, coded 2 c.stopLimit, marked c.softStop, coded 2 c.autoResumes,
      marked c.stopReqMemory, marked c.gripMemory, marked (!s.pins.estopInClosed), marked (!s.pins.estopOutClosed),
      marked s.pins.brakeReleased, marked (!s.pins.supplyWarn), marked (!s.pins.supplyFail),
      marked (decide (s.zone.stopSet ≠ [])), marked (!c.gripMemory), marked s.link.consoleAbsent,
      marked s.link.feedbackLost, marked (!s.pins.estopInClosed), marked s.pins.supplyFail, marked c.fault.isSome]

/-- Fault record (R85, R86, R88), 140 bytes. -/
def faultLayout (s : State) : List Byte :=
  match s.stop.fault with
  | none => List.replicate 140 0
  | some r =>
    List.flatten
      [coded 1 (causeCode r.cause.name), coded 1 (causeClassCode r.cls), coded 1 (modeCode r.mode),
        coded 1 (safetyCode r.safety), coded 4 r.part.toNat, coded 4 r.timecode.toNat,
        optional 1 (r.cause.channel.map fun n => coded 1 n.val), optional 1 (r.cause.zone.map fun n : Nat => coded 1 n),
        optional 4 (r.cause.value.map fun x => coded 4 x), codedSnapshot r.snapshot, coded 1 r.laterCount,
        optional 5 (r.lastLater.map fun x => coded 1 (causeCode x.1) ++ coded 4 x.2.toNat),
        coded 1 (causeClassCode r.highest)]

/-- A capture condition (R157). -/
def codedCondition (c : Condition) : List Byte :=
  List.flatten
    [coded 1 (captureKindCode c.kind), coded 1 c.channel.val, coded 4 c.value.toNat, coded 1 (directionCode c.direction),
      coded 1 (scopeCode c.scope)]

/-- Capture record status (R161, R163; log entries 27, 61 and 62). -/
def captureLayout (u : CaptureUnit) : List Byte :=
  List.flatten
    [coded 1 (captureStateCode u.state), optional 8 (u.condition.map codedCondition),
      optional 4 (u.previous.map fun x => coded 4 x),
      match u.record with
        | none => List.replicate 136 0
        | some r =>
          List.flatten
            [codedCondition r.condition,
              match r.met with
                | .number x => coded 4 x
                | .cause n k => [BitVec.ofNat 8 (causeCode n), BitVec.ofNat 8 (causeClassCode k), 0, 0],
              coded 4 r.part.toNat, coded 4 r.timecode.toNat, coded 1 (activityCode r.activity), coded 4 r.index,
              codedSnapshot r.snapshot]]

/-- Memory status, index 0 (R112, R125; log entries 56 and 68). -/
def memoryLayout (st : TakeStore) : List Byte :=
  List.flatten
    [coded 1 (memStateCode st.state), coded 2 st.progress, coded 2 st.free.length,
      optional 2 (st.free.head?.map fun b : Nat => coded 2 b), optional 2 (st.free.getLast?.map fun b : Nat => coded 2 b),
      coded 2 st.bad.length,
      coded 1 ((List.finRange 32).filter fun i => decide ((st.dir[i]).state ≠ .empty)).length,
      marked (decide (∃ i : Fin 32, (st.dir[i]).state = .recording)),
      coded 2 st.correctable, coded 2 st.uncorrectable, marked st.reportSingles, marked st.errRecord.isSome,
      match st.errRecord with
        | none => List.replicate 12 0
        | some r =>
          List.flatten
            [coded 4 r.address, [r.syndrome], coded 1 (wordClassCode r.kind), coded 1 (memReaderCode r.reader),
              coded 4 r.part.toNat, marked r.doubleAfterSingle]]

/-- Directory entry (R119, R125; log entry 44). -/
def entryLayout (e : DirEntry) : List Byte :=
  List.flatten
    [coded 2 e.take, coded 1 (entryStateCode e.state), marked e.truncated, marked e.interrupted, marked e.slipped,
      marked e.damaged, coded 2 e.mask.toNat, (List.finRange 12).flatMap fun n => coded 2 (e.mapIds[n] : Nat),
      coded 1 e.cyclesPerFrame, coded 4 e.startTimecode.toNat, coded 4 e.length,
      optional 2 (e.blocks.head?.map fun b : Nat => coded 2 b), coded 2 e.blocks.length, coded 2 e.perBlock,
      coded 1 e.marks.length, (List.range 16).flatMap fun k => coded 4 (e.marks.getD k 0 : Nat)]

/-- Play status (R150; log entries 30, 45 and 46). -/
def playLayout (s : State) : List Byte :=
  let r := s.take.ref
  let g := s.take.recording
  let p := s.take.play
  List.flatten
    [coded 1 (refSyncCode r.sync), coded 1 r.cyclesPerFrame, marked r.required, coded 1 r.phase,
      coded 1 (frameStartCode r.startKind), coded 1 r.goodRun, coded 1 r.distance, coded 2 r.slips,
      coded 1 (recStateCode g.state), coded 1 g.entry.val, coded 2 g.take, coded 2 g.mask.toNat, coded 4 g.index,
      marked g.endRequested, coded 1 (if g.state = .idle then 0 else (s.store.dir[g.entry]).marks.length : Nat),
      coded 1 (playStateCode p.state), coded 2 p.take, coded 2 p.mask.toNat, coded 1 p.cueMark, coded 4 p.cueRecord,
      coded 4 p.index, optional 5 (p.abort.map fun x => coded 4 x.1 ++ coded 1 (abortReasonCode x.2)),
      marked p.mapChanged, coded 1 p.faultRun, coded 2 p.faultTotal, coded 2 p.queue.length, coded 2 p.runSlips,
      coded 1 (triggerCode s.take.trigger), coded 4 s.take.triggerTimecode.toNat, coded 2 s.take.cueScale,
      marked p.lineTrigger]

/-- Self-check status (R198; log entries 10 and 64). -/
def selfCheckLayout (m : ModeController) : List Byte :=
  let r := m.check
  let k := r.checks
  List.flatten
    [coded 1 (checkResultCode r.result),
      [k.channel, k.geometry, k.zones, k.link, k.drives, k.estop, k.supply, k.sync].flatMap fun c =>
        coded 1 (checkMarkCode c),
      optional 2 (r.detail.map fun d =>
        (match d.channel with
          | none => Config.selfCheckNoChannel
          | some n => BitVec.ofNat 8 n.val) :: coded 1 d.item),
      marked r.advisory, optional 1 (r.abortEvent.map fun e => coded 1 (abortEventCode e)), coded 4 r.startedAt.toNat,
      optional 4 (r.endedAt.map fun w => coded 4 w.toNat),
      coded 1 (if r.result = .running then m.count else r.periods : Nat)]

/-- Lens channel status (R108): a map's direction is 0 where its counts rise, 1 where they fall (log entry 27), and the
lens feedback shares its presence byte with its clamped flag (log entry 74). -/
def lensLayout (c : Channel) (l : LensChannel) : List Byte :=
  let point (p : Int × Int) : List Byte := coded 4 p.1 ++ coded 4 p.2
  List.flatten
    [optional 24 (l.active.map fun m => List.flatten
        [coded 2 m.mapId, coded 1 m.points.length,
          marked (match m.points with
            | p :: q :: _ => decide (q.2 ≤ p.2)
            | _ => false),
          coded 4 m.crc.toNat,
          point (m.points.headD (0, 0)), point (m.points.getLastD (0, 0))]),
      optional 7 (l.pending.map fun m => List.flatten [coded 2 m.mapId, coded 1 m.points.length, coded 4 m.crc.toNat]),
      coded 1 (calStateCode l.cal), optional 1 (l.failure.map fun x => coded 1 (calFailureCode x)), coded 2 l.count,
      coded 4 l.seekLow, coded 4 l.seekHigh, optional 4 (l.foundMin.map fun x => coded 4 x),
      optional 13 (l.result.map fun r => List.flatten
        [coded 4 r.foundMin, coded 4 r.foundMax, coded 1 (mapFitCode r.fit), coded 4 r.madeAt.toNat]),
      coded 4 (effMin c l), coded 4 (effMax c l),
      optional 5 (l.feedback.map fun x => coded 4 x ++ marked l.feedbackClamped)]

/-- R192: the codes of the named values: those of its table, and every other set by the place of its values in the list
that gives them (log entry 40). -/
def codesGiven : Prop :=
  [ChClass.unused, .motion, .lens].map clsCode = [0, 1, 2] ∧
  [Role.none, .swing, .lift, .reach, .track, .pan, .tilt, .roll, .aux, .zoom, .focus, .iris, .lensAux].map roleCode =
    List.range 13 ∧
  [AxisKind.rotary, .linear].map axisKindCode = [0, 1] ∧
  [Source.live, .take, .takeTrim, .hold].map sourceCode = [0, 1, 2, 3] ∧
  [PortId.c, .d].map portCode = [0, 1] ∧ [CraneMode.parked, .arming, .live].map modeCode = [0, 1, 2] ∧
  [ErrKind.symbol, .crc, .sequence].map errKindCode = [0, 1, 2] ∧
  [WordClass.clean, .single, .double].map wordClassCode = [0, 1, 2] ∧
  [AbortEvent.park, .stop, .softReset, .followingError, .driveFault, .estopChain, .zoneTableCorrupt].map
    abortEventCode = List.range 7 ∧
  [Result.ok, .accepted, .refusedMode, .refusedBusy, .refusedCondition, .refusedSupply, .badParam, .badChecksum,
    .notFound, .noSpace, .unknownRequest].map resultCode = List.range 11 ∧
  [Safety.normal, .stopping, .held, .dropped].map safetyCode = [0, 1, 2, 3] ∧
  [Catch.waiting, .caught].map catchStateCode = [0, 1] ∧ [CauseClass.c, .i].map causeClassCode = [0, 1] ∧
  [CauseName.zoneStop, .consoleStop, .gripReleased, .consoleSilent, .feedbackLost, .linkFault, .limitHit, .playbackData,
    .supplyFail, .followingError, .driveFault, .estopChain, .stopTimeout, .zoneTableCorrupt].map causeCode =
    List.range 14 ∧
  [CalState.none, .seekLow, .seekHigh, .done, .failed].map calStateCode = List.range 5 ∧
  [CalFailure.timeLimit, .dropped, .parked, .softReset, .noTravel].map calFailureCode = List.range 5 ∧
  [MapFit.yes, .no, .noMap].map mapFitCode = [0, 1, 2] ∧
  [MemState.unformatted, .formatting, .ready].map memStateCode = [0, 1, 2] ∧
  [MemReader.format, .playback].map memReaderCode = [0, 1] ∧
  [EntryState.empty, .recording, .complete].map entryStateCode = [0, 1, 2] ∧
  [RefSync.noRef, .measuring, .locked].map refSyncCode = [0, 1, 2] ∧
  [FrameStart.pulse, .flywheel, .none].map frameStartCode = [0, 1, 2] ∧
  [RecState.idle, .recordArmed, .recording].map recStateCode = [0, 1, 2] ∧
  [PlayState.idle, .cueing, .cued, .running, .ended, .aborted].map playStateCode = List.range 6 ∧
  [AbortReason.request, .stop, .park, .data].map abortReasonCode = [0, 1, 2, 3] ∧
  [TriggerKind.request, .timecode, .line].map triggerCode = [0, 1, 2] ∧
  [CaptureState.idle, .armed, .tripped].map captureStateCode = [0, 1, 2] ∧
  [CaptureKind.outputCrosses, .feedbackCrosses, .takeIndex, .slowEnter, .timecode, .anyStop].map captureKindCode =
    List.range 6 ∧
  [Direction.up, .down, .either].map directionCode = [0, 1, 2] ∧
  [Scope.liveOnly, .playbackOnly, .any].map scopeCode = [0, 1, 2] ∧
  [RxSync.unsync, .symbol, .framed].map rxSyncCode = [0, 1, 2] ∧ [BankId.a, .b].map bankCode = [0, 1] ∧
  [PassResult.pass, .mismatch, .none].map passCode = [0, 1, 2] ∧
  [CheckResult.none, .running, .passed, .failed, .aborted].map checkResultCode = List.range 5 ∧
  [CheckMark.notRun, .pending, .pass, .fail].map checkMarkCode = [0, 1, 2, 3] ∧
  [Activity.idle, .recordArmed, .recording, .cueing, .cued, .running, .ended, .aborted].map activityCode = List.range 8

/-- The reset tables of R28, R43, R63, R89, R109, R126, R151, R164, R180, R191 and R198, value by value. -/
def resetTables (s : State) : Prop :=
  (∀ n : Fin 12,
    let c : Channel := s.cond.chans[n]
    let l : LensChannel := s.lens[n]
    c.desc = { cls := .unused, role := .none, kind := .linear, posMin := 0, posMax := 0, velMax := 0, accMax := 0
               stopAcc := 0, followLimit := 0, catchWindow := 0, cueTolerance := 0, calibSpeed := 0 } ∧
    effMin c l = 0 ∧ effMax c l = 0 ∧ c.outPos = 0 ∧ c.outVel = 0 ∧ c.target = 0 ∧ c.eng = 0 ∧ c.source = .live ∧
    c.pendingSource = none ∧ c.caughtState = .waiting ∧ c.holdValue = 0 ∧ c.takeHold = 0 ∧ c.fallback = false ∧
    c.flags = noFlags ∧ c.feedback = 0 ∧ c.reportedPresent = false ∧
    l.active = none ∧ l.pending = none ∧ l.cal = .none ∧ l.failure = none ∧ l.count = 0 ∧ l.seekLow = 0 ∧
    l.seekHigh = 0 ∧ l.foundMin = none ∧ l.result = none ∧ l.window = [] ∧ l.feedback = none ∧
    l.feedbackClamped = false) ∧
  (let g := s.geo
   g.record = none ∧ g.head = none ∧ g.headSpeed = 0 ∧ g.reference = none ∧ g.evaluatedAt = 0 ∧
   g.saturated = false) ∧
  (let z := s.zone
   (∀ id : BankId, z.bank id = { releaseHold := 0, zones := [], checksum := crc32 [0, 0, 0, 0] }) ∧ z.activeBank = .a ∧
   z.swapPending = false ∧ (∀ k : Fin 4, z.crew[k] = { active := false, count := 0 }) ∧ z.stopMemory = [] ∧
   z.stopSet = [] ∧ z.activeZones = [] ∧ z.slowZones = [] ∧ z.least = none ∧ z.scale = 256 ∧ z.cursor = .header ∧
   z.pass = .none ∧ z.passAt = 0) ∧
  (s.stop.safety = .normal ∧ s.stop.stopTimer = 0 ∧ s.stop.stopLimit = 500 ∧ s.stop.softStop = false ∧
    s.stop.autoResumes = 0 ∧ s.stop.stopReqMemory = false ∧ s.stop.gripMemory = false ∧ s.stop.fault = none ∧
    s.pins.estopOutClosed = false ∧ s.pins.brakeReleased = false) ∧
  (let m := s.store
   m.state = .unformatted ∧ m.progress = 0 ∧ m.free = [] ∧ m.bad = [] ∧
   (∀ i : Fin 32, (m.dir[i]).state = .empty ∧ (m.dir[i]).length = 0 ∧ (m.dir[i]).blocks = []) ∧ m.heldWord = none ∧
   m.correctable = 0 ∧ m.uncorrectable = 0 ∧ m.errRecord = none ∧ m.reportSingles = true) ∧
  (let k := s.take
   k.ref.sync = .noRef ∧ k.ref.cyclesPerFrame = 40 ∧ k.ref.required = true ∧ k.ref.phase = 39 ∧
   k.ref.pulseSeen = false ∧ k.ref.distance = 0 ∧ k.ref.sincePulse = 0 ∧ k.ref.goodRun = 0 ∧
   k.ref.lastStart = .flywheel ∧ k.ref.slips = 0 ∧ k.recording.state = .idle ∧ k.play.state = .idle ∧
   k.play.queue = [] ∧ k.play.faultRun = 0 ∧ k.play.faultTotal = 0 ∧ k.play.runSlips = 0 ∧ k.trigger = .request ∧
   k.triggerTimecode = 0 ∧ k.cueScale = 64 ∧ k.play.lineTrigger = false) ∧
  (s.capture.embed = 0x41 ∧ s.capture.state = .idle ∧ s.capture.condition = none ∧ s.capture.record = none) ∧
  (let k := s.link
   (∀ p : PortId,
      let x := k.port p
      let zero : Counter := { count := 0, atThreshold := false, spent := false }
      x.rx = { sync := .unsync, validRun := 0, score := 0, goodRun := 0 } ∧
      x.counters = { symbol := zero, crc := zero, sequence := zero } ∧ x.threshold = 255 ∧
      x.faultIn = { symbol := true, crc := true, sequence := true } ∧
      x.roll = { symbol := false, crc := false, sequence := false } ∧ x.autoClear = false) ∧
   k.silenceLimit = 10000 ∧ k.returnTimeout = 400 ∧ k.inFlight = [] ∧ k.part = 0 ∧ k.offset = 0 ∧ k.expected = none ∧
   k.period = none ∧ k.lastArrival = none ∧ k.lastGood = none ∧ k.consoleAbsent = false ∧ k.silenceFrom = s.timer ∧
   k.lossCount = 0 ∧ k.feedbackLost = false ∧ k.totalLost = 0 ∧ k.armingLoss = false) ∧
  (s.service.staging = List.replicate 1024 0 ∧ s.service.lastReply = none) ∧
  (let m := s.mode
   m.mode = .parked ∧ m.check.result = .none ∧
   m.check.checks = { channel := .notRun, geometry := .notRun, zones := .notRun, link := .notRun, drives := .notRun
                      estop := .notRun, supply := .notRun, sync := .notRun } ∧
   m.check.detail = none ∧ m.check.abortEvent = none ∧ m.check.endedAt = none)

end Sys2Proof.Claims

open Sys2Proof.Claims

/-! ## The queue and the service unit -/

/-- A step executes the command at the front of the queue on the rest of the state. That an empty queue leaves the part
as it is, is the model's choice (log entry 1). -/
def Obligations.StepRunsFrontCommand : Prop :=
  ∀ s : State,
    (∀ (c : Instr) (rest : List Instr), s.pending = c :: rest → step s = exec c { s with pending := rest }) ∧
    (s.pending = [] → step s = .next s)

/-- No command touches the commands that wait behind it, and none but a pin reset turns the timer back. That a pin reset
too leaves the queue as it is, and that the timer is a count that never wraps, are the model's choices (log entries 2
and 15). -/
def Obligations.QueueKeptTimerRises : Prop :=
  ∀ (i : Instr) (s t : State), exec i s = .next t →
    t.pending = s.pending ∧ ((∀ h, i ≠ .pinReset h) → s.timer ≤ t.timer)

/-- R181, R183, R184: a request leaves its reply, of at most 37 data bytes, under its tag, and the last-reply record
holds its tag, its code and the reply's result; one answered with anything but OK or ACCEPTED has changed nothing
else. -/
def Obligations.RequestLeavesItsReply : Prop :=
  ∀ (i : Instr) (tag code : Byte) (params : List Byte) (s : State),
    i.tag? = some tag → tag ≠ 0 → encodeParams i = some (code, params) →
    ∃ t r, exec i s = .next t ∧ t.service.reply = some (tag, r) ∧ r.data.length ≤ 37 ∧
      t.service.lastReply = some { tag := tag, code := code, result := r.result } ∧
      (r.result ≠ .ok → r.result ≠ .accepted →
        t = { s with service :=
          { s.service with reply := t.service.reply, lastReply := t.service.lastReply } })

/-- R181, R183: a request with tag 0 executes nothing; in ARMING every request of correct form but the six is refused
REFUSED_BUSY. Neither changes anything else. -/
def Obligations.ArmingRefusesRequests : Prop :=
  ∀ (i : Instr) (s : State),
    (i.tag? = some 0 → exec i s = .next s) ∧
    ∀ (tag code : Byte) (params : List Byte),
      s.mode.mode = .arming → i.tag? = some tag → tag ≠ 0 → encodeParams i = some (code, params) →
      stageOk i = true → code ∉ ([0x01, 0x02, 0x20, 0x21, 0x22, 0x7F] : List Byte) →
      exec i s = replied tag code .refusedBusy s

/-- R181, R183, section 10.4: the service field of every request a sender may form is 40 bytes long, and the part reads
from it that request with every operand. -/
def Obligations.ServiceFieldRoundTrip : Prop :=
  ∀ (i : Instr) (field : List Byte), i.wellFormed = true → encodeService i = some field →
    field.length = 40 ∧ decodeService field = .command i

/-- R181 to R183: a field with tag 0 carries nothing; a length above 37, then an unknown code, then a length that is
not the code's or a STAGE_WRITE of more than 32 bytes, are answered BAD_PARAM, UNKNOWN_REQUEST and BAD_PARAM in that
order, and nothing else changes; a field that spells a request has the effect of that command. R188, R189: a
READ_STATUS whose selector is none of the twelve is BAD_PARAM in every mode, a COMMIT whose target is none of the three
is BAD_PARAM outside ARMING and REFUSED_BUSY in it. -/
def Obligations.FieldsServed : Prop :=
  ∀ (f : List Byte) (s : State),
    let tag := byteAt f 0
    let code := byteAt f 1
    (tag = 0 → serve f s = s) ∧
    (tag ≠ 0 → 37 < (byteAt f 2).toNat → .next (serve f s) = replied tag code .badParam s) ∧
    (tag ≠ 0 → (byteAt f 2).toNat ≤ 37 →
      (knownCode code.toNat = false → .next (serve f s) = replied tag code .unknownRequest s) ∧
      (knownCode code.toNat = true →
        (byteAt f 2).toNat ≠ paramLength code.toNat (byteAt f 5).toNat ∨ (code = 0x18 ∧ 32 < (byteAt f 5).toNat) →
        .next (serve f s) = replied tag code .badParam s)) ∧
    (tag ≠ 0 → code = 0x02 → byteAt f 2 = 3 → 12 ≤ (byteAt f 3).toNat →
      .next (serve f s) = replied tag 0x02 .badParam s) ∧
    (tag ≠ 0 → code = 0x19 → byteAt f 2 = 8 → 3 ≤ (byteAt f 3).toNat →
      .next (serve f s) = replied tag 0x19 (if s.mode.mode = .arming then .refusedBusy else .badParam) s) ∧
    ∀ (i : Instr) (t : State), decodeService f = .command i → exec i s = .next t → serve f s = t

/-- R186: IDENTIFY's ten bytes, in every mode, with nothing changed but the reply and the last-reply record. -/
def Obligations.IdentifyReplies : Prop :=
  ∀ (tag : Byte) (s : State), tag ≠ 0 →
    exec (.identify tag) s = .next (answer tag 0x01
      { result := .ok
        data := [0x12, 0x0C, Config.hardwareRevision, 12, 0x00, 0x04, s.link.part.extractLsb' 0 8,
          s.link.part.extractLsb' 8 8, s.link.part.extractLsb' 16 8, s.link.part.extractLsb' 24 8] } s)

/-- R189, R190: READ_STATUS changes nothing and replies with the page of the content its selector and index name: the
page count, the page number and up to 35 bytes of the content from byte 35 × page on; or with BAD_PARAM where the index
is outside the selector's range or the page at or beyond the count. The last-reply record of R184 is taken as an
optional item, a presence byte and its three bytes, 0 where it is NONE (log entry 76). R190, R192: every content is the
items of its table in order, each in its coding, and but for the bad set has a length that the state does not change.
The model's choices are that a content without bytes has one page (log entry 27) and the codings of log entries 10, 11,
27, 30, 32, 40, 43 to 46, 55, 56, 61, 62, 64, 68, 71, 74 and 76. -/
def Obligations.StatusRepliesItsPage : Prop :=
  (∀ (tag index page : Byte) (s : State), tag ≠ 0 →
    let paged (content : List Byte) : Reply :=
      let count := if content.length = 0 then 1 else (content.length + 34) / 35
      if page.toNat < count then
        { result := .ok, data := BitVec.ofNat 8 count :: page :: (content.drop (35 * page.toNat)).take 35 }
      else { result := .badParam, data := [] }
    (∀ c ∈ [(Instr.readStatusCrane tag index page, craneContent s),
        (Instr.readStatusSafety tag index page, safetyContent s),
        (Instr.readStatusFaultRecord tag index page, faultContent s),
        (Instr.readStatusCaptureRecord tag index page, captureContent s.capture),
        (Instr.readStatusPlayStatus tag index page, playContent s),
        (Instr.readStatusSelfCheck tag index page, selfCheckContent s.mode),
        (Instr.readStatusLastReply tag index page, lastReplyContent s.service)],
      exec c.1 s = .next (answer tag 0x02
        (if index = 0 then paged c.2 else { result := .badParam, data := [] }) s)) ∧
    (∀ n : Fin 12, index.toNat = n.val →
      exec (.readStatusChannel tag index page) s =
        .next (answer tag 0x02 (paged (channelContent (s.cond.chans[n]) (s.lens[n]))) s) ∧
      exec (.readStatusLensChannel tag index page) s =
        .next (answer tag 0x02 (paged (lensContent (s.cond.chans[n]) (s.lens[n]))) s)) ∧
    (12 ≤ index.toNat →
      exec (.readStatusChannel tag index page) s = replied tag 0x02 .badParam s ∧
      exec (.readStatusLensChannel tag index page) s = replied tag 0x02 .badParam s) ∧
    exec (.readStatusPort tag index page) s = .next (answer tag 0x02
      (if index = 0 then paged (portContent s.link .c)
        else if index = 1 then paged (portContent s.link .d)
        else { result := .badParam, data := [] }) s) ∧
    exec (.readStatusMemory tag index page) s = .next (answer tag 0x02
      (if index = 0 then paged (memoryContent s.store)
        else if index.toNat ≤ 241 then paged (badSetContent s.store index.toNat)
        else { result := .badParam, data := [] }) s) ∧
    (∀ n : Fin 32, index.toNat = n.val →
      exec (.readStatusDirectoryEntry tag index page) s =
        .next (answer tag 0x02 (paged (entryContent (s.store.dir[n]))) s)) ∧
    (32 ≤ index.toNat → exec (.readStatusDirectoryEntry tag index page) s = replied tag 0x02 .badParam s)) ∧
  (∀ u : ServiceUnit, lastReplyContent u =
    match u.lastReply with
    | none => [0, 0, 0, 0]
    | some r => [1, r.tag, r.code, BitVec.ofNat 8 (resultCode r.result)]) ∧
  codesGiven ∧
  (∀ s : State, craneContent s = craneLayout s ∧ safetyContent s = safetyLayout s ∧ faultContent s = faultLayout s ∧
    captureContent s.capture = captureLayout s.capture ∧ memoryContent s.store = memoryLayout s.store ∧
    playContent s = playLayout s ∧ selfCheckContent s.mode = selfCheckLayout s.mode ∧
    (∀ p, portContent s.link p = portLayout s.link p) ∧
    (∀ i : Fin 32, entryContent (s.store.dir[i]) = entryLayout (s.store.dir[i])) ∧
    (∀ n : Fin 12, channelContent (s.cond.chans[n]) (s.lens[n]) = channelLayout (s.cond.chans[n]) (s.lens[n]) ∧
      lensContent (s.cond.chans[n]) (s.lens[n]) = lensLayout (s.cond.chans[n]) (s.lens[n])) ∧
    (∀ n, 1 ≤ n → badSetContent s.store n =
      ((s.store.bad.drop (17 * (n - 1))).take 17).flatMap fun b => coded 2 b)) ∧
  (∀ s t : State, (craneContent s).length = (craneContent t).length ∧
    (safetyContent s).length = (safetyContent t).length ∧ (faultContent s).length = 140 ∧
    (captureContent s.capture).length = (captureContent t.capture).length ∧
    (memoryContent s.store).length = (memoryContent t.store).length ∧ (playContent s).length = (playContent t).length ∧
    (selfCheckContent s.mode).length = (selfCheckContent t.mode).length ∧
    (∀ p, (portContent s.link p).length = (portContent t.link p).length) ∧
    (∀ i j : Fin 32, (entryContent (s.store.dir[i])).length = (entryContent (t.store.dir[j])).length) ∧
    ∀ m n : Fin 12,
      (channelContent (s.cond.chans[m]) (s.lens[m])).length = (channelContent (t.cond.chans[n]) (t.lens[n])).length ∧
      (lensContent (s.cond.chans[m]) (s.lens[m])).length = (lensContent (t.cond.chans[n]) (t.lens[n])).length)

/-! ## Channels and conditioning -/

/-- R3, R4: SET_CHANNEL in each mode; in PARKED the first nine checks as one condition, and what an accepted one
writes. That it keeps a map-mismatch fallback that is on (log entry 47) and the lens feedback with its clamped flag
(log entry 52) is the model's choice. -/
def Obligations.SetChannelTaken : Prop :=
  ∀ (tag channel cls role kind : Byte) (f : ChannelFields) (s : State), tag ≠ 0 →
    let run := exec (.setChannel tag channel cls role kind f.posMin f.posMax f.velMax f.accMax f.stopAcc f.followLimit
      f.catchWindow f.cueTolerance f.calibSpeed) s
    (s.mode.mode = .arming → run = replied tag 0x10 .refusedBusy s) ∧
    (s.mode.mode = .live → run = replied tag 0x10 .refusedMode s) ∧
    (s.mode.mode = .parked → 12 ≤ channel.toNat → run = replied tag 0x10 .badParam s) ∧
    (s.mode.mode = .parked → ∀ n : Fin 12, channel.toNat = n.val →
      (¬ descriptorFits s n cls role kind f → run = replied tag 0x10 .badParam s) ∧
      (descriptorFits s n cls role kind f → ∀ c r, clsOf? cls = some c → roleOf? role = some r →
        let old : Channel := s.cond.chans[n]
        let d : Descriptor :=
          if c = .unused then resetDescriptor
          else
            { cls := c, role := r
              kind := if c = .motion ∧ kind = 0 then .rotary else .linear
              posMin := f.posMin.toInt, posMax := f.posMax.toInt, velMax := f.velMax.toNat, accMax := f.accMax.toNat
              stopAcc := f.stopAcc.toNat, followLimit := f.followLimit.toNat, catchWindow := f.catchWindow.toNat
              cueTolerance := f.cueTolerance.toNat
              calibSpeed := if c = .lens then min f.calibSpeed.toNat f.velMax.toNat else 0 }
        let t := withChannel s n
          { old with
            desc := d, flags := noFlags, caughtState := .waiting, pendingSource := none, pendingNew := false
            outPos := if c = .unused then 0 else old.outPos
            outVel := if c = .unused then 0 else old.outVel }
        run = replied tag 0x10 .ok
          (if old.desc.cls = .lens ∨ c = .lens then
            withLens t n
              { resetLens with
                active := (s.lens[n]).active, pending := (s.lens[n]).pending
                feedback := (s.lens[n]).feedback, feedbackClamped := (s.lens[n]).feedbackClamped }
          else t)))

/-- R19: SET_SOURCE by mode, by its parameters, and what it stores for each used channel of its mask. -/
def Obligations.SetSourceTaken : Prop :=
  ∀ (tag : Byte) (mask : Half) (source : Byte) (s : State), tag ≠ 0 →
    let run := exec (.setSource tag mask source) s
    (s.mode.mode = .arming → run = replied tag 0x11 .refusedBusy s) ∧
    (s.mode.mode = .parked ∨ (s.mode.mode = .live ∧ s.stop.safety = .dropped) →
      run = replied tag 0x11 .refusedMode s) ∧
    (s.mode.mode = .live → s.stop.safety ≠ .dropped →
      (3 < source.toNat ∨ 4096 ≤ mask.toNat → run = replied tag 0x11 .badParam s) ∧
      (mask.toNat < 4096 → ∀ src, sourceOf? source = some src →
        ∃ chans : Vector Channel 12,
          run = replied tag 0x11 .ok { s with cond := { s.cond with chans := chans } } ∧
          ∀ n : Fin 12,
            let old : Channel := s.cond.chans[n]
            chans[n] =
              if mask.getLsbD n.val = true ∧ old.desc.cls ≠ .unused ∧
                  (match old.pendingSource with
                    | none => old.source
                    | some p => p) ≠ src then
                { old with pendingSource := some src, pendingNew := true }
              else old))

/-- R22, R23, R24: a limiter step from inside the effective limits, step by step: the clamped target, the ceiling of the
speed scale, the braking velocity, the velocity within acc_max of the one before, the clamp at the limits, and the
flags; it ends inside the limits, at a velocity of at most vel_max where it began with one. A ramp step brings the
velocity toward 0 by stop_acc, or to 0, keeping its sign, and is clamped at the limits, LIMIT_HIT set exactly where
it was; that it keeps the target item of an earlier frame is the model's choice (log entry 73). -/
def Obligations.OutputsStayInside : Prop :=
  ∀ (lo hi : Int) (scale : Nat) (t : Int) (c : Channel), lo ≤ c.outPos → c.outPos ≤ hi →
    let d := (limiter lo hi scale t c).1
    let e := (ramp lo hi c).1
    let aim := if t < lo then lo else if hi < t then hi else t
    let far := (aim - c.outPos).natAbs
    (∃ root : Nat, root * root ≤ 2 * c.desc.accMax * far ∧ 2 * c.desc.accMax * far < (root + 1) * (root + 1) ∧
      let cap := min (c.desc.velMax * scale / 256) root
      let wish : Int := if aim < c.outPos then -((min far cap : Nat) : Int) else (min far cap : Nat)
      let v : Int := if wish < c.outVel - c.desc.accMax then c.outVel - c.desc.accMax
        else if c.outVel + c.desc.accMax < wish then c.outVel + c.desc.accMax else wish
      let p := c.outPos + v
      d = { c with
        outPos := if p < lo then lo else if hi < p then hi else p
        outVel := if p < lo then lo - c.outPos else if hi < p then hi - c.outPos else v
        target := t
        flags := { c.flags with
          posClamped := decide (aim ≠ t), velLimited := decide (cap < far), accLimited := decide (v ≠ wish)
          limitHit := decide (p < lo ∨ hi < p) } }) ∧
    (scale ≤ 256 → c.outVel.natAbs ≤ c.desc.velMax → d.outVel.natAbs ≤ c.desc.velMax) ∧
    lo ≤ d.outPos ∧ d.outPos ≤ hi ∧ d.outPos = c.outPos + d.outVel ∧ d.target = t ∧ d.desc = c.desc ∧
    (d.flags.limitHit = true ↔ (limiter lo hi scale t c).2 = true) ∧
    (let slower := c.outVel.natAbs - c.desc.stopAcc
      let v : Int := if c.outVel < 0 then -(slower : Int) else slower
      let p := c.outPos + v
      ramp lo hi c = ({ c with
        outPos := if p < lo then lo else if hi < p then hi else p
        outVel := if p < lo then lo - c.outPos else if hi < p then hi - c.outPos else v
        flags := { c.flags with limitHit := decide (p < lo ∨ hi < p) } }, decide (p < lo ∨ hi < p))) ∧
    lo ≤ e.outPos ∧ e.outPos ≤ hi ∧ e.outPos = c.outPos + e.outVel ∧ e.desc = c.desc ∧
    e.outVel.natAbs ≤ c.outVel.natAbs - c.desc.stopAcc ∧
    ((ramp lo hi c).2 = false → e.outVel.natAbs = c.outVel.natAbs - c.desc.stopAcc)

/-- R12 to R27 with R70, R71, R96, R101, R103 to R105, R134, R138, R144 and R146: what the outbound work of a placed
frame does. First, one channel conditioned, by its class, the mode and the safety state: from an output within the
effective limits, and a found value within them where one waits, the new output is within them (R27). Then the whole
frame: each channel conditioned by what the frame finds in force, the speed scale, the console's values and the take
values by place in the mask (R12, R59); the Resume's catch spent in NORMAL, MAP_CHANGED set where a fallback began
(R14, R16); the OUTPUT_CROSSES and TAKE_INDEX tests at the hand-on (R158, R159); a used channel's output in its slot
behind a flag byte of 0 or 1, with ENABLE exactly where the drives are granted, an UNUSED channel's slot as it came,
its ENABLE clear; the entries as conditioned, due maps swapped in, HELD or the time-out reached, a LIMIT_HIT's stop
begun, the frame's record appended, a cue that has arrived, and a take that has used its last record. A take hold
changes after the conditioning only where a stop aborts a playback. The model's choices and readings in it are the
source before a Resume's catch (log entry 48), the seek clamped at the other effective limit too (log entry 50), the
target item that stays and the engineering value that follows the output where a found value or the time limit's output
is placed (log entry 51), the order of what is
handed on (log entry 22), a LENS channel in fallback that follows the console in STOPPING and HELD (log entry 67), CUED
and HELD from the hand-on on (log entries 69 and 77), the index of the TAKE_INDEX test (log entries 26 and 75), and the
target item and engineering value that stay where no target is chosen (log entry 73). -/
def Obligations.SlotsCarryOutputs : Prop :=
  (∀ (x : CondContext) (part : Word) (n : Fin 12) (console : Int) (v : Option Int) (c : Channel) (l : LensChannel),
    let r := conditionChannel x part n console v c l
    let lo := effMin c l
    let hi := effMax c l
    let d := sourced x n c l
    let taking : Prop := (d.source = .take ∨ d.source = .takeTrim) ∧ x.mask.getLsbD n.val = true ∧ x.play = .cueing
    (c.desc.cls = .unused → r.chan = c ∧ r.lens = l ∧ r.hit = false) ∧
    (r.mapChanged = true ↔ x.mode = .live ∧ x.safety ≠ .dropped ∧ c.desc.cls = .lens ∧ c.pendingNew = false ∧
      l.cal ≠ .seekLow ∧ l.cal ≠ .seekHigh ∧ l.apply = none ∧
      (∃ src, c.pendingSource = some src ∧ src ≠ c.source ∧ (src = .take ∨ src = .takeTrim)) ∧
      x.mask.getLsbD n.val = true ∧ (x.play = .cueing ∨ x.play = .cued ∨ x.play = .running) ∧
      ∀ m, l.active = some m → m.mapId ≠ x.mapIds[n]) ∧
    (c.desc.cls ≠ .unused → lo ≤ c.outPos → c.outPos ≤ hi → (∀ p, l.apply = some p → lo ≤ p ∧ p ≤ hi) →
      lo ≤ r.chan.outPos ∧ r.chan.outPos ≤ hi) ∧
    (c.desc.cls ≠ .unused → x.mode ≠ .live ∨ x.safety = .dropped →
      r.chan = { c with outVel := 0, flags := noFlags } ∧ r.lens = l ∧ r.hit = false) ∧
    (c.desc.cls = .motion → x.mode = .live → r.lens = l ∧
      (x.safety = .normal →
        let a := motionAim (suppliedWith v d) console
        (r.chan, r.hit) = limiter lo hi (if taking then min x.scale x.cueScale else x.scale) a.2 a.1) ∧
      (x.safety = .stopping → (r.chan, r.hit) = ramp lo hi d) ∧
      (x.safety = .held → r.chan = { d with outVel := 0, target := d.outPos } ∧ r.hit = false)) ∧
    (c.desc.cls = .lens → x.mode = .live → x.safety ≠ .dropped →
      (l.cal ≠ .seekLow → l.cal ≠ .seekHigh → l.apply = none → r.lens = l ∧
        (l.active = none → r.chan = { d with outVel := 0, target := d.outPos } ∧ r.hit = false) ∧
        (∀ m, l.active = some m →
          let a := lensAim x.safety m (suppliedWith v d) console
          (r.chan, r.hit) = limiter lo hi 256 a.2 a.1)) ∧
      (∀ p, l.apply = some p →
        let k : LensChannel := { l with apply := none, count := min (l.count + 1) 30001 }
        let e : Channel := { d with outPos := p, outVel := 0, eng := engOf l p }
        r.hit = false ∧
        (l.calibrating = true → r.chan = e ∧ r.lens = { k with phaseFrom := some (l.phaseFrom.getD part) }) ∧
        (l.calibrating = false → r.chan = { e with caughtState := .waiting } ∧ r.lens = k)) ∧
      (l.apply = none → l.calibrating = true → l.count < 30000 →
        let e := seekTo lo hi (decide (l.cal = .seekLow)) (if l.cal = .seekLow then l.seekLow else l.seekHigh) d
        r.hit = false ∧ r.chan = { e with eng := engOf l e.outPos } ∧
        r.lens = { l with count := l.count + 1, phaseFrom := some (l.phaseFrom.getD part) }) ∧
      (l.apply = none → l.calibrating = true → 30000 ≤ l.count →
        let p := if c.feedback < lo then lo else if hi < c.feedback then hi else c.feedback
        r.hit = false ∧ r.chan = { d with outPos := p, outVel := 0, caughtState := .waiting, eng := engOf l p } ∧
        r.lens = { l with
          cal := .failed, failure := some .timeLimit, foundMin := none, window := [], phaseFrom := none
          count := 30001 }))) ∧
  (∀ (o : Outbound) (pl : Placement) (s : State),
    let u := (supply s).1
    let r := conditionAll (supply s).2 u
    let t := finishOutbound o pl s
    let w := appendFrame false pl o.timecode (storeConditioned r u)
    let hit : Prop := ∃ n : Fin 12, (r[n]).hit = true
    let atRest : Prop := ∀ n : Fin 12, (r[n]).chan.desc.cls = .motion → (r[n]).chan.outVel = 0
    let ticked := min (u.stop.stopTimer + 1) 65535
    let driven : Prop :=
      (u.mode.mode = .live ∨ (u.mode.mode = .arming ∧ u.mode.granted = true)) ∧ u.stop.safety ≠ .dropped
    t.mode = s.mode ∧ t.zone = s.zone ∧ t.geo = s.geo ∧ t.service = s.service ∧
    (∀ n : Fin 12,
      let console : Int := match s.link.lastGood with
        | none => 0
        | some g => (g.values[n]).toInt
      let mask := s.take.play.mask
      let place := ((List.finRange 12).filter fun m => decide (m < n) && mask.getLsbD m.val).length
      let value : Option Int := match (supply s).2 with
        | none => none
        | some values => if mask.getLsbD n.val = true then values[place]? else none
      r[n] = conditionChannel
        { mode := s.mode.mode, safety := u.stop.safety, scale := s.zone.scale, resumeCatch := s.cond.resumeCatch
          play := u.take.play.state, mask := mask, mapIds := (u.store.dir[u.take.play.entry]).mapIds
          cueScale := s.take.cueScaleNow }
        s.link.part n console value u.cond.chans[n] u.lens[n]) ∧
    (t.cond.resumeCatch = true ↔
      s.cond.resumeCatch = true ∧ ¬ (u.mode.mode = .live ∧ u.stop.safety = .normal)) ∧
    (t.take.play.mapChanged = true ↔ s.take.play.mapChanged = true ∨ ∃ n : Fin 12, (r[n]).mapChanged = true) ∧
    (∃ cut : Bool, (cut = true → u.stop.safety = .normal ∧ hit) ∧
      let v := appendFrame cut pl o.timecode (storeConditioned r u)
      let play := v.take.play.state
      let entry := u.take.recording.entry
      let appended := decide ((u.store.dir[entry]).length < (v.store.dir[entry]).length)
      let index := takeIndexOf u.take.recording appended v.take.play
      let a := testCrossing .outputCrosses play (fun n => (r[n]).chan.outPos) s.link.part o.timecode v
      ∃ q : CaptureUnit,
        testedFor .takeIndex play (fun c => if index = some c.value.toNat then some (.number c.value.toNat) else none)
          s.link.part o.timecode a q ∧
        (¬ hit → (u.stop.safety = .stopping → t.stop.safety ≠ .dropped) → t.capture = q) ∧
        (q.state ≠ .armed ∨ (∀ c, q.condition = some c → c.kind ≠ .anyStop) → t.capture = q)) ∧
    (∃ f, t.link = { s.link with readyD := s.link.readyD ++ [f] } ∧ f.part = s.link.part ∧
      f.frame.service = o.service ∧ f.frame.flags = o.flags ∧ f.frame.timecode = o.timecode ∧
      f.phase = pl.phase ∧ f.sync = pl.sync ∧ f.service = s.service.reply ∧
      ∀ n : Fin 12,
        let c : Channel := (r[n]).chan
        let slot : Slot := f.frame.slots[n]
        f.calibrated[n] = (r[n]).calibrated ∧
        (c.desc.cls ≠ .unused → slot.value = BitVec.ofInt 32 c.outPos ∧ (slot.flag = 1 ∨ slot.flag = 0) ∧
          (slot.flag = 1 ↔ driven)) ∧
        (c.desc.cls = .unused → slot.value = (o.slots[n]).value ∧ slot.flag.getLsbD 0 = false ∧
          ∀ k, 0 < k → slot.flag.getLsbD k = (o.slots[n]).flag.getLsbD k)) ∧
    (∀ n : Fin 12,
      let c : Channel := (r[n]).chan
      let l : LensChannel := (r[n]).lens
      t.cond.chans[n] = { c with takeHold := (t.cond.chans[n]).takeHold } ∧
      (u.stop.safety ≠ .normal ∨ ¬ hit → t.cond.chans[n] = c) ∧
      (t.stop.safety ≠ .dropped ∨ u.stop.safety = .dropped →
        t.lens[n] = match l.pending with
          | none => l
          | some m =>
            if c.desc.cls = .lens ∧ c.outVel = 0 ∧ l.calibrating = false then
              { l with
                active := some m, pending := none
                result := l.result.map fun x => { x with fit := fitOf (some m) x.foundMin x.foundMax } }
            else l)) ∧
    (u.mode.mode ≠ .live → t.stop = u.stop) ∧
    (u.mode.mode = .live → u.stop.safety = .normal →
      (¬ hit → t.stop = u.stop) ∧ (hit → t.stop.safety = .stopping ∧ t.stop.stopTimer = 0)) ∧
    (u.mode.mode = .live → u.stop.safety = .stopping → t.stop.stopTimer = ticked ∧
      (atRest → t.stop.safety = .held) ∧
      (¬ atRest → u.stop.stopLimit ≤ ticked → t.stop.safety = .dropped) ∧
      (¬ atRest → ticked < u.stop.stopLimit → t.stop.safety = .stopping)) ∧
    (u.take.play.state = .cueing → u.stop.safety ≠ .normal ∨ ¬ hit →
      let arrived : Prop :=
        (∃ q rest, u.take.play.queue = q :: rest ∧ q.index = u.take.play.cueRecord ∧ q.good = true) ∧
        ∀ n : Fin 12,
          let c : Channel := (r[n]).chan
          u.take.play.mask.getLsbD n.val = true → c.source = .take ∨ c.source = .takeTrim → c.fallback = false →
            c.outVel = 0 ∧
            (c.outPos - clamp (effMin c (r[n]).lens) (effMax c (r[n]).lens) c.target).natAbs ≤ c.desc.cueTolerance
      (arrived → t.take.play.state = .cued ∧ t.take.play.lineTrigger = false) ∧
      (¬ arrived → t.take.play.state = .cueing)) ∧
    (u.stop.safety ≠ .normal ∨ ¬ hit →
      t.take.recording = w.take.recording ∧ t.store = { w.store with reading := t.store.reading }) ∧
    (u.stop.safety = .normal → hit → t.take.recording.state = .idle ∧ t.take.play.active = false) ∧
    (u.take.play.state = .running → u.stop.safety ≠ .normal ∨ ¬ hit →
      t.take.play.state =
        if (w.store.dir[u.take.play.entry]).length ≤ u.take.play.index + 1 then .ended else .running))

/-! ## Geometry -/

/-- R36 to R39: an evaluation with a record, a SWING and a LIFT channel places the head by R37, saturated at 32 bits
(R38), with the speed of R39; without them the head is absent, its speed 0 and its reference empty. R32 to R34: the sine
of an angle is found from its quadrant by lookup and interpolation in a table of 257 rising entries, the cosine a
quarter turn on; the entries that the manual prints are as printed, and each entry's square makes with that of its
complement 32,768 squared, as near as the roundings allow. Quotients are rounded to the nearest integer, halves away
from zero. -/
def Obligations.HeadEvaluated : Prop :=
  roundsHalfAway ∧
  (sineTable.length = 257 ∧ (∀ i, i < 256 → sineEntry i < sineEntry (i + 1)) ∧
    [0, 1, 2, 128, 254, 255, 256].map sineEntry = [0, 201, 402, 23170, 32766, 32767, 32768] ∧
    (∀ i, i ≤ 256 →
      (sineEntry i * sineEntry i + sineEntry (256 - i) * sineEntry (256 - i) ≤
          32768 * 32768 + sineEntry i + sineEntry (256 - i) + 2) ∧
      32768 * 32768 ≤
        sineEntry i * sineEntry i + sineEntry (256 - i) * sineEntry (256 - i) + sineEntry i + sineEntry (256 - i) + 2) ∧
    ∀ angle : Int,
      let a := (angle % 1048576).toNat
      let quadrant := a / 262144
      let x := if quadrant = 0 ∨ quadrant = 2 then a % 262144 else 262144 - a % 262144
      let i := x / 1024
      let size := if i = 256 then 32768
        else sineEntry i + ((sineEntry (i + 1) - sineEntry i) * (x % 1024) + 512) / 1024
      sinAngle angle = (if quadrant ≤ 1 then (size : Int) else -(size : Int)) ∧
      cosAngle angle = sinAngle (angle + 262144)) ∧
  ∀ (chans : Vector Channel 12) (part : Word) (g : Geometry),
    let role (r : Role) : Option Int := roleFeedback chans r
    let next := evaluateHead chans part g
    next.record = g.record ∧ next.evaluatedAt = part ∧
    (g.record = none ∨ role .swing = none ∨ role .lift = none →
      next.head = none ∧ next.headSpeed = 0 ∧ next.reference = none ∧ next.saturated = false) ∧
    (∀ gr swing lift, g.record = some gr → role .swing = some swing → role .lift = some lift →
      let arm : Int := gr.base + (role .reach).getD 0
      let radius := roundDiv (arm * cosAngle lift) 32768
      let p : Pos :=
        { x := (role .track).getD 0 + roundDiv (radius * cosAngle swing) 32768
          y := roundDiv (radius * sinAngle swing) 32768
          z := gr.height + roundDiv (arm * sinAngle lift) 32768 }
      let q : Pos := { x := sat32 p.x, y := sat32 p.y, z := sat32 p.z }
      next.head = some q ∧ next.reference = some (q, part) ∧ next.saturated = decide (p ≠ q) ∧
      (g.reference = none → next.headSpeed = 0) ∧
      ∀ b m, g.reference = some (b, m) → part ≠ m →
        let far := max (q.x - b.x).natAbs (max (q.y - b.y).natAbs (q.z - b.z).natAbs)
        let gap := (part - m).toNat
        (far = 0 → next.headSpeed = 0) ∧
        (next.headSpeed < 4294967295 →
          far ≤ next.headSpeed * gap ∧ (0 < far → (next.headSpeed - 1) * gap < far)) ∧
        (next.headSpeed = 4294967295 → 4294967294 * gap < far) ∧ next.headSpeed ≤ 4294967295)

/-! ## Zones -/

/-- R53 to R55: the clearance is the greatest of the three gaps of the table; the stop distance is the guard and the
braking term, rounded up; the band follows from the two, with a speed contribution that lies within 0 to 256. -/
def Obligations.BandsFromClearance : Prop :=
  (∀ (z : ZoneRec) (p : Pos),
    let gap (lo hi x : Int) (g : Int) : Prop :=
      (x < lo * 1000 → g = lo * 1000 - x) ∧ (hi * 1000 < x → g = x - hi * 1000) ∧
      (lo * 1000 ≤ x → x ≤ hi * 1000 → g = 0)
    z.xmin < z.xmax → z.ymin < z.ymax → z.zmin < z.zmax →
    ∃ gx gy gz, gap z.xmin z.xmax p.x gx ∧ gap z.ymin z.ymax p.y gy ∧ gap z.zmin z.zmax p.z gz ∧
      gx ≤ clearance z p ∧ gy ≤ clearance z p ∧ gz ≤ clearance z p ∧
      (clearance z p = gx ∨ clearance z p = gy ∨ clearance z p = gz)) ∧
  (∀ (z : ZoneRec) (c : Int) (speed decel : Nat), 0 < decel →
    let stop := stopAt z speed decel
    let w : Int := z.slowWidth * 1000
    ((z.guardStop * 1000 : Nat) : Int) ≤ stop ∧
    (speed * speed : Nat) ≤ (stop - (z.guardStop * 1000 : Nat)).toNat * (2 * decel) ∧
    (0 < speed → ((stop - (z.guardStop * 1000 : Nat)).toNat - 1) * (2 * decel) < speed * speed) ∧
    (speed = 0 → stop = (z.guardStop * 1000 : Nat)) ∧
    (c ≤ stop → bandOf c stop z.slowWidth = (.stop, 0)) ∧
    (stop < c → c ≤ stop + w →
      (bandOf c stop z.slowWidth).1 = .slow ∧
      ((bandOf c stop z.slowWidth).2 : Int) * w ≤ 256 * (c - stop) ∧
      256 * (c - stop) < ((bandOf c stop z.slowWidth).2 + 1 : Int) * w ∧ (bandOf c stop z.slowWidth).2 ≤ 256) ∧
    (stop + w < c → bandOf c stop z.slowWidth = (.clear, 256)))

/-- R52, R57, R58: the zones that are active, ENABLED ones that are FIXED or whose crew line is ACTIVE, in ascending
id; the speed scale an evaluation forms of them, by the table. With it the stop-band set and memory, and one ZONE_STOP
for each zone that came into its stop band, in ascending id; the slow-band set, and the least clearance with its zone,
the lowest id of those that share it being the model's choice (log entry 49). R61, R62: the verify step reads the
header, then the zones one by one; after the last the pass ends, MATCH where the CRC over what it read is the stored
checksum; a pass over a bank takes its zones and one more step, and ends MATCH where the CRC of the whole bank is the
checksum. -/
def Obligations.SpeedScaleFormed : Prop :=
  (∀ (g : Geometry) (z : ZoneMonitor),
    let active := activeZonesOf z.crew z.activeOne
    let next := formScale g z
    let band (r : ZoneRec) (p : Pos) := bandOf (clearance r p) (stopAt r g.headSpeed (headDecel g)) r.slowWidth
    (∀ id r, (id, r) ∈ active ↔ z.activeOne.zones[id]? = some r ∧ r.enabled = true ∧
      (r.crew = false ∨ ∃ l, z.crew[r.line]? = some l ∧ l.active = true)) ∧
    (active.map Prod.fst).Pairwise (· < ·) ∧
    next.activeZones = active.map Prod.fst ∧ next.stopMemory = next.stopSet ∧
    (active = [] → next.scale = 256) ∧
    (g.head = none → (active ≠ [] → next.scale = 0) ∧ next.stopSet = [] ∧ next.slowZones = [] ∧ next.least = none ∧
      zoneStops g z = []) ∧
    (∀ p, g.head = some p →
      (∀ a ∈ active, next.scale ≤ (band a.2 p).2) ∧ next.scale ≤ 256 ∧
      (next.scale < 256 → ∃ a ∈ active, next.scale = (band a.2 p).2) ∧
      next.stopSet = (active.filter fun a => (band a.2 p).1 == .stop).map Prod.fst ∧
      next.stopSet.Pairwise (· < ·) ∧
      next.slowZones = (active.filter fun a => (band a.2 p).1 == .slow).map Prod.fst ∧
      (next.least = none ↔ active = []) ∧
      (∀ c id, next.least = some (c, id) ↔ ∃ r, (id, r) ∈ active ∧ clearance r p = c ∧
        ∀ a ∈ active, c ≤ clearance a.2 p ∧ (clearance a.2 p = c → id ≤ a.1)) ∧
      zoneStops g z =
        (active.filter fun a => (band a.2 p).1 == .stop && !z.stopMemory.contains a.1).map fun a =>
          { name := .zoneStop, channel := none, zone := some a.1, value := some (clearance a.2 p) })) ∧
  (∀ (part : Word) (z : ZoneMonitor),
    let b := z.activeOne
    let header := u16 b.zones.length ++ u16 b.releaseHold
    let t := verifyStep part z
    let read := match z.cursor with
      | .header => crcOver crcStart header
      | .zone k => crcOver z.running (match b.zones[k]? with
        | none => []
        | some r => zoneBytes r)
    let following := match z.cursor with
      | .header => 0
      | .zone k => k + 1
    (following < b.zones.length → t = { z with running := read, cursor := .zone following }) ∧
    (b.zones.length ≤ following → t = { z with
      running := read, cursor := .header, passAt := part
      pass := if crcFinal read = b.checksum then .pass else .mismatch }) ∧
    (z.cursor = .header →
      let u := Nat.iterate (verifyStep part) (b.zones.length + 1) z
      u.cursor = .header ∧ u.passAt = part ∧
      u.pass = (if crc32 (header ++ b.zones.flatMap zoneBytes) = b.checksum then .pass else .mismatch)))

/-- R51: every row of the crew-line table, for each of the four lines. R49, R57: CREW_LINE_RELEASE where the line's next
deasserted sample is its R-th, R being that of the bank active after a pending exchange: the line is INACTIVE with count
0, and the stop-band memory of the active bank's CREW zones on it is cleared; nothing at any other moment (log entry
17). That the line is then seen deasserted (crewSeen) is the model's choice (log entry 36); nothing else changes. -/
def Obligations.CrewLinesFollow : Prop :=
  (∀ (seen : Vector Bool 4) (z : ZoneMonitor) (k : Fin 4),
    let old : CrewLine := z.crew[k]
    let new : CrewLine := (sampleCrew seen z).crew[k]
    let hold := if z.activeOne.releaseHold = 0 then 1 else z.activeOne.releaseHold
    let up := if old.count < 10000 then old.count + 1 else 10000
    (seen[k] = true → new = { active := true, count := 0 }) ∧
    (seen[k] = false → old.active = false → new = old) ∧
    (seen[k] = false → old.active = true → hold ≤ up → new = { active := false, count := 0 }) ∧
    (seen[k] = false → old.active = true → up < hold → new = { active := true, count := up })) ∧
  (∀ (k : Fin 4) (s : State),
    let z := s.zone
    let l : CrewLine := z.crew[k]
    let bank := z.bank (if z.swapPending = true then z.activeBank.other else z.activeBank)
    let hold := if bank.releaseHold = 0 then 1 else bank.releaseHold
    let due : Prop := l.active = true ∧ hold ≤ min (l.count + 1) 10000
    (¬ due → exec (.crewLineRelease k) s = .next s) ∧
    (due → ∃ memory : List Nat,
      exec (.crewLineRelease k) s = .next
        { s with
          zone := { z with crew := z.crew.set k.val { active := false, count := 0 } k.isLt, stopMemory := memory }
          pins := { s.pins with crewSeen := s.pins.crewSeen.set k.val false k.isLt } } ∧
      ∀ id, id ∈ memory ↔ id ∈ z.stopMemory ∧
        ∀ r, z.activeOne.zones[id]? = some r → ¬ (r.crew = true ∧ r.line = k.val)))

/-! ## Tables -/

/-- R187: STAGE_WRITE copies its bytes to its offset and no other byte changes; past the end nothing is written. That a
byte count of 0 at an offset above 1,024 is refused like any other is the model's reading (log entry 65). -/
def Obligations.StageWriteCopies : Prop :=
  ∀ (tag : Byte) (offset : Half) (bytes : List Byte) (s : State),
    tag ≠ 0 → s.mode.mode ≠ .arming → bytes.length ≤ 32 → s.service.staging.length = 1024 →
    (1024 < offset.toNat + bytes.length → exec (.stageWrite tag offset bytes) s = replied tag 0x18 .badParam s) ∧
    (offset.toNat + bytes.length ≤ 1024 → ∃ staging : List Byte,
      exec (.stageWrite tag offset bytes) s =
        replied tag 0x18 .ok { s with service := { s.service with staging := staging } } ∧
      staging.length = 1024 ∧
      ∀ k, k < 1024 → byteAt staging k =
        if offset.toNat ≤ k ∧ k < offset.toNat + bytes.length then byteAt bytes (k - offset.toNat)
        else byteAt s.service.staging k)

/-- R30: COMMIT of a geometry record by its checks in their order; an accepted one is loaded and the head-speed
reference cleared. -/
def Obligations.CommitGeometryTaken : Prop :=
  ∀ (tag channel : Byte) (length : Half) (crc : Word) (s : State), tag ≠ 0 →
    let run := exec (.commitGeometry tag channel length crc) s
    let bytes := s.service.staging.take 12
    let height := (wordAt bytes 0).toNat
    let base := (wordAt bytes 4).toNat
    let decel := (wordAt bytes 8).toNat
    let reachFits : Prop := ∀ n : Fin 12,
      (s.cond.chans[n]).desc.cls = .motion → (s.cond.chans[n]).desc.role = .reach →
      0 ≤ (base : Int) + (s.cond.chans[n]).desc.posMin
    (∀ m n : Fin 12, (s.cond.chans[m]).desc.role = .reach → (s.cond.chans[n]).desc.role = .reach → m = n) →
    (s.mode.mode = .arming → run = replied tag 0x19 .refusedBusy s) ∧
    (s.mode.mode = .live → run = replied tag 0x19 .refusedMode s) ∧
    (s.mode.mode = .parked →
      (length.toNat ≠ 12 → run = replied tag 0x19 .badParam s) ∧
      (length.toNat = 12 → crc32 bytes ≠ crc → run = replied tag 0x19 .badChecksum s) ∧
      (length.toNat = 12 → crc32 bytes = crc →
        20000000 < height ∨ 20000000 < base ∨ decel = 0 ∨ 1000 < decel ∨ ¬ reachFits →
        run = replied tag 0x19 .badParam s) ∧
      (length.toNat = 12 → crc32 bytes = crc →
        height ≤ 20000000 → base ≤ 20000000 → 1 ≤ decel → decel ≤ 1000 → reachFits →
        run = replied tag 0x19 .ok
          { s with geo :=
              { s.geo with record := some { height := height, base := base, headDecel := decel }, reference := none } }))

/-- R46, R47, section 10.6: a bank written into the staging buffer by the layout, every field in its range, is loaded
whole by its COMMIT into the bank that is not active, and nothing else changes; a COMMIT answered OK has loaded a bank
whose every field lies in the ranges of R45, under the CRC given. R46: its checks in their order on whatever the staging
buffer holds, each with its reply, and the bank that one without failure loads. -/
def Obligations.CommitZoneShadowTaken : Prop :=
  (∀ (tag channel : Byte) (length : Half) (crc : Word) (s : State) (hold : Nat) (zones : List ZoneRec),
    tag ≠ 0 → s.mode.mode ≠ .arming → s.zone.swapPending = false → hold ≤ 10000 → zones.length ≤ 32 →
    (∀ z ∈ zones, z.line ≤ 3 ∧ (z.crew = false → z.line = 0) ∧ -32768 ≤ z.xmin ∧ z.xmin < z.xmax ∧ z.xmax ≤ 32767 ∧
      -32768 ≤ z.ymin ∧ z.ymin < z.ymax ∧ z.ymax ≤ 32767 ∧ -32768 ≤ z.zmin ∧ z.zmin < z.zmax ∧ z.zmax ≤ 32767 ∧
      z.guardStop ≤ 5000 ∧ z.slowWidth ≤ 10000) →
    let image := bankHeader zones.length hold ++ zones.flatMap zoneBytes
    length.toNat = image.length → s.service.staging.take image.length = image →
    (crc32 image ≠ crc → exec (.commitZoneShadow tag channel length crc) s = replied tag 0x19 .badChecksum s) ∧
    (crc32 image = crc →
      let bank : Bank := { releaseHold := hold, zones := zones, checksum := crc }
      exec (.commitZoneShadow tag channel length crc) s = replied tag 0x19 .ok
        { s with zone :=
            if s.zone.activeBank = .a then { s.zone with bankB := bank } else { s.zone with bankA := bank } })) ∧
  (∀ (tag channel : Byte) (length : Half) (crc : Word) (s t : State), tag ≠ 0 →
    exec (.commitZoneShadow tag channel length crc) s = .next t →
    (s.zone.swapPending = true → s.mode.mode ≠ .arming →
      exec (.commitZoneShadow tag channel length crc) s = replied tag 0x19 .refusedBusy s) ∧
    (t.service.reply = some (tag, { result := .ok, data := [] }) →
      crc32 (s.service.staging.take length.toNat) = crc ∧ t.zone.activeBank = s.zone.activeBank ∧
      t.zone.activeOne = s.zone.activeOne ∧
      let b := t.zone.bank s.zone.activeBank.other
      b.checksum = crc ∧ b.releaseHold ≤ 10000 ∧ length.toNat = 4 + 20 * b.zones.length ∧ b.zones.length ≤ 32 ∧
      ∀ z ∈ b.zones, z.line ≤ 3 ∧ (z.crew = false → z.line = 0) ∧ z.xmin < z.xmax ∧ z.ymin < z.ymax ∧
        z.zmin < z.zmax ∧ z.guardStop ≤ 5000 ∧ z.slowWidth ≤ 10000)) ∧
  (∀ (tag channel : Byte) (length : Half) (crc : Word) (s : State), tag ≠ 0 →
    let run := exec (.commitZoneShadow tag channel length crc) s
    let bytes := s.service.staging.take length.toNat
    let count := (halfAt bytes 0).toNat
    let hold := (halfAt bytes 2).toNat
    let enable (k : Nat) : Nat := (byteAt bytes (4 + 20 * k)).toNat
    let kind (k : Nat) : Nat := (byteAt bytes (5 + 20 * k)).toNat
    let signed (k j : Nat) : Int := (halfAt bytes (4 + 20 * k + j)).toInt
    let plain (k j : Nat) : Nat := (halfAt bytes (4 + 20 * k + j)).toNat
    let fits : Prop := count ≤ 32 ∧ length.toNat = 4 + 20 * count ∧ hold ≤ 10000 ∧
      ∀ k, k < count → enable k ≤ 1 ∧ kind k ≤ 1 ∧ (kind k = 1 → plain k 2 ≤ 3) ∧ signed k 4 < signed k 6 ∧
        signed k 8 < signed k 10 ∧ signed k 12 < signed k 14 ∧ plain k 16 ≤ 5000 ∧ plain k 18 ≤ 10000
    let zone (k : Nat) : ZoneRec :=
      { enabled := decide (enable k = 1), crew := decide (kind k = 1), line := if kind k = 1 then plain k 2 else 0
        xmin := signed k 4, xmax := signed k 6, ymin := signed k 8, ymax := signed k 10, zmin := signed k 12
        zmax := signed k 14, guardStop := plain k 16, slowWidth := plain k 18 }
    let bank : Bank := { releaseHold := hold, zones := (List.range count).map zone, checksum := crc }
    (s.mode.mode = .arming ∨ s.zone.swapPending = true → run = replied tag 0x19 .refusedBusy s) ∧
    (s.mode.mode ≠ .arming → s.zone.swapPending = false →
      (length.toNat < 4 ∨ 1024 < length.toNat → run = replied tag 0x19 .badParam s) ∧
      (4 ≤ length.toNat → length.toNat ≤ 1024 →
        (crc32 bytes ≠ crc → run = replied tag 0x19 .badChecksum s) ∧
        (crc32 bytes = crc → ¬ fits → run = replied tag 0x19 .badParam s) ∧
        (crc32 bytes = crc → fits → run = replied tag 0x19 .ok
          { s with zone :=
              if s.zone.activeBank = .a then { s.zone with bankB := bank } else { s.zone with bankA := bank } }))))

/-- R92: a map written into the staging buffer by the layout, rising in its engineering values and strictly rising or
falling in its counts, becomes the LENS channel's pending map, and nothing else changes. R91: its checks in their order
on whatever the staging buffer holds, each with its reply. -/
def Obligations.CommitLensMapLoads : Prop :=
  (∀ (tag channel : Byte) (length : Half) (crc : Word) (s : State) (n : Fin 12) (id : Nat) (points : List (Int × Int)),
    tag ≠ 0 → s.mode.mode ≠ .arming → channel.toNat = n.val → (s.cond.chans[n]).desc.cls = .lens →
    1 ≤ id → id ≤ 65535 → 2 ≤ points.length → points.length ≤ 64 →
    (∀ p ∈ points, int32Min ≤ p.1 ∧ p.1 ≤ int32Max ∧ int32Min ≤ p.2 ∧ p.2 ≤ int32Max) →
    (points.map Prod.fst).Pairwise (· < ·) →
    (points.map Prod.snd).Pairwise (· < ·) ∨ (points.map Prod.snd).Pairwise (· > ·) →
    let image := u16 id ++ (u16 points.length ++ points.flatMap fun p => i32 p.1 ++ i32 p.2)
    length.toNat = image.length → s.service.staging.take image.length = image →
    (crc32 image ≠ crc → exec (.commitLensMap tag channel length crc) s = replied tag 0x19 .badChecksum s) ∧
    (crc32 image = crc →
      exec (.commitLensMap tag channel length crc) s = replied tag 0x19 .ok
        (withLens s n { s.lens[n] with pending := some { mapId := id, points := points, crc := crc } }))) ∧
  (∀ (tag channel : Byte) (length : Half) (crc : Word) (s : State), tag ≠ 0 →
    let run := exec (.commitLensMap tag channel length crc) s
    let bytes := s.service.staging.take length.toNat
    let id := (halfAt bytes 0).toNat
    let count := (halfAt bytes 2).toNat
    let point (j : Nat) : Int × Int := ((wordAt bytes (4 + 8 * j)).toInt, (wordAt bytes (8 + 8 * j)).toInt)
    let formed : Prop := 2 ≤ count ∧ count ≤ 64 ∧ length.toNat = 4 + 8 * count ∧ id ≠ 0 ∧
      (∀ j, j + 1 < count → (point j).1 < (point (j + 1)).1) ∧
      ((∀ j, j + 1 < count → (point j).2 < (point (j + 1)).2) ∨ (∀ j, j + 1 < count → (point (j + 1)).2 < (point j).2))
    (s.mode.mode = .arming → run = replied tag 0x19 .refusedBusy s) ∧
    (s.mode.mode ≠ .arming →
      (12 ≤ channel.toNat → run = replied tag 0x19 .badParam s) ∧
      ∀ n : Fin 12, channel.toNat = n.val →
        ((s.cond.chans[n]).desc.cls ≠ .lens → run = replied tag 0x19 .badParam s) ∧
        ((s.cond.chans[n]).desc.cls = .lens →
          (length.toNat < 4 ∨ 1024 < length.toNat → run = replied tag 0x19 .badParam s) ∧
          (4 ≤ length.toNat → length.toNat ≤ 1024 →
            (crc32 bytes ≠ crc → run = replied tag 0x19 .badChecksum s) ∧
            (crc32 bytes = crc → ¬ formed → run = replied tag 0x19 .badParam s) ∧
            (crc32 bytes = crc → formed → run = replied tag 0x19 .ok
              (withLens s n
                { s.lens[n] with
                  pending := some { mapId := id, points := (List.range count).map point, crc := crc } }))))))

/-- R93, R94: mapping through a map of strictly rising engineering values and strictly monotonic counts gives a count
between its first and last counts, and the inverse an engineering value between its first and last; outside them the
mapping is clamped to the end it lies beyond; inside a segment it is the rounded proportion, halves away from zero;
every point maps to its own count and back. -/
def Obligations.LensMappingStaysInside : Prop :=
  roundsHalfAway ∧
  ∀ (m : LensMap) (first last : Int × Int),
    m.points.head? = some first → m.points.getLast? = some last → 2 ≤ m.points.length →
    (m.points.map Prod.fst).Pairwise (· < ·) →
    (m.points.map Prod.snd).Pairwise (· < ·) ∨ (m.points.map Prod.snd).Pairwise (· > ·) →
    (∀ e : Int,
      betweenCounts first.2 last.2 (forwardMap m e).1 = true ∧
      ((forwardMap m e).2 = true ↔ e < first.1 ∨ last.1 < e) ∧
      (e < first.1 → (forwardMap m e).1 = first.2) ∧ (last.1 < e → (forwardMap m e).1 = last.2)) ∧
    (∀ k : Int,
      first.1 ≤ (inverseMap m k).1 ∧ (inverseMap m k).1 ≤ last.1 ∧
      ((inverseMap m k).2 = false ↔ betweenCounts first.2 last.2 k = true)) ∧
    (∀ a p q b, m.points = a ++ p :: q :: b →
      (∀ e : Int, p.1 ≤ e → e ≤ q.1 →
        forwardMap m e = (p.2 + roundDiv ((e - p.1) * (q.2 - p.2)) (q.1 - p.1), false)) ∧
      (∀ k : Int, betweenCounts p.2 q.2 k = true →
        inverseMap m k = (p.1 + roundDiv ((k - p.2) * (q.1 - p.1)) (q.2 - p.2), false))) ∧
    (∀ k : Int, (first.2 < last.2 → k < first.2) → (last.2 < first.2 → first.2 < k) → inverseMap m k = (first.1, true)) ∧
    (∀ k : Int, (first.2 < last.2 → last.2 < k) → (last.2 < first.2 → k < last.2) → inverseMap m k = (last.1, true)) ∧
    ∀ p ∈ m.points, forwardMap m p.1 = (p.2, false) ∧ inverseMap m p.2 = (p.1, false)

/-- R48, R72, R114, R131, R141, R156, R162: the settings and releases that no condition but the mode governs, each with
its clamping, outside ARMING. R178: CLEAR_COUNTERS clears exactly the named counters of its port. -/
def Obligations.SettingsWritten : Prop :=
  (∀ (tag : Byte) (s : State), served tag s →
    exec (.zoneSwap tag) s = replied tag 0x1A .ok { s with zone := { s.zone with swapPending := true } } ∧
    (∀ limit : Half, exec (.setStop tag limit) s = replied tag 0x25 .ok
      { s with stop := { s.stop with
          stopLimit := if limit.toNat < 10 then 10 else if 5000 < limit.toNat then 5000 else limit.toNat } }) ∧
    exec (.releaseMemoryError tag) s = replied tag 0x3A .ok { s with store := { s.store with errRecord := none } } ∧
    (∀ on : Byte, exec (.setMemory tag on) s =
      if on = 0 then replied tag 0x3B .ok { s with store := { s.store with reportSingles := false } }
      else if on = 1 then replied tag 0x3B .ok { s with store := { s.store with reportSingles := true } }
      else replied tag 0x3B .badParam s) ∧
    (∀ mask : Byte, exec (.setEmbed tag mask) s = replied tag 0x44 .ok
      { s with capture := { s.capture with embed := mask.setWidth 7 } }) ∧
    exec (.releaseCapture tag) s = replied tag 0x49 .ok
      { s with capture := { s.capture with state := .idle, condition := none, previous := none, record := none } } ∧
    (∀ (kind : Byte) (timecode : Word) (scale : Half),
      (3 ≤ kind.toNat → exec (.setTrigger tag kind timecode scale) s = replied tag 0x35 .badParam s) ∧
      (∀ k, triggerOf? kind = some k →
        exec (.setTrigger tag kind timecode scale) s = replied tag 0x35 .ok
          { s with take := { s.take with
              trigger := k, triggerTimecode := timecode
              cueScale := if scale = 0 then 1 else if 256 < scale.toNat then 256 else scale.toNat
              play := if k = s.take.trigger then s.take.play else { s.take.play with lineTrigger := false } } })) ∧
    (∀ cycles required : Byte,
      (s.mode.mode = .live → exec (.setSync tag cycles required) s = replied tag 0x2A .refusedMode s) ∧
      (s.mode.mode = .parked → 2 ≤ required.toNat →
        exec (.setSync tag cycles required) s = replied tag 0x2A .badParam s) ∧
      (s.mode.mode = .parked → required.toNat < 2 →
        let n := if cycles.toNat < 10 then 10 else if 80 < cycles.toNat then 80 else cycles.toNat
        let r := { s.take.ref with required := decide (required = 1) }
        exec (.setSync tag cycles required) s = replied tag 0x2A .ok
          { s with take := { s.take with
              ref :=
                if n = s.take.ref.cyclesPerFrame then r
                else { r with
                  cyclesPerFrame := n, goodRun := 0
                  sync := if r.sync = .locked then .measuring else r.sync } } }))) ∧
  (∀ (tag port kinds : Byte) (s : State), served tag s →
    let clear (c : PerKind Counter) : PerKind Counter :=
      { symbol := if kinds.getLsbD 0 then { count := 0, atThreshold := false, spent := false } else c.symbol
        crc := if kinds.getLsbD 1 then { count := 0, atThreshold := false, spent := false } else c.crc
        sequence := if kinds.getLsbD 2 then { count := 0, atThreshold := false, spent := false } else c.sequence }
    (2 ≤ port.toNat → exec (.clearCounters tag port kinds) s = replied tag 0x29 .badParam s) ∧
    (port = 0 → exec (.clearCounters tag port kinds) s = replied tag 0x29 .ok
      { s with link :=
          { s.link with portC := { s.link.portC with counters := clear s.link.portC.counters } } }) ∧
    (port = 1 → exec (.clearCounters tag port kinds) s = replied tag 0x29 .ok
      { s with link :=
          { s.link with portD := { s.link.portD with counters := clear s.link.portD.counters } } }))

/-! ## Crane modes -/

/-- R194: ARM in LIVE and in ARMING; in PARKED, what it does where the channel check finds nothing, and where it finds
an item; and the check finds nothing exactly where some channel is used and no used channel fails items 2 to 4, else the
first item of the list that a used channel fails, with the lowest channel that fails it. That the record of a check that
failed at once has no end part and a period count of 0 is read from the spec by inference (log entry 33); that item 1 is
reported with no channel is the model's choice (log entry 10). -/
def Obligations.ArmTaken : Prop :=
  (∀ (tag : Byte) (s : State), tag ≠ 0 →
    (s.mode.mode ≠ .parked → exec (.arm tag) s = replied tag 0x20 .ok s) ∧
    (s.mode.mode = .parked → ∀ d, channelCheck s = some d →
      exec (.arm tag) s = replied tag 0x20 .accepted
        { s with mode := { s.mode with check :=
            { result := .failed, checks := { notRunChecks with channel := .fail }, detail := some d, advisory := false
              abortEvent := none, startedAt := s.link.part, endedAt := none, periods := 0 } } }) ∧
    (s.mode.mode = .parked → channelCheck s = none →
      exec (.arm tag) s = replied tag 0x20 .accepted
        { s with
          mode :=
            { mode := .arming, count := 1, granted := true, verified := false
              check :=
                { result := .running
                  checks :=
                    { channel := .pass, geometry := .pending, zones := .pending, link := .pending, drives := .pending
                      estop := .pending, supply := .pending, sync := .pending }
                  detail := none, advisory := false, abortEvent := none, startedAt := s.link.part, endedAt := none
                  periods := 0 } }
          link := { s.link with armingLoss := false }
          pins := { s.pins with estopOutClosed := true, brakeReleased := true }
          cond := { s.cond with chans := s.cond.chans.map fun c =>
            if c.desc.cls = .unused then c else { c with outPos := c.feedback, outVel := 0 } } })) ∧
  (∀ s : State,
    let c (n : Fin 12) : Channel := s.cond.chans[n]
    let l (n : Fin 12) : LensChannel := s.lens[n]
    (channelCheck s = none ↔
      (∃ n, (c n).desc.cls ≠ .unused) ∧
      ∀ n, (c n).desc.cls ≠ .unused →
        roleFits (clsCode (c n).desc.cls) (roleCode (c n).desc.role) (axisKindCode (c n).desc.kind) ∧
        ((c n).desc.role ≠ .aux → (c n).desc.role ≠ .lensAux →
          ∀ m, m ≠ n → (c m).desc.role ≠ (c n).desc.role) ∧
        effMin (c n) (l n) ≤ (c n).feedback ∧ (c n).feedback ≤ effMax (c n) (l n) ∧
        ((c n).desc.cls = .lens → (l n).active ≠ none)) ∧
    ((∀ n, (c n).desc.cls = .unused) → channelCheck s = some { channel := none, item := 1 }) ∧
    (let fails (item : Nat) (n : Fin 12) : Prop := (c n).desc.cls ≠ .unused ∧
      ((item = 2 ∧
          (¬ roleFits (clsCode (c n).desc.cls) (roleCode (c n).desc.role) (axisKindCode (c n).desc.kind) ∨
            ((c n).desc.role ≠ .aux ∧ (c n).desc.role ≠ .lensAux ∧
              ∃ m, m ≠ n ∧ (c m).desc.role = (c n).desc.role))) ∨
        (item = 3 ∧ ((c n).feedback < effMin (c n) (l n) ∨ effMax (c n) (l n) < (c n).feedback)) ∨
        (item = 4 ∧ (c n).desc.cls = .lens ∧ (l n).active = none))
     ∀ item n, channelCheck s = some { channel := some n, item := item } ↔
      fails item n ∧ (∀ m, m < n → ¬ fails item m) ∧ ∀ j m, j < item → ¬ fails j m))

/-- R196, R198: the decision, where it is due: all checks passed and the crane is LIVE, or one failed and it is parked;
where DRIVES fails the record's detail is a channel that failed it, with its drive status. That it is the lowest of them
(log entry 63), that the decision is
a step of its own at count 250 (log entry 18), and that no decision is made at any other moment (log entry 17) are the
model's choices. -/
def Obligations.ArmingDecided : Prop :=
  ∀ s : State,
    (s.mode.mode ≠ .arming ∨ s.mode.count ≠ 250 → exec .armingDecision s = .next s) ∧
    (s.mode.mode = .arming → s.mode.count = 250 →
      let mark (b : Bool) : CheckMark := if b then .pass else .fail
      let ready (n : Fin 12) : Bool := (s.cond.chans[n]).desc.cls == .unused || (s.cond.chans[n]).status == 1
      let drivesReady := (List.finRange 12).all ready
      let checks : Checks :=
        { channel := s.mode.check.checks.channel
          geometry := mark ((s.zone.activeOne.zones.all fun z => !z.enabled) || s.geo.head.isSome)
          zones := mark (s.mode.verified && s.zone.pass == .pass && s.zone.stopSet == [])
          link := mark (s.link.portC.rx.sync == .framed && s.link.portD.rx.sync == .framed && !s.link.armingLoss &&
            !s.link.consoleAbsent)
          drives := mark drivesReady
          estop := mark s.pins.estopInClosed
          supply := mark (!s.pins.supplyFail)
          sync := mark (!s.take.ref.required || s.take.ref.sync == .locked) }
      let passed := [checks.channel, checks.geometry, checks.zones, checks.link, checks.drives, checks.estop,
        checks.supply, checks.sync].all (· == .pass)
      ∃ detail, (drivesReady = true → detail = s.mode.check.detail) ∧
        (∀ n, ready n = false → (∀ m, m < n → ready m = true) →
          detail = some { channel := some n, item := (s.cond.chans[n]).status.toNat }) ∧
        let check : SelfCheck :=
          { s.mode.check with
            result := if passed then .passed else .failed
            checks := checks, detail := detail, advisory := s.pins.supplyWarn, endedAt := some s.link.part
            periods := 250 }
        (passed = true → ∃ chans : Vector Channel 12,
          exec .armingDecision s = .next
            { s with
              mode := { s.mode with mode := .live, granted := false, check := check }
              stop := { s.stop with safety := .normal, softStop := false, stopReqMemory := false, gripMemory := true }
              geo := { s.geo with reference := none }
              cond := { s.cond with chans := chans } } ∧
          ∀ n : Fin 12,
            let old : Channel := s.cond.chans[n]
            chans[n] = if old.desc.cls = .unused then old else
              { old with
                source := .live, pendingSource := none, pendingNew := false, caughtState := .waiting
                fallback := false
                takeHold := if old.desc.cls = .lens then engOf s.lens[n] old.outPos else old.outPos }) ∧
        (passed = false →
          exec .armingDecision s = .next
            { s with
              mode := { s.mode with mode := .parked, granted := false, check := check }
              pins := { s.pins with estopOutClosed := false, brakeReleased := false } }))

/-- R197, R199: PARK in PARKED, in ARMING and in LIVE, refused while a motion axis moves and the drives are not dropped.
In ARMING it aborts the arming. Accepted in LIVE: PARKED and NORMAL, the chain open, an active recording ended
INTERRUPTED, an active or ENDED playback ABORTED with reason PARK, a running calibration FAILED with reason PARKED, the
pending sources discarded; and everything else in every block as it was, but that a Resume's catch and a found value
still to come are dropped with them. That the channel of an ended calibration keeps its catch state is the model's
reading of R14 and R106 (log entry 37); that a Resume's catch and a found value are dropped is its choice (log entry
66). -/
def Obligations.ParkTaken : Prop :=
  ∀ (tag : Byte) (s : State), tag ≠ 0 →
    let moving : Prop := ∃ n : Fin 12, (s.cond.chans[n]).desc.cls = .motion ∧ (s.cond.chans[n]).outVel ≠ 0
    let p := s.take.play
    let aborts : Prop := p.state = .cueing ∨ p.state = .cued ∨ p.state = .running ∨ p.state = .ended
    (s.mode.mode = .parked → exec (.park tag) s = replied tag 0x21 .ok s) ∧
    (s.mode.mode = .live → s.stop.safety ≠ .dropped → moving →
      exec (.park tag) s = replied tag 0x21 .refusedBusy s) ∧
    (s.mode.mode = .arming → exec (.park tag) s = replied tag 0x21 .ok
      (armingEnded s .aborted .park s.mode.check.checks s.mode.check.detail)) ∧
    (s.mode.mode = .live → s.stop.safety = .dropped ∨ ¬ moving →
      ∃ (chans : Vector Channel 12) (lens : Vector LensChannel 12) (u : TakeStore),
        exec (.park tag) s = replied tag 0x21 .ok
          { s with
            mode := { s.mode with mode := .parked, granted := false }
            stop := { s.stop with safety := .normal, stopTimer := 0, softStop := false }
            pins := { s.pins with estopOutClosed := false, brakeReleased := false }
            cond := { chans := chans, resumeCatch := false }
            lens := lens
            store :=
              if aborts then { u with reading := s.store.reading.map fun x => { x with wanted := false } } else u
            take := { s.take with
              recording := if s.take.recording.state = .idle then s.take.recording else idleRecording
              play := if aborts then
                  { p with
                    state := .aborted, abort := some (p.index, .park), queue := [], lineTrigger := false
                    firstFrame := false }
                else p } } ∧
        (s.take.recording.state = .idle → u = s.store) ∧
        (s.take.recording.state ≠ .idle → recordingEnded s.take.recording.entry true s.store u) ∧
        ∀ n : Fin 12,
          let c : Channel := s.cond.chans[n]
          let held := if c.desc.cls = .lens then engOf s.lens[n] c.outPos else c.outPos
          chans[n] = { c with
            pendingSource := none, pendingNew := false
            takeHold := if aborts ∧ (c.source = .take ∨ c.source = .takeTrim) then held else c.takeHold } ∧
          lens[n] = calibrationFailed .parked s.lens[n])

/-- R200 with R28, R43, R63, R89, R109, R126, R151, R164, R180, R191, R197: after SOFT_RESET the crane is parked, its
chain open, its running work ended: an arming aborted, a recording INTERRUPTED, the playback IDLE, a calibration FAILED,
a format UNFORMATTED; descriptors, feedback, tables, takes, records, settings and counters, the zones and the link are
kept, presence too, which READ_STATUS reports ABSENT until the next matched return (log entry 32). That a Resume's catch
and a found value still to come are dropped is the model's choice (log entry 66). -/
def Obligations.SoftResetParks : Prop :=
  ∀ (tag : Byte) (s : State), tag ≠ 0 →
    ∃ (chans : Vector Channel 12) (lens : Vector LensChannel 12) (u : TakeStore),
      let formats : Prop := s.store.state = .formatting
      let m := if s.mode.mode = .arming then
          (armingEnded s .aborted .softReset s.mode.check.checks s.mode.check.detail).mode
        else s.mode
      exec (.softReset tag) s = replied tag 0x7F .ok
        { s with
          mode := { m with mode := .parked, granted := false }
          stop := { s.stop with safety := .normal, stopTimer := 0, softStop := false }
          pins := { s.pins with estopOutClosed := false, brakeReleased := false }
          service := { s.service with staging := List.replicate 1024 0 }
          geo := { s.geo with headSpeed := 0, reference := none }
          cond := { chans := chans, resumeCatch := false }
          lens := lens
          store := { u with
            reading := s.store.reading.map fun x => { x with wanted := false }
            state := if formats then .unformatted else s.store.state
            progress := if formats then 0 else s.store.progress
            formatFailed := if formats then [] else s.store.formatFailed
            free := if formats then [] else s.store.free
            bad := if formats then [] else s.store.bad }
          take := { s.take with
            recording := if s.take.recording.state = .idle then s.take.recording else idleRecording
            play := idlePlayback }
          capture := if s.capture.state = .tripped then s.capture else
            { s.capture with state := .idle, condition := none, previous := none } } ∧
      (s.take.recording.state = .idle → u = s.store) ∧
      (s.take.recording.state ≠ .idle → recordingEnded s.take.recording.entry true s.store u) ∧
      ∀ n : Fin 12,
        chans[n] = { s.cond.chans[n] with
          outVel := 0, source := .live, pendingSource := none, pendingNew := false, caughtState := .waiting
          holdValue := 0, takeHold := 0, fallback := false, flags := noFlags
          answered := false } ∧
        lens[n] = { calibrationFailed .softReset s.lens[n] with window := [], foundMin := none }

/-! ## Stops and the fault record -/

/-- Sections 4.1 and 4.2, R65 to R69, R85, R86, R159, R197: a cause in PARKED does nothing. In ARMING and LIVE it is
entered in the fault record with the snapshot of that moment, and handed to the Capture Unit. In LIVE a controlled one
in NORMAL begins STOPPING with the timer at 0, an immediate one drops the drives and opens the chain. A stop that begins
ends a recording INTERRUPTED and aborts an active playback with reason STOP, the take holds set from the outputs; an
entry to DROPPED ends the running calibrations. A controlled one in STOPPING or HELD clears the soft-stop flag unless it
is GRIP_RELEASED and does nothing more; any cause in DROPPED is recorded only. In ARMING the four immediate causes that
arise there end the arming, FAILED with their check, and any other changes nothing more; the drive status beside the
channel of a FOLLOWING_ERROR is the model's choice (log entry 79). The zones, the head, the link,
the mode of a LIVE crane and the service unit are as they were. -/
def Obligations.CausesActByClass : Prop :=
  ∀ (c : Cause) (s : State),
    let t := takeCause c s
    let entered : State := { s with stop := { s.stop with fault := some (faultEntered c s) }, capture := t.capture }
    let checks := s.mode.check.checks
    let detail := match c.channel with
      | none => s.mode.check.detail
      | some n => some { channel := some n, item := (s.cond.chans[n]).status.toNat }
    let p := s.take.play
    let active : Prop := p.state = .cueing ∨ p.state = .cued ∨ p.state = .running
    (s.mode.mode = .parked → t = s) ∧
    (s.mode.mode ≠ .parked → t.stop.fault = some (faultEntered c s) ∧
      testedFor .anyStop s.take.play.state (fun _ => some (.cause c.name c.name.cls)) s.link.part (latestTimecode s)
        s t.capture) ∧
    (s.mode.mode = .arming → t =
      match c.name with
      | .followingError => armingEnded entered .failed .followingError { checks with drives := .fail } detail
      | .driveFault => armingEnded entered .failed .driveFault { checks with drives := .fail } detail
      | .estopChain => armingEnded entered .failed .estopChain { checks with estop := .fail } s.mode.check.detail
      | .zoneTableCorrupt =>
        armingEnded entered .failed .zoneTableCorrupt { checks with zones := .fail } s.mode.check.detail
      | _ => entered) ∧
    (s.mode.mode = .live →
      t = { s with
        stop := t.stop, pins := t.pins, cond := t.cond, store := t.store, take := t.take, capture := t.capture
        lens := t.lens } ∧
      (c.name.cls = .i → t.stop.safety = .dropped) ∧
      (c.name.cls = .i → s.stop.safety ≠ .dropped →
        t.pins.estopOutClosed = false ∧ t.pins.brakeReleased = false ∧ t.stop.softStop = false ∧
        t.stop.stopTimer = s.stop.stopTimer ∧ ∀ n : Fin 12, (t.lens[n]).calibrating = false) ∧
      (c.name.cls = .c → s.stop.safety = .normal →
        t.stop.safety = .stopping ∧ t.stop.stopTimer = 0 ∧ t.stop.softStop = (c.name == .gripReleased) ∧
        t.pins = s.pins ∧ t.lens = s.lens) ∧
      (s.stop.safety = .normal → t.take.recording.state = .idle ∧ t.take.play.active = false ∧
        ∃ u : TakeStore,
          (s.take.recording.state = .idle → u = s.store) ∧
          (s.take.recording.state ≠ .idle → recordingEnded s.take.recording.entry true s.store u) ∧
          t.store = (if active then { u with reading := s.store.reading.map fun x => { x with wanted := false } } else u) ∧
          t.take = { s.take with
            recording := if s.take.recording.state = .idle then s.take.recording else idleRecording
            play := if active then
                { p with
                  state := .aborted, abort := some (p.index, .stop), queue := [], lineTrigger := false
                  firstFrame := false }
              else p } ∧
          t.cond.resumeCatch = s.cond.resumeCatch ∧
          ∀ n : Fin 12,
            let x : Channel := s.cond.chans[n]
            t.cond.chans[n] = { x with
              takeHold := if active ∧ (x.source = .take ∨ x.source = .takeTrim) then
                  if x.desc.cls = .lens then engOf s.lens[n] x.outPos else x.outPos
                else x.takeHold }) ∧
      (s.stop.safety ≠ .normal → t.cond = s.cond ∧ t.take = s.take ∧ t.store = s.store) ∧
      (c.name.cls = .i → s.stop.safety ≠ .dropped → ∀ n : Fin 12, t.lens[n] = calibrationFailed .dropped s.lens[n]) ∧
      (s.stop.safety = .dropped → t = entered) ∧
      (c.name.cls = .c → s.stop.safety = .stopping ∨ s.stop.safety = .held →
        t = { entered with
          stop := { entered.stop with softStop := s.stop.softStop && decide (c.name = .gripReleased) } }) ∧
      (c.name.cls = .c → s.stop.safety ≠ .normal →
        t.stop.safety = s.stop.safety ∧ t.stop.stopTimer = s.stop.stopTimer ∧ t.cond = s.cond ∧ t.take = s.take ∧
        t.pins = s.pins ∧ t.lens = s.lens))

/-- R74, R197: STOP has no effect in PARKED; in LIVE it raises CONSOLE_STOP; in ARMING it raises it and then aborts the
arming. Its reply is OK. R70, R71: STOP_TIMEOUT where the next step of the stop timer reaches its limit with a motion
axis still moving: the timer is stepped and the drives are dropped, STOP_TIMEOUT entered in the fault record; at any
other moment nothing (log entry 17). R73 to R75, R79: the flags of a good console frame raise their causes once,
STOP_REQ first, then set the two memories; and a crane HELD by nothing but its grip resumes where no condition stands.
The order of the three, STOP_REQ, GRIP and the resume last, is the model's reading (log entry 22). -/
def Obligations.StopAndTimeoutTaken : Prop :=
  (∀ (tag : Byte) (s : State), tag ≠ 0 →
    let cause : Cause := { name := .consoleStop, channel := none, zone := none, value := none }
    (s.mode.mode = .parked → exec (.stop tag) s = replied tag 0x22 .ok s) ∧
    (s.mode.mode = .live → exec (.stop tag) s = replied tag 0x22 .ok (takeCause cause s)) ∧
    (s.mode.mode = .arming → ∃ capture,
      testedFor .anyStop s.take.play.state (fun _ => some (.cause .consoleStop .c)) s.link.part (latestTimecode s) s
        capture ∧
      exec (.stop tag) s = replied tag 0x22 .ok
        (armingEnded { s with stop := { s.stop with fault := some (faultEntered cause s) }, capture := capture }
          .aborted .stop s.mode.check.checks s.mode.check.detail))) ∧
  (∀ s : State,
    let due : Prop := s.mode.mode = .live ∧ s.stop.safety = .stopping ∧
      (∃ n : Fin 12, (s.cond.chans[n]).desc.cls = .motion ∧ (s.cond.chans[n]).outVel ≠ 0) ∧
      s.stop.stopLimit ≤ min (s.stop.stopTimer + 1) 65535
    (¬ due → exec .stopTimeout s = .next s) ∧
    (due → ∃ t, exec .stopTimeout s = .next t ∧
      t = { s with stop := t.stop, pins := t.pins, capture := t.capture, lens := t.lens } ∧
      t.stop.safety = .dropped ∧ t.stop.stopTimer = min (s.stop.stopTimer + 1) 65535 ∧
      t.pins = { s.pins with estopOutClosed := false, brakeReleased := false } ∧
      ∃ r, t.stop.fault = some r ∧ (s.stop.fault = none → r.cause.name = .stopTimeout) ∧
        (s.stop.fault ≠ none → r.lastLater = some (.stopTimeout, s.link.part)))) ∧
  (∀ (flags : Byte) (s : State),
    let plain (n : CauseName) : Cause := { name := n, channel := none, zone := none, value := none }
    let stopReq := flags.getLsbD 0
    let grip := flags.getLsbD 1
    let a := if stopReq = true ∧ s.stop.stopReqMemory = false then takeCause (plain .consoleStop) s else s
    let b := if grip = false ∧ a.stop.gripMemory = true then takeCause (plain .gripReleased) a else a
    let c := { b with stop := { b.stop with stopReqMemory := stopReq, gripMemory := grip } }
    let resumes : Prop := c.mode.mode = .live ∧ c.stop.safety = .held ∧ c.stop.softStop = true ∧ grip = true ∧
      c.zone.stopSet = [] ∧ c.link.consoleAbsent = false ∧ c.link.feedbackLost = false ∧
      c.pins.estopInClosed = true ∧ c.pins.supplyFail = false
    takeFlags flags s =
      if resumes then
        { c with
          stop := { c.stop with
            safety := .normal, softStop := false, stopReqMemory := false
            autoResumes := min (c.stop.autoResumes + 1) 65535 }
          cond := { c.cond with resumeCatch := true } }
      else c)
/-- R76, R77: RESUME row by row; in HELD the first standing condition refuses it with its code and zone, and where none
stands the crane is NORMAL. R87: RELEASE_FAULT row by row. -/
def Obligations.ResumeAndReleaseTaken : Prop :=
  (∀ (tag : Byte) (s : State), tag ≠ 0 →
    let held (code zone : Byte) : Prop :=
      exec (.resume tag) s = .next (answer tag 0x23 { result := .refusedCondition, data := [code, zone] } s)
    (s.mode.mode = .parked → exec (.resume tag) s = replied tag 0x23 .refusedMode s) ∧
    (s.mode.mode = .arming → exec (.resume tag) s = replied tag 0x23 .refusedBusy s) ∧
    (s.mode.mode = .live → s.stop.safety = .normal → exec (.resume tag) s = replied tag 0x23 .ok s) ∧
    (s.mode.mode = .live → s.stop.safety = .stopping ∨ s.stop.safety = .dropped →
      exec (.resume tag) s = replied tag 0x23 .refusedMode s) ∧
    (s.mode.mode = .live → s.stop.safety = .held →
      (∀ z rest, s.zone.stopSet = z :: rest → held 0 (BitVec.ofNat 8 z)) ∧
      (s.zone.stopSet = [] →
        (s.stop.gripMemory = false → held 1 0) ∧
        (s.stop.gripMemory = true →
          (s.link.consoleAbsent = true → held 2 0) ∧
          (s.link.consoleAbsent = false →
            (s.link.feedbackLost = true → held 3 0) ∧
            (s.link.feedbackLost = false →
              (s.pins.estopInClosed = false → held 4 0) ∧
              (s.pins.estopInClosed = true →
                (s.pins.supplyFail = true → held 5 0) ∧
                (s.pins.supplyFail = false →
                  exec (.resume tag) s = replied tag 0x23 .ok
                    { s with
                      stop := { s.stop with safety := .normal, softStop := false, stopReqMemory := false }
                      cond := { s.cond with resumeCatch := true } })))))))) ∧
  (∀ (tag : Byte) (s : State), tag ≠ 0 →
    (s.mode.mode = .arming → exec (.releaseFault tag) s = replied tag 0x24 .refusedBusy s) ∧
    (s.mode.mode ≠ .arming → s.stop.fault = none → exec (.releaseFault tag) s = replied tag 0x24 .ok s) ∧
    (s.mode.mode = .live → s.stop.fault ≠ none → s.stop.safety ≠ .held →
      exec (.releaseFault tag) s = replied tag 0x24 .refusedMode s) ∧
    (s.stop.fault ≠ none → s.mode.mode = .parked ∨ (s.mode.mode = .live ∧ s.stop.safety = .held) →
      exec (.releaseFault tag) s = replied tag 0x24 .ok { s with stop := { s.stop with fault := none } }))

/-! ## Lens calibration -/

/-- R99, R100: LENS_CALIBRATE by its checks in their order, and the calibration it begins from the effective limits.
That a found value still waiting to be placed is kept when the next calibration begins is the model's choice (log
entry 24). R105: the time limit where the next counted frame of a running calibration passes 30,000 and no stall
waits: FAILED with TIME_LIMIT, the output at the last feedback inside the limits, at rest, waiting for its catch.
That the target item stays as it was and the engineering value is that of the output (log entry 51), and that
nothing happens at any other moment (log entry 17), are the model's choices. -/
def Obligations.CalibrationBeginsAndTimesOut : Prop :=
  (∀ (tag channel : Byte) (s : State), served tag s →
    let run := exec (.lensCalibrate tag channel) s
    (12 ≤ channel.toNat → run = replied tag 0x40 .badParam s) ∧
    ∀ n : Fin 12, channel.toNat = n.val →
      let c : Channel := s.cond.chans[n]
      let l : LensChannel := s.lens[n]
      (c.desc.cls ≠ .lens → run = replied tag 0x40 .badParam s) ∧
      (c.desc.cls = .lens →
        (s.mode.mode = .parked ∨ s.stop.safety = .stopping ∨ s.stop.safety = .dropped →
          run = replied tag 0x40 .refusedMode s) ∧
        (s.mode.mode = .live → s.stop.safety = .normal ∨ s.stop.safety = .held →
          (l.cal = .seekLow ∨ l.cal = .seekHigh ∨ c.source = .take ∨ c.source = .takeTrim →
            run = replied tag 0x40 .refusedBusy s) ∧
          (l.cal ≠ .seekLow → l.cal ≠ .seekHigh → c.source = .live ∨ c.source = .hold →
            run = replied tag 0x40 .accepted
              (withLens s n
                { l with
                  cal := .seekLow, failure := none, count := 0
                  seekLow := match l.result with
                    | none => c.desc.posMin
                    | some r => max c.desc.posMin r.foundMin
                  seekHigh := match l.result with
                    | none => c.desc.posMax
                    | some r => min c.desc.posMax r.foundMax
                  foundMin := none, window := [], phaseFrom := none }))))) ∧
  (∀ (n : Fin 12) (s : State),
    let c : Channel := s.cond.chans[n]
    let l : LensChannel := s.lens[n]
    let due : Prop := s.mode.mode = .live ∧ s.stop.safety ≠ .dropped ∧ c.desc.cls = .lens ∧
      (l.cal = .seekLow ∨ l.cal = .seekHigh) ∧ l.apply = none ∧ 30000 ≤ l.count
    (¬ due → exec (.calibrationTimeLimit n) s = .next s) ∧
    (due →
      let p := clamp (effMin c l) (effMax c l) c.feedback
      exec (.calibrationTimeLimit n) s = .next
        (withLens
          (withChannel s n { c with outPos := p, outVel := 0, caughtState := .waiting, eng := engOf l p })
          n
          { l with
            cal := .failed, failure := some .timeLimit, foundMin := none, window := [], phaseFrom := none
            count := 30001 })))
/-- R102 to R104: the stall test at a matched return of the current phase, whose frame's part counter value is the
phase's first or one of the 2^31 - 1 after it (the model's reading, log entry 31): 20 values within 2 counts of one
another find a stall; the found value is the seek limit where the output stands at it and the feedback within 2 counts
of it, else the feedback clamped into the effective limits. In SEEK_LOW it becomes found_min and the phase turns; in
SEEK_HIGH the calibration ends DONE with its result, or FAILED with NO_TRAVEL; nothing else of the channel's lens state
changes. -/
def Obligations.StallsFound : Prop :=
  ∀ (part : Word) (c : Channel) (l : LensChannel),
    l.window.length ≤ 20 →
    let t := stallStep part c l
    let w := (l.window ++ [c.feedback]).drop (l.window.length - 19)
    let stall : Prop := w.length = 20 ∧ ∀ a ∈ w, ∀ b ∈ w, a ≤ b + 2
    let sent : Prop := ∃ first, l.phaseFrom = some first ∧ (part - first).toNat < 2 ^ 31
    let limit := if l.cal = .seekLow then l.seekLow else l.seekHigh
    let lo := effMin c l
    let hi := effMax c l
    let v := if c.outPos = limit ∧ (c.feedback - limit).natAbs ≤ 2 then limit
      else if c.feedback < lo then lo else if hi < c.feedback then hi else c.feedback
    let low := match l.foundMin with
      | none => v
      | some x => x
    t.window.length ≤ 20 ∧
    (l.calibrating = false ∨ ¬ sent → t = l) ∧
    (l.calibrating = true → sent →
      (¬ stall → t = { l with window := w }) ∧
      (stall → l.cal = .seekLow →
        t = { l with window := [], phaseFrom := none, apply := some v, foundMin := some v, cal := .seekHigh }) ∧
      (stall → l.cal = .seekHigh → low < v →
        t = { l with
          window := [], phaseFrom := none, apply := some v, foundMin := none, cal := .done
          result := some { foundMin := low, foundMax := v, fit := fitOf l.active low v, madeAt := part } }) ∧
      (stall → l.cal = .seekHigh → v ≤ low →
        t = { l with
          window := [], phaseFrom := none, apply := some v, foundMin := none, cal := .failed
          failure := some .noTravel }))

/-! ## The capture unit -/

/-- R157: ARM_CAPTURE: an item outside its set, an UNUSED channel for OUTPUT_CROSSES or an index past 16,777,215 is
BAD_PARAM; a TRIPPED unit refuses; else the condition is stored, the items its kind does not use at 0 and UP. R158,
R160, R161: at a test opportunity of a crossing kind an armed condition of the kind whose scope allows it trips
exactly where the step from the previous sample crosses the value; an armed one that does not trip keeps the new
sample; any other unit is as it was. R159: TIMECODE at a frame's placement, TAKE_INDEX at its hand-on and SLOW_ENTER
at a zone evaluation trip exactly where met. R160: TIMECODE under the play state that governs the frame, the one its
request and its take values leave: RUNNING on the frame that carries GO, ABORTED on the one that carries ABORT_PLAY.
Which index a frame has after its append (log entry 26), that TIMECODE is tested at the placement, after a trigger
has started a take there (log entry 23), that its record is filled there, before the frame's request and its
conditioning (log entries 59 and 72), that every kind uses the scope (log entry 70), and that a playback which is
ABORTED by then gives no index, at the frame of its third data fault too (log entry 75), and that a recording which
begins at a frame is RECORDING in that frame's TIMECODE record (log entry 78), are the model's readings. -/
def Obligations.CaptureArmedAndTripped : Prop :=
  (∀ (tag kind channel : Byte) (value : Word) (direction scope : Byte) (s : State), served tag s →
    let run := exec (.armCapture tag kind channel value direction scope) s
    let crossing : Prop := kind.toNat ≤ 1
    let fits : Prop := kind.toNat ≤ 5 ∧ scope.toNat ≤ 2 ∧
      (crossing → direction.toNat ≤ 2 ∧ channel.toNat < 12) ∧
      (kind = 0 → ∀ n : Fin 12, channel.toNat = n.val → (s.cond.chans[n]).desc.cls ≠ .unused) ∧
      (kind = 2 → value.toNat ≤ 16777215)
    (¬ fits → run = replied tag 0x48 .badParam s) ∧
    (fits → s.capture.state = .tripped → run = replied tag 0x48 .refusedBusy s) ∧
    (fits → s.capture.state ≠ .tripped → ∀ k sc, captureKindOf? kind = some k → scopeOf? scope = some sc →
      ∃ c : Condition,
        run = replied tag 0x48 .ok
          { s with capture := { s.capture with state := .armed, condition := some c, previous := none } } ∧
        c.kind = k ∧ c.scope = sc ∧
        (crossing → c.channel.val = channel.toNat ∧ c.value = value ∧ directionOf? direction = some c.direction) ∧
        (¬ crossing → c.channel = 0 ∧ c.direction = .up) ∧
        (kind = 2 ∨ kind = 4 → c.value = value) ∧ (kind = 3 ∨ kind = 5 → c.value = 0))) ∧
  (∀ (kind : CaptureKind) (play : PlayState) (sample : Fin 12 → Int) (part timecode : Word) (s : State),
    let t := testCrossing kind play sample part timecode s
    t = { s with capture := t.capture } ∧
    (s.capture.state ≠ .armed → t = s) ∧
    (∀ c, s.capture.state = .armed → s.capture.condition = some c →
      let x := sample c.channel
      let met : Prop := ∃ before, s.capture.previous = some before ∧
        (((c.direction = .up ∨ c.direction = .either) ∧ before < c.value.toInt ∧ c.value.toInt ≤ x) ∨
         ((c.direction = .down ∨ c.direction = .either) ∧ c.value.toInt < before ∧ x ≤ c.value.toInt))
      let inScope : Prop := (c.scope = .liveOnly → play ≠ .running) ∧ (c.scope = .playbackOnly → play = .running)
      (c.kind ≠ kind → t = s) ∧
      (c.kind = kind → ¬ (met ∧ inScope) → t = { s with capture := { s.capture with previous := some x } }) ∧
      (c.kind = kind → met → inScope → t.capture = trippedBy c (.number x) part timecode s))) ∧
  (∀ (request : State → State) (timecode : Word) (s : State),
    let t := placeOutbound request timecode s
    let governed := (supply (request { t.1 with capture := s.capture })).1
    testedFor .timecode governed.take.play.state
      (fun c => if t.2.start ≠ .none ∧ timecode = c.value then some (.number timecode.toNat) else none)
      s.link.part timecode { s with take := t.1.take } t.1.capture) ∧
  (∀ (tag : Byte) (s t : State), served tag s →
    (s.mode.mode = .live → s.take.play.state = .cued → s.pins.supplyWarn = false → s.take.play.faultRun ≠ 2 →
      exec (.go tag) s = .next t → (supply t).1.take.play.state = .running) ∧
    (s.take.play.state = .running → exec (.abortPlay tag) s = .next t → (supply t).1.take.play.state = .aborted)) ∧
  (∀ (index : Option Nat) (timecode : Word) (s : State), (∀ c, s.capture.condition = some c → c.kind = .takeIndex) →
    testedFor .takeIndex s.take.play.state
      (fun c => if index = some c.value.toNat then some (.number c.value.toNat) else none)
      s.link.part timecode s (outputTests index timecode s).capture) ∧
  (∀ (before : Recording) (appended : Bool) (p : Playback),
    (appended = true → takeIndexOf before appended p = some before.index) ∧
    (appended = false → before.state ≠ .idle → takeIndexOf before appended p = none) ∧
    (appended = false → before.state = .idle →
      takeIndexOf before appended p = if p.state = .running then some p.index else none)) ∧
  (∀ (part : Word) (s : State), (∀ c, s.capture.condition = some c → c.kind = .slowEnter) →
    let t := evaluateZones part s
    testedFor .slowEnter s.take.play.state
      (fun _ => if s.zone.scale = 256 ∧ t.zone.scale < 256 then some (.number t.zone.scale) else none)
      part (latestTimecode s) { s with zone := t.zone } t.capture)

/-! ## The axis link -/

/-- R166, R168: what a code group does to its port's receiver, row by row, an invalid one taken in by a listening
receiver counting one SYMBOL error; and one error counted on a listening port, with the event LINK_FAULT where it makes
its counter reach the threshold: the counter by its wrap mode and auto_clear, at-threshold set, LINK_FAULT taken where
the kind is masked in; nothing on a receiver in UNSYNC. That LINK_FAULT does nothing where the threshold is not reached
is the model's choice (log entry 17). -/
def Obligations.PortsSyncAndCount : Prop :=
  (∀ (p : PortId) (s : State),
    let x := s.link.port p
    let r := x.rx
    let put (l : Link) (y : Port) : Link := match p with
      | .c => { l with portC := y }
      | .d => { l with portD := y }
    (r.sync = .unsync → r.validRun + 1 < 32 → exec (.codeGroupReceived p true) s =
      .next { s with link := put s.link { x with rx := { r with validRun := r.validRun + 1 } } }) ∧
    (r.sync = .unsync → 32 ≤ r.validRun + 1 → exec (.codeGroupReceived p true) s =
      .next { s with link := put s.link { x with rx :=
        { sync := .symbol, validRun := r.validRun + 1, score := 0, goodRun := 0 } } }) ∧
    (r.sync ≠ .unsync → exec (.codeGroupReceived p true) s =
      .next { s with link := put s.link { x with rx :=
        { r with
          validRun := r.validRun + 1
          score := if (r.validRun + 1) % 16 = 0 ∧ 0 < r.score then r.score - 1 else r.score } } }) ∧
    (r.sync = .unsync → exec (.codeGroupReceived p false) s =
      .next { s with link := put s.link { x with rx := { r with validRun := 0 } } }) ∧
    (r.sync ≠ .unsync →
      let t := portError p .symbol s
      exec (.codeGroupReceived p false) s =
        .next { t with link := put t.link { t.link.port p with rx :=
          if r.score < 7 then { r with validRun := 0, score := r.score + 1 }
          else { r with sync := .unsync, validRun := 0, score := 0 } } })) ∧
  (∀ (p : PortId) (k : ErrKind) (s : State),
    let x := s.link.port p
    let c := x.counters.get k
    let count := if c.count < 255 then c.count + 1 else if x.roll.get k = true then 0 else c.count
    let spent := if c.count < 255 then c.spent else if x.roll.get k = true then false else c.spent
    let reached : Prop := x.threshold ≤ count ∧ spent = false
    let next (d : Counter) : State :=
      { s with link := match p with
        | .c => { s.link with portC := { x with counters := x.counters.put k d } }
        | .d => { s.link with portD := { x with counters := x.counters.put k d } } }
    let fault : Cause :=
      { name := .linkFault, channel := none, zone := none, value := some (portCode p + 256 * errKindCode k) }
    let done : State :=
      let t := next { count := if x.autoClear then 0 else count, atThreshold := true, spent := !x.autoClear }
      if x.faultIn.get k = true then takeCause fault t else t
    (x.rx.sync = .unsync → portError p k s = s ∧ exec (.linkFault p k) s = .next s) ∧
    (x.rx.sync ≠ .unsync →
      (¬ reached → portError p k s = next { count := count, atThreshold := c.atThreshold, spent := spent } ∧
        exec (.linkFault p k) s = .next s) ∧
      (reached → portError p k s = done ∧ exec (.linkFault p k) s = .next done)))

/-- R178: SET_LINK: a port or a mode outside its set keeps every setting; else the port's settings are written with
their clamping. A shorter silence_limit that the silence timer has reached makes the console absent at once and
originates one SUBST frame; a shorter return_timeout loses every entry that is as old. That both timers expire at
equality is read from the spec by inference (log entry 34). -/
def Obligations.SetLinkTaken : Prop :=
  ∀ (tag port threshold mask wrapSymbol wrapCrc wrapSequence auto : Byte) (portTimer : Half) (s : State),
    served tag s →
    let run := exec (.setLink tag port threshold mask wrapSymbol wrapCrc wrapSequence auto portTimer) s
    let legal : Prop := port.toNat ≤ 1 ∧ wrapSymbol.toNat ≤ 1 ∧ wrapCrc.toNat ≤ 1 ∧ wrapSequence.toNat ≤ 1 ∧
      auto.toNat ≤ 1
    let write (x : Port) : Port :=
      { x with
        threshold := if threshold = 0 then 1 else threshold.toNat
        faultIn := { symbol := mask.getLsbD 0, crc := mask.getLsbD 1, sequence := mask.getLsbD 2 }
        roll := { symbol := decide (wrapSymbol = 1), crc := decide (wrapCrc = 1), sequence := decide (wrapSequence = 1) }
        autoClear := decide (auto = 1) }
    let silence := if portTimer.toNat < 1000 then 1000 else if 50000 < portTimer.toNat then 50000 else portTimer.toNat
    let timeout := if portTimer.toNat < 100 then 100 else if 2000 < portTimer.toNat then 2000 else portTimer.toNat
    (¬ legal → run = replied tag 0x28 .badParam s) ∧
    (legal → port = 0 → s.link.consoleAbsent = true ∨ s.timer < s.link.silenceFrom + silence →
      run = replied tag 0x28 .ok
        { s with link := { s.link with portC := write s.link.portC, silenceLimit := silence } }) ∧
    (legal → port = 0 → s.link.consoleAbsent = false → s.link.silenceFrom + silence ≤ s.timer →
      ∃ t f, run = replied tag 0x28 .ok t ∧ t.pending = s.pending ∧ t.timer = s.timer ∧ t.geo = s.geo ∧
        t.zone = s.zone ∧ t.mode = s.mode ∧ t.service = { s.service with reply := none } ∧
        t.link = { s.link with
          portC := write s.link.portC, silenceLimit := silence, consoleAbsent := true, lastSubst := s.timer
          part := s.link.part + 1, readyD := s.link.readyD ++ [f] } ∧
        f.kind = .subst ∧ f.part = s.link.part + 1) ∧
    (legal → port = 1 → ∃ t, run = replied tag 0x28 .ok t ∧
      t.pending = s.pending ∧ t.timer = s.timer ∧ t.service = s.service ∧ t.geo = s.geo ∧ t.zone = s.zone ∧
      t.link.portD = write s.link.portD ∧ t.link.portC = s.link.portC ∧ t.link.returnTimeout = timeout ∧
      t.link.inFlight = s.link.inFlight.dropWhile (fun e => decide (e.sendTime + timeout ≤ s.timer)) ∧
      t.link.sentC.length + t.link.inFlight.length = s.link.sentC.length + s.link.inFlight.length ∧
      ((∀ e ∈ s.link.inFlight, s.timer < e.sendTime + timeout) →
        t = { s with link := { s.link with portD := write s.link.portD, returnTimeout := timeout } }))

/-- R166, R167, R169, R170, R173, R181, R182: a good console frame, taken in by a receiver that listens: the port's
receiver and SEQUENCE counter, the measured period, the part counter, the cycle offset, the record of the frame and the
silence timer; and one frame waiting for port D behind the others, the console's own flags, timecode and service field
in it, under the part's cycle number, its slots as the channels were conditioned. A request it carries is executed
after the frame's placement, and the reply goes with the frame. That an arming decision still due is made before the
frame (log entry 18), and that an expected cycle number still absent fails no frame (log entry 60), are the model's
choices. -/
def Obligations.GoodConsoleFrameForwarded : Prop :=
  ∀ (elapsed : Nat) (clean : Bool) (bytes : List Byte) (s : State),
    s.link.portC.rx.sync ≠ .unsync → goodCycle clean bytes →
    let now := s.timer + elapsed
    let cycle := halfAt bytes 2
    let tag := byteAt bytes 68
    let decided := settleDecision { s with timer := now }
    let late : Prop := ∃ before, s.link.lastArrival = some before ∧ s.link.consoleAbsent = false ∧
      (now - before < 500 ∨ 4000 < now - before ∨ ∃ e, s.link.expected = some e ∧ e ≠ cycle)
    let counted := if late then portError .c .sequence decided else decided
    let record : GoodFrame :=
      { cycle := cycle, timecode := wordAt bytes 4, flags := byteAt bytes 1
        values := Vector.ofFn fun n : Fin 12 => wordAt bytes (9 + 5 * n) }
    let period := match s.link.lastArrival with
      | none => s.link.period
      | some before => if 500 ≤ now - before ∧ now - before ≤ 4000 then some (now - before) else s.link.period
    let port := { counted.link.portC with rx := frameTaken true s.link.portC.rx }
    ∃ t f, exec (.consoleFrameArrival elapsed clean bytes) s = .next t ∧
      t.pending = s.pending ∧ t.timer = now ∧ t.pins.crewSeen = s.pins.crewSeen ∧
      t.pins.estopInClosed = s.pins.estopInClosed ∧ t.zone.crew = s.zone.crew ∧
      t.link.part = s.link.part + 1 ∧ t.link.lastGood = some record ∧ t.link.silenceFrom = now ∧
      t.link.consoleAbsent = false ∧ t.link.lastArrival = some now ∧ t.link.expected = some (cycle + 1) ∧
      t.link.offset = (s.link.part + 1).setWidth 16 - cycle ∧ t.link.period = period ∧
      t.link.portC.rx = port.rx ∧ t.link.readyD = s.link.readyD ++ [f] ∧ t.link.sentD = s.link.sentD ∧
      f.kind = .cycle ∧ f.part = s.link.part + 1 ∧ f.consoleCycle = some cycle ∧
      f.timecode = wordAt bytes 4 ∧ f.frame.kind = 0x01 ∧ f.frame.flags = byteAt bytes 1 ∧
      f.frame.cycle = (s.link.part + 1).setWidth 16 ∧ f.frame.timecode = wordAt bytes 4 ∧
      f.frame.service = bytesAt bytes 68 40 ∧ f.frame.tracking = List.replicate 48 0 ∧
      (∀ n : Fin 12,
        let c : Channel := t.cond.chans[n]
        let slot : Slot := f.frame.slots[n]
        (c.desc.cls ≠ .unused → slot.value = BitVec.ofInt 32 c.outPos ∧ (slot.flag = 0 ∨ slot.flag = 1)) ∧
        (c.desc.cls = .unused → slot = { flag := byteAt bytes (8 + 5 * n) &&& 0xFE, value := wordAt bytes (9 + 5 * n) })) ∧
      (∃ (a : State) (pl : Placement),
        a.link = { counted.link with
          portC := port, period := period, expected := some (cycle + 1), lastArrival := some now, silenceFrom := now
          consoleAbsent := false, part := s.link.part + 1, offset := (s.link.part + 1).setWidth 16 - cycle
          lastGood := some record } ∧
        a.mode = { counted.mode with
          count := if counted.mode.mode = .arming then min (counted.mode.count + 1) 250 else counted.mode.count } ∧
        a.stop = counted.stop ∧ a.zone = s.zone ∧ a.store = counted.store ∧ a.lens = counted.lens ∧
        a.take = { counted.take with cueScaleNow := counted.take.cueScale } ∧
        (∀ n : Fin 12, a.cond.chans[n] = { counted.cond.chans[n] with pendingNew := false }) ∧
        let request := serve (bytesAt bytes 68 40)
        pl = (placeOutbound request (wordAt bytes 4) (takeFlags (byteAt bytes 1) a)).2 ∧
        let placed := (placeOutbound request (wordAt bytes 4) (takeFlags (byteAt bytes 1) a)).1
        let o : Outbound :=
          { kind := .cycle, consoleCycle := some cycle, flags := byteAt bytes 1, timecode := wordAt bytes 4
            slots := Vector.ofFn fun n : Fin 12 =>
              { flag := byteAt bytes (8 + 5 * n), value := wordAt bytes (9 + 5 * n) }
            service := bytesAt bytes 68 40 }
        t = finishOutbound o pl (request placed) ∧
        ∀ i u, decodeService (bytesAt bytes 68 40) = .command i → exec i placed = .next u →
          f.service = u.service.reply) ∧
      (tag ≠ 0 → ∃ r, f.service = some (tag, r) ∧ t.service.reply = some (tag, r) ∧ r.data.length ≤ 37 ∧
        t.service.lastReply = some { tag := tag, code := byteAt bytes 69, result := r.result }) ∧
      (tag = 0 → t.zone = s.zone ∧ t.geo = { s.geo with reference := t.geo.reference } ∧
        t.service = { s.service with reply := none } ∧ f.service = none ∧
        t.link = { s.link with
          portC := port, period := period, expected := some (cycle + 1), lastArrival := some now, silenceFrom := now
          consoleAbsent := false, part := s.link.part + 1, offset := (s.link.part + 1).setWidth 16 - cycle
          lastGood := some record, readyD := s.link.readyD ++ [f] } ∧
        ∀ n : Fin 12, (s.cond.chans[n]).desc.cls ≠ .unused →
          ((f.frame.slots[n]).flag = 1 ↔
            (decided.mode.mode = .live ∨ (decided.mode.mode = .arming ∧ decided.mode.granted = true)) ∧
              decided.stop.safety ≠ .dropped))

/-- R166, R167, R169, R171, R172: any other console frame. A receiver in UNSYNC takes it in not at all. The port counts
a CRC error for a bad frame of valid groups, a SEQUENCE error for a good one of another kind, and moves its good-frame
run; the arrival is timed. While the console is absent nothing is originated; else one SUBST frame is counted in
ARMING, placed and taken through the outbound work (R129, R195), and waits for port D, its slots as the channels were
conditioned, the UNUSED ones from the latest good frame; and the silence timer runs on. That an arming decision still
due is made before the frame, and even where none is originated, is the model's choice (log entry 18). -/
def Obligations.BadConsoleFrameReplaced : Prop :=
  ∀ (elapsed : Nat) (clean : Bool) (bytes : List Byte) (s : State),
    (s.link.portC.rx.sync = .unsync →
      exec (.consoleFrameArrival elapsed clean bytes) s = .next { s with timer := s.timer + elapsed }) ∧
    (s.link.portC.rx.sync ≠ .unsync → ¬ goodCycle clean bytes →
      let now := s.timer + elapsed
      let whole : Prop := bytes.length = 160 ∧ crc32 (bytes.take 156) = wordAt bytes 156
      let decided := settleDecision { s with timer := now }
      let counted := if clean = false then decided
        else if whole then portError .c .sequence decided else portError .c .crc decided
      let port := { counted.link.portC with rx := frameTaken (decide (clean = true ∧ whole)) s.link.portC.rx }
      let period := match s.link.lastArrival with
        | none => s.link.period
        | some before => if 500 ≤ now - before ∧ now - before ≤ 4000 then some (now - before) else s.link.period
      let arrived : State := { counted with link := { counted.link with
        portC := port, period := period, lastArrival := some now, expected := s.link.expected.map (· + 1) } }
      ∃ t, exec (.consoleFrameArrival elapsed clean bytes) s = .next t ∧
        t.pending = s.pending ∧ t.timer = now ∧ t.zone = s.zone ∧
        t.geo = { s.geo with reference := t.geo.reference } ∧
        (s.link.consoleAbsent = true → t = arrived ∧ t.service = s.service ∧
          t.link = { s.link with
            portC := port, period := period, lastArrival := some now, expected := s.link.expected.map (· + 1) }) ∧
        (s.link.consoleAbsent = false → t = originateSubst arrived ∧ substOriginated arrived t ∧
          t.service = { s.service with reply := none } ∧ ∃ f,
          t.link = { s.link with
            portC := port, period := period, lastArrival := some now
            expected := s.link.expected.map (· + 1), part := s.link.part + 1, lastSubst := now
            readyD := s.link.readyD ++ [f] } ∧
          f.kind = .subst ∧ f.consoleCycle = none ∧ f.service = none ∧ f.frame.kind = 0x02 ∧ f.frame.flags = 0 ∧
          f.timecode = latestTimecode s ∧ f.frame.timecode = latestTimecode s ∧
          byteAt f.frame.service 0 = 0 ∧ f.frame.cycle = (s.link.part + 1).setWidth 16 ∧
          ∀ n : Fin 12,
            let c : Channel := t.cond.chans[n]
            let slot : Slot := f.frame.slots[n]
            (c.desc.cls ≠ .unused → slot.value = BitVec.ofInt 32 c.outPos ∧ (slot.flag = 0 ∨ slot.flag = 1)) ∧
            (c.desc.cls = .unused → slot.flag.getLsbD 0 = false ∧
              slot.value = match s.link.lastGood with
                | none => 0
                | some g => g.values[n])))

/-- R172: the silence timer's limit and the substitution pace. Each originates one SUBST frame under the next part
counter value at the moment it falls due, counted in ARMING, placed and taken through the outbound work (R129, R195),
its slots as the channels were conditioned; the first makes the console absent and in LIVE raises CONSOLE_SILENT;
neither does anything where the console-absent flag says that it is not due (log entries 16 and 17). That an arming
decision still due is made before the frame is the model's choice (log entry 18). -/
def Obligations.SilenceSubstitutes : Prop :=
  ∀ s : State,
    (s.link.consoleAbsent = true → exec .consoleSilenceTimeout s = .next s) ∧
    (s.link.consoleAbsent = false → exec .substPeriodElapsed s = .next s) ∧
    ∀ i : Instr,
      (i = .consoleSilenceTimeout ∧ s.link.consoleAbsent = false) ∨
        (i = .substPeriodElapsed ∧ s.link.consoleAbsent = true) →
      let due := if i = .substPeriodElapsed then
          s.link.lastSubst + (match s.link.period with
            | none => 1000
            | some p => p)
        else s.link.silenceFrom + s.link.silenceLimit
      let decided := settleDecision { s with timer := max s.timer due }
      let cause : Cause := { name := .consoleSilent, channel := none, zone := none, value := none }
      let before := if i = .substPeriodElapsed then decided
        else takeCause cause { decided with link := { decided.link with consoleAbsent := true } }
      ∃ t f, exec i s = .next t ∧ t = originateSubst before ∧ substOriginated before t ∧
        t.pending = s.pending ∧ t.timer = max s.timer due ∧ t.zone = s.zone ∧
        t.geo = { s.geo with reference := t.geo.reference } ∧ t.service = { s.service with reply := none } ∧
        t.link = { s.link with
          consoleAbsent := true, lastSubst := max s.timer due, part := s.link.part + 1
          readyD := s.link.readyD ++ [f] } ∧
        f.kind = .subst ∧ f.part = s.link.part + 1 ∧ f.consoleCycle = none ∧ f.frame.kind = 0x02 ∧
        f.frame.flags = 0 ∧ f.frame.cycle = (s.link.part + 1).setWidth 16 ∧ f.frame.timecode = latestTimecode s ∧
        (∀ n : Fin 12,
          let c : Channel := t.cond.chans[n]
          let slot : Slot := f.frame.slots[n]
          (c.desc.cls ≠ .unused → slot.value = BitVec.ofInt 32 c.outPos ∧ (slot.flag = 0 ∨ slot.flag = 1)) ∧
          (c.desc.cls = .unused → slot.flag.getLsbD 0 = false ∧
            slot.value = match s.link.lastGood with
              | none => 0
              | some g => g.values[n])) ∧
        (i = .consoleSilenceTimeout → s.mode.mode = .live → s.stop.fault = none →
          ∃ r, t.stop.fault = some r ∧ r.cause.name = .consoleSilent)

/-- R165, R173, R176, R177: the frame that has waited longest starts its transmission and its entry joins the tail of
the in-flight list with the outputs it carries; a list of four first loses its oldest entry, which a constructed return
answers with the entry's outputs under STALE and its tracking record; the stall windows are emptied, and a third loss
in a row raises FEEDBACK_LOST. -/
def Obligations.FrameSentEntersList : Prop :=
  ∀ (elapsed : Nat) (s : State),
    (s.link.readyD = [] → exec (.outboundFrameSent elapsed) s = .next { s with timer := s.timer + elapsed }) ∧
    (∀ o rest, s.link.readyD = o :: rest → ∃ e : InFlight,
      e.part = o.part ∧ e.consoleCycle = o.consoleCycle ∧ e.kind = o.kind ∧ e.sendTime = s.timer + elapsed ∧
      e.timecode = o.timecode ∧ e.phase = o.phase ∧ e.sync = o.sync ∧ e.service = o.service ∧
      (∀ n : Fin 12, e.outputs[n] =
        { value := (o.frame.slots[n]).value.toInt, enable := (o.frame.slots[n]).flag.getLsbD 0
          calibrated := o.calibrated[n] }) ∧
      (s.link.inFlight.length < 4 →
        exec (.outboundFrameSent elapsed) s = .next
          { s with
            timer := s.timer + elapsed
            link := { s.link with
              readyD := rest, sentD := s.link.sentD ++ [o.frame], inFlight := s.link.inFlight ++ [e] } }) ∧
      (∀ a left, s.link.inFlight = a :: left → 4 ≤ s.link.inFlight.length → ∃ t f,
        exec (.outboundFrameSent elapsed) s = .next t ∧ t.timer = s.timer + elapsed ∧ t.pending = s.pending ∧
        t.service = s.service ∧ t.geo = s.geo ∧ t.zone = s.zone ∧
        t.link = { s.link with
          readyD := rest, sentD := s.link.sentD ++ [o.frame], inFlight := left ++ [e]
          lossCount := min (s.link.lossCount + 1) 255
          feedbackLost := s.link.feedbackLost || s.link.lossCount == 2
          totalLost := min (s.link.totalLost + 1) 65535, armingLoss := true, sentC := s.link.sentC ++ [f] } ∧
        staleReturn s.link.offset a f ∧ tracks t.capture.embed (trackedFields a t) f.tracking ∧
        (∀ n : Fin 12, t.lens[n] = windowEmptied s.lens[n]) ∧
        (let cause : Cause := { name := .feedbackLost, channel := none, zone := none, value := none }
         (s.link.lossCount ≠ 2 → t.stop = s.stop ∧ t.pins = s.pins ∧ t.take = s.take ∧ t.store = s.store ∧
          t.cond = s.cond ∧ t.capture = s.capture) ∧
         (s.link.lossCount = 2 → t.stop = (takeCause cause s).stop ∧ t.pins = (takeCause cause s).pins ∧
          t.take = (takeCause cause s).take ∧ t.store = (takeCause cause s).store ∧
          t.cond = (takeCause cause s).cond ∧ t.capture = (takeCause cause s).capture ∧
          (s.mode.mode = .live → s.stop.fault = none →
            ∃ r, t.stop.fault = some r ∧ r.cause.name = .feedbackLost)))))

/-- R152 to R155, R166, R167, R174, R176, R177: a good return matched to the k-th entry of the list: the entries ahead
of it are lost, each answered by a constructed return, then the return is forwarded under its entry's cycle number, tag
and reply with its tracking record; every channel's feedback, presence and drive status are the slot's, the head and
the zones are evaluated for its frame, a verify pass ends where R62 says, and no frame is originated. A zone newly in
its stop band stops a LIVE crane, and where nothing was raised before it its ZONE_STOP is the cause of an empty fault
record (R57). Each lens channel's feedback is mapped back (R95) and the stall test made (R102), after a loss has
emptied its window and a drop has ended its calibration. The Capture Unit's SLOW_ENTER and FEEDBACK_CROSSES tests are
made at it (R158, R159), with the return's part counter value. A return that matches none leaves the list, the
feedback, the head and the zones as they were. A SEQUENCE error is counted for a return that passes entries over, that
matches none or that is of another kind, a CRC error for a bad one of valid groups; these two are discarded. The
model's choices are that a level seen on a crew line is one that has held for 50 µs (log entry 19) and that a return at
a receiver in UNSYNC still has its crew lines seen (log entry 21). -/
def Obligations.ReturnsMatched : Prop :=
  (∀ (elapsed : Nat) (crew : Vector LineSample 4) (bytes : List Byte) (s : State),
    s.link.portD.rx.sync ≠ .unsync → bytes.length = 160 → crc32 (bytes.take 156) = wordAt bytes 156 →
    byteAt bytes 0 = 0x03 →
    let rx := frameTaken true s.link.portD.rx
    ∃ t, exec (.returnArrival elapsed crew true bytes) s = .next t ∧
      t.pending = s.pending ∧ t.timer = s.timer + elapsed ∧ t.service = s.service ∧
      t.link.portC = s.link.portC ∧ t.link.part = s.link.part ∧ t.link.readyD = s.link.readyD ∧
      (∀ k : Fin 4, t.pins.crewSeen[k] =
        if 50 ≤ (crew[k]).heldFor then (crew[k]).asserted else s.pins.crewSeen[k]) ∧
      ((∀ e ∈ s.link.inFlight, e.part.setWidth 16 ≠ halfAt bytes 2) →
        t.link = { s.link with portD := { (portError .d .sequence s).link.portD with rx := rx } } ∧
        t.geo = s.geo ∧ t.zone = s.zone ∧
        ∀ n : Fin 12, (t.cond.chans[n]).feedback = (s.cond.chans[n]).feedback ∧
          (t.cond.chans[n]).present = (s.cond.chans[n]).present ∧
          (t.cond.chans[n]).outPos = (s.cond.chans[n]).outPos) ∧
      (s.capture.state ≠ .armed → t.capture = s.capture) ∧
      (∀ c, s.capture.condition = some c → c.kind ≠ .anyStop → c.kind ≠ .feedbackCrosses → c.kind ≠ .slowEnter →
        t.capture = s.capture) ∧
      ((∀ e ∈ s.link.inFlight, e.part.setWidth 16 ≠ halfAt bytes 2) →
        ∀ c, s.capture.condition = some c → c.kind ≠ .anyStop → t.capture = s.capture) ∧
      (∀ ahead e rest, s.link.inFlight = ahead ++ e :: rest → e.part.setWidth 16 = halfAt bytes 2 →
        (∀ a ∈ ahead, a.part.setWidth 16 ≠ halfAt bytes 2) →
        t.link.inFlight = rest ∧ t.link.lossCount = 0 ∧ t.link.feedbackLost = false ∧
        t.link.portD = { (if ahead = [] then s.link.portD else (portError .d .sequence s).link.portD) with rx := rx } ∧
        (s.link.totalLost ≤ 65535 → t.link.totalLost = min (s.link.totalLost + ahead.length) 65535) ∧
        (∃ lost f, t.link.sentC = s.link.sentC ++ (lost ++ [f]) ∧
          List.Forall₂ (staleReturn s.link.offset) ahead lost ∧ headedFor s.link.offset e f ∧
          f.flags = byteAt bytes 1 ∧ f.timecode = wordAt bytes 4 ∧
          (∀ n : Fin 12, f.slots[n] = { flag := byteAt bytes (8 + 5 * n), value := wordAt bytes (9 + 5 * n) }) ∧
          carriesReply e.service f.service ∧ tracks t.capture.embed (trackedFields e t) f.tracking) ∧
        t.geo = evaluateHead t.cond.chans e.part s.geo ∧
        t.zone = verifyStep e.part (formScale t.geo (sampleCrew t.pins.crewSeen (exchangeBanks s.zone))) ∧
        (t.zone.cursor = .header → t.zone.pass = .pass → t.mode.verified = true) ∧
        (t.zone.cursor = .header → t.zone.pass = .mismatch → s.mode.mode = .live → t.stop.safety = .dropped) ∧
        (let stops := zoneStops t.geo (sampleCrew t.pins.crewSeen (exchangeBanks s.zone))
         let quiet : Prop := ahead = [] ∧ ∀ n : Fin 12,
          (s.cond.chans[n]).desc.cls ≠ .unused → (e.outputs[n]).enable = true →
            ((s.cond.chans[n]).desc.followLimit = 0 ∨ (e.outputs[n]).calibrated = true ∨
              ((e.outputs[n]).value - (wordAt bytes (9 + 5 * n)).toInt).natAbs ≤ (s.cond.chans[n]).desc.followLimit) ∧
            ((byteAt bytes (8 + 5 * n)).extractLsb' 4 4 = (1 : BitVec 4) ∨
              (byteAt bytes (8 + 5 * n)).extractLsb' 4 4 = (2 : BitVec 4))
         (stops ≠ [] → s.mode.mode = .live → t.stop.safety ≠ .normal) ∧
         (stops ≠ [] → s.mode.mode ≠ .parked → t.stop.fault ≠ none) ∧
         (∀ c more, stops = c :: more → quiet → s.mode.mode ≠ .parked → s.stop.fault = none →
          ∃ r, t.stop.fault = some r ∧ r.cause = c ∧ r.mode = s.mode.mode ∧ r.safety = s.stop.safety ∧
            min more.length 255 ≤ r.laterCount) ∧
         (stops = [] → quiet → ¬ (t.zone.cursor = .header ∧ t.zone.pass = .mismatch) → t.stop = s.stop) ∧
         (∀ c, s.capture.condition = some c → c.kind = .slowEnter →
          ∃ take : TakeEngine, (take = s.take ∨ take = t.take) ∧ (quiet → take = s.take) ∧
            testedFor .slowEnter take.play.state
              (fun _ => if s.zone.scale = 256 ∧ t.zone.scale < 256 then some (.number t.zone.scale) else none)
              e.part (latestTimecode s) { t with take := take, capture := s.capture } t.capture)) ∧
        (∀ c, s.capture.condition = some c → c.kind = .feedbackCrosses →
          t.capture = (testCrossing .feedbackCrosses t.take.play.state (fun n => (t.cond.chans[n]).feedback) e.part
            (latestTimecode s) { t with capture := s.capture }).capture) ∧
        (∀ n : Fin 12,
          let l := if ahead = [] then s.lens[n] else windowEmptied s.lens[n]
          let l := if t.stop.safety = .dropped ∧ s.stop.safety ≠ .dropped then calibrationFailed .dropped l else l
          t.lens[n] = stallStep e.part t.cond.chans[n] (feedbackMapped t.cond.chans[n] l)) ∧
        ∀ n : Fin 12,
          (t.cond.chans[n]).feedback = (wordAt bytes (9 + 5 * n)).toInt ∧
          (t.cond.chans[n]).status = (byteAt bytes (8 + 5 * n)).extractLsb' 4 4 ∧
          ((t.cond.chans[n]).present = true ↔ (byteAt bytes (8 + 5 * n)).extractLsb' 4 4 ≠ (0 : BitVec 4)) ∧
          (t.cond.chans[n]).desc = (s.cond.chans[n]).desc ∧
          (t.cond.chans[n]).outPos =
            if s.mode.mode = .parked ∧ (s.cond.chans[n]).desc.cls ≠ .unused then (wordAt bytes (9 + 5 * n)).toInt
            else (s.cond.chans[n]).outPos)) ∧
  (∀ (elapsed : Nat) (crew : Vector LineSample 4) (clean : Bool) (bytes : List Byte) (s : State),
    let whole : Prop := bytes.length = 160 ∧ crc32 (bytes.take 156) = wordAt bytes 156
    let seen : State := { s with
      timer := s.timer + elapsed
      pins := { s.pins with crewSeen := Vector.ofFn fun k : Fin 4 =>
        if 50 ≤ (crew[k]).heldFor then (crew[k]).asserted else s.pins.crewSeen[k] } }
    (s.link.portD.rx.sync = .unsync → exec (.returnArrival elapsed crew clean bytes) s = .next seen) ∧
    (s.link.portD.rx.sync ≠ .unsync → clean = false ∨ ¬ whole ∨ byteAt bytes 0 ≠ 0x03 →
      let counted := if clean = false then seen
        else if whole then portError .d .sequence seen else portError .d .crc seen
      exec (.returnArrival elapsed crew clean bytes) s = .next
        { counted with link := { counted.link with portD :=
          { counted.link.portD with rx := frameTaken (decide (clean = true ∧ whole)) s.link.portD.rx } } }))

/-- R174, R175 with R68: a matched return of a frame sent with ENABLE, whether it passes entries over or not, whose
channel is beyond its follow_limit outside a calibration, or whose drive status is neither READY nor NOT_READY, drops
the drives of a LIVE crane. -/
def Obligations.ReturnChecksDrop : Prop :=
  ∀ (elapsed : Nat) (crew : Vector LineSample 4) (bytes : List Byte) (s t : State) (e : InFlight)
    (ahead rest : List InFlight) (n : Fin 12),
    s.link.portD.rx.sync ≠ .unsync → bytes.length = 160 → crc32 (bytes.take 156) = wordAt bytes 156 →
    byteAt bytes 0 = 0x03 → s.link.inFlight = ahead ++ e :: rest → e.part.setWidth 16 = halfAt bytes 2 →
    (∀ a ∈ ahead, a.part.setWidth 16 ≠ halfAt bytes 2) →
    LinesFollow s → s.mode.mode = .live → (s.cond.chans[n]).desc.cls ≠ .unused → (e.outputs[n]).enable = true →
    (((s.cond.chans[n]).desc.followLimit ≠ 0 ∧ (e.outputs[n]).calibrated = false ∧
        (s.cond.chans[n]).desc.followLimit < ((e.outputs[n]).value - (wordAt bytes (9 + 5 * n)).toInt).natAbs) ∨
      ((byteAt bytes (8 + 5 * n)).extractLsb' 4 4 ≠ (1 : BitVec 4) ∧
        (byteAt bytes (8 + 5 * n)).extractLsb' 4 4 ≠ (2 : BitVec 4))) →
    exec (.returnArrival elapsed crew true bytes) s = .next t →
    t.stop.safety = .dropped ∧ t.mode.mode = .live ∧ t.pins.estopOutClosed = false ∧ t.pins.brakeReleased = false ∧
    t.stop.fault ≠ none

/-- R176, R177: RETURN_TIMEOUT and FEEDBACK_LOST at the moment the oldest entry times out: every entry as old is lost
and counted and answered on port C by its constructed return, the stall windows are emptied, and a third loss in a row
sets the feedback-lost flag and raises FEEDBACK_LOST; with an empty list, or for FEEDBACK_LOST after another number of
losses, nothing (log entries 16 and 17). That an entry is lost at equality of its age and the return timeout is read
from the spec by inference (log entry 34). -/
def Obligations.EntriesTimeOut : Prop :=
  ∀ s : State,
    let cause : Cause := { name := .feedbackLost, channel := none, zone := none, value := none }
    (s.link.inFlight = [] → exec .returnTimeout s = .next s ∧ exec .feedbackLost s = .next s) ∧
    (∀ e rest, s.link.inFlight = e :: rest →
      let now := max s.timer (e.sendTime + s.link.returnTimeout)
      let old (x : InFlight) : Bool := decide (x.sendTime + s.link.returnTimeout ≤ now)
      (∃ t lost, exec .returnTimeout s = .next t ∧ t.pending = s.pending ∧ t.timer = now ∧
        t.service = s.service ∧ t.geo = s.geo ∧ t.zone = s.zone ∧
        t.link.inFlight.length ≤ rest.length ∧
        List.Forall₂ (staleReturn s.link.offset) (s.link.inFlight.takeWhile old) lost ∧
        (let third : Prop := s.link.lossCount < 3 ∧ 3 ≤ s.link.lossCount + lost.length
         t.link = { s.link with
          inFlight := s.link.inFlight.dropWhile old, lossCount := min (s.link.lossCount + lost.length) 255
          feedbackLost := s.link.feedbackLost || decide third
          totalLost := min (s.link.totalLost + lost.length) 65535, armingLoss := true
          sentC := s.link.sentC ++ lost } ∧
         (third → t.stop = (takeCause cause s).stop ∧ t.pins = (takeCause cause s).pins ∧
          t.take = (takeCause cause s).take ∧ t.store = (takeCause cause s).store ∧ t.cond = (takeCause cause s).cond) ∧
         (¬ third → t.stop = s.stop ∧ t.pins = s.pins ∧ t.take = s.take ∧ t.store = s.store ∧ t.cond = s.cond)) ∧
        ∀ n : Fin 12, t.lens[n] = windowEmptied s.lens[n]) ∧
      (s.link.lossCount ≠ 2 → exec .feedbackLost s = .next s) ∧
      (s.link.lossCount = 2 → ∃ t f, exec .feedbackLost s = .next t ∧ t.pending = s.pending ∧ t.timer = now ∧
        t.service = s.service ∧ t.geo = s.geo ∧ t.zone = s.zone ∧
        t.link = { s.link with
          inFlight := rest, lossCount := 3, feedbackLost := true
          totalLost := min (s.link.totalLost + 1) 65535, armingLoss := true, sentC := s.link.sentC ++ [f] } ∧
        staleReturn s.link.offset e f ∧ tracks t.capture.embed (trackedFields e t) f.tracking ∧
        t.stop = (takeCause cause s).stop ∧ (∀ n : Fin 12, t.lens[n] = windowEmptied s.lens[n]) ∧
        (s.mode.mode = .live → s.stop.fault = none →
          ∃ r, t.stop.fault = some r ∧ r.cause.name = .feedbackLost)))

/-! ## Recording -/

/-- R133: RECORD by its conditions in their order; an accepted one takes the lowest EMPTY entry and arms the
recording, and nothing else changes. -/
def Obligations.RecordTaken : Prop :=
  ∀ (tag : Byte) (take mask : Half) (s : State), tag ≠ 0 →
    let run := exec (.record tag take mask) s
    let legal : Prop := 1 ≤ take.toNat ∧ take.toNat ≤ 9999 ∧ mask ≠ 0 ∧ mask.toNat < 4096 ∧
      ∀ n : Fin 12, mask.getLsbD n.val = true → (s.cond.chans[n]).desc.cls ≠ .unused
    let synced : Prop := s.take.ref.required = false ∨ s.take.ref.sync = .locked
    let room : Prop := (∃ i : Fin 32, (s.store.dir[i]).state = .empty) ∧ s.store.free ≠ []
    let taken : Prop := ∃ i : Fin 32, (s.store.dir[i]).state ≠ .empty ∧ (s.store.dir[i]).take = take.toNat
    (s.mode.mode = .arming → run = replied tag 0x30 .refusedBusy s) ∧
    (s.mode.mode = .parked ∨ (s.mode.mode = .live ∧ s.stop.safety ≠ .normal) →
      run = replied tag 0x30 .refusedMode s) ∧
    (s.mode.mode = .live → s.stop.safety = .normal →
      (¬ legal → run = replied tag 0x30 .badParam s) ∧
      (legal → s.store.state = .unformatted → run = replied tag 0x30 .refusedCondition s) ∧
      (legal → s.store.state = .formatting → run = replied tag 0x30 .refusedBusy s) ∧
      (legal → s.store.state = .ready → ¬ synced → run = replied tag 0x30 .refusedCondition s) ∧
      (legal → s.store.state = .ready → synced →
        (s.take.recording.state ≠ .idle → run = replied tag 0x30 .refusedBusy s) ∧
        (s.take.recording.state = .idle →
          (¬ room → run = replied tag 0x30 .noSpace s) ∧
          (room → taken → run = replied tag 0x30 .badParam s) ∧
          (room → ¬ taken →
            (s.pins.supplyWarn = true → run = replied tag 0x30 .refusedSupply s) ∧
            (s.pins.supplyWarn = false → ∃ (i : Fin 32) (ids : Vector Nat 12),
              (s.store.dir[i]).state = .empty ∧
              (∀ j : Fin 32, j < i → (s.store.dir[j]).state ≠ .empty) ∧
              (∀ n : Fin 12, ids[n] =
                if mask.getLsbD n.val = true ∧ (s.cond.chans[n]).desc.cls = .lens then
                  (match (s.lens[n]).active with
                    | none => 0
                    | some m => m.mapId)
                else 0) ∧
              run = replied tag 0x30 .accepted
                { s with
                  store := withEntry s.store i
                    { emptyEntry with
                      state := .recording, take := take.toNat, mask := mask.setWidth 12, mapIds := ids
                      cyclesPerFrame := s.take.ref.cyclesPerFrame
                      perBlock := 16368 / (4 + 4 *
                        ((List.finRange 12).filter fun n => mask.getLsbD n.val).length) }
                  take := { s.take with
                    recording :=
                      { state := .recordArmed, entry := i, take := take.toNat, mask := mask.setWidth 12
                        endRequested := false, index := 0 } } })))))

/-- R122, R135, R136, R137: MARK and RECORD_END by the record state; a mark is the record index, added once and at most
16 times; a recording ends at once at a positive multiple of cycles_per_frame, its entry COMPLETE and its last block
closed with every other byte of the memory as it was, and is asked to end elsewhere. -/
def Obligations.MarkAndEndTaken : Prop :=
  ∀ (tag : Byte) (s : State), served tag s →
    let r := s.take.recording
    let e : DirEntry := s.store.dir[r.entry]
    (r.state = .idle → exec (.mark tag) s = replied tag 0x32 .refusedMode s ∧
      exec (.recordEnd tag) s = replied tag 0x31 .refusedMode s) ∧
    (r.state ≠ .idle →
      (r.index ∈ e.marks → exec (.mark tag) s = replied tag 0x32 .ok s) ∧
      (r.index ∉ e.marks → 16 ≤ e.marks.length → exec (.mark tag) s = replied tag 0x32 .noSpace s) ∧
      (r.index ∉ e.marks → e.marks.length < 16 →
        exec (.mark tag) s = replied tag 0x32 .ok
          { s with store := withEntry s.store r.entry { e with marks := e.marks ++ [r.index] } })) ∧
    (r.state = .recordArmed → exec (.recordEnd tag) s = replied tag 0x31 .ok
      { s with
        store := withEntry s.store r.entry emptyEntry
        take := { s.take with recording := idleRecording } }) ∧
    (r.state = .recording →
      let whole : Prop := 0 < r.index ∧ r.index % s.take.ref.cyclesPerFrame = 0
      (¬ whole → exec (.recordEnd tag) s = replied tag 0x31 .accepted
        { s with take := { s.take with recording := { r with endRequested := true } } }) ∧
      (whole → ∃ u : TakeStore,
        exec (.recordEnd tag) s = replied tag 0x31 .ok
          { s with store := u, take := { s.take with recording := idleRecording } } ∧
        recordingEnded r.entry e.interrupted s.store u))

/-- R110, R121, R122: a record appended inside a block of a take whose records fill whole words is in the memory at the
place its index gives it, each of its words with its check bits, and every byte of the memory outside it, and every
other word's check bits, read as before. A record of any size is stored behind the half word that was held, the whole
words written and a last half word held. A record that needs another block closes the last one and takes the free list's
head; where the list is empty the last block is closed and nothing is stored. R134, R136, R138: a recording frame
appends its flags, its phase and the masked channels' outputs, and then goes on, ends as it was asked to, or ends
TRUNCATED. -/
def Obligations.RecordsStoredInPlace : Prop :=
  (∀ (i : Fin 32) (bytes : List Byte) (timecode : Word) (st : TakeStore),
    let e : DirEntry := st.dir[i]
    let size := recordSize e.mask
    bytes.length = size → size % 8 = 0 → st.heldWord = none → 0 < e.perBlock →
    e.blocks ≠ [] → e.length < e.blocks.length * e.perBlock → (e.blocks.length - 1) * e.perBlock ≤ e.length →
    let at' := e.blocks.getLastD 0 * 16384 + 16 + e.length % e.perBlock * size
    let u := appendRecord i bytes timecode st
    u.2 = true ∧
    (∀ k, k < size → memRead u.1.mem (at' + k) = some (byteAt bytes k)) ∧
    (∀ a, a < at' ∨ at' + size ≤ a → memRead u.1.mem a = memRead st.mem a) ∧
    (∀ k, k < size / 8 → memRead u.1.check (at' / 8 + k) =
      some (Config.checkBits (wordOf ((bytes.drop (8 * k)).take 8)))) ∧
    (∀ w, w < at' / 8 ∨ at' / 8 + size / 8 ≤ w → memRead u.1.check w = memRead st.check w) ∧
    u.1 = { withEntry st i
        { e with
          startTimecode := if e.length = 0 then timecode else e.startTimecode, length := e.length + 1 } with
      mem := u.1.mem, check := u.1.check }) ∧
  (∀ (i : Fin 32) (bytes : List Byte) (timecode : Word) (st : TakeStore),
    let e : DirEntry := st.dir[i]
    let size := recordSize e.mask
    let at' := e.blocks.getLastD 0 * 16384 + 16 + e.length % e.perBlock * size
    let kept := match st.heldWord with
      | none => []
      | some x => x.2
    bytes.length = size → 0 < e.perBlock →
    e.blocks ≠ [] → e.length < e.blocks.length * e.perBlock → (e.blocks.length - 1) * e.perBlock ≤ e.length →
    (∀ x, st.heldWord = some x → x.1 = at' - 4 ∧ x.2.length = 4) → (at' - kept.length) % 8 = 0 →
    let start := at' - kept.length
    let stream := kept ++ bytes
    let whole := stream.length / 8 * 8
    let u := appendRecord i bytes timecode st
    u.2 = true ∧
    (∀ k, k < whole → memRead u.1.mem (start + k) = some (byteAt stream k)) ∧
    (∀ a, a < start ∨ start + whole ≤ a → memRead u.1.mem a = memRead st.mem a) ∧
    (∀ k, k < whole / 8 → memRead u.1.check (start / 8 + k) =
      some (Config.checkBits (wordOf ((stream.drop (8 * k)).take 8)))) ∧
    (∀ w, w < start / 8 ∨ start / 8 + whole / 8 ≤ w → memRead u.1.check w = memRead st.check w) ∧
    u.1 = { withEntry st i
        { e with
          startTimecode := if e.length = 0 then timecode else e.startTimecode, length := e.length + 1 } with
      mem := u.1.mem, check := u.1.check
      heldWord := if whole = stream.length then none else some (start + whole, stream.drop whole) }) ∧
  (∀ (i : Fin 32) (bytes : List Byte) (timecode : Word) (st : TakeStore),
    let e : DirEntry := st.dir[i]
    e.length = e.blocks.length * e.perBlock →
    (st.free = [] → ∃ v : TakeStore, appendRecord i bytes timecode st = (v, false) ∧ lastBlockClosed 0xFFFF e st v ∧
      v = { st with mem := v.mem, check := v.check, heldWord := none }) ∧
    (∀ b rest, st.free = b :: rest → 0 < e.perBlock → ∃ v : TakeStore, lastBlockClosed b e st v ∧
      v = { withEntry st i { e with blocks := e.blocks ++ [b] } with
        free := rest, mem := v.mem, check := v.check, heldWord := none } ∧
      appendRecord i bytes timecode st = appendRecord i bytes timecode v)) ∧
  (∀ (pl : Placement) (timecode : Word) (s : State),
    let g := s.take.recording
    let e : DirEntry := s.store.dir[g.entry]
    let flags : Byte := (if pl.start ≠ .none then 1 else 0) + (if pl.slip = true then 2 else 0) +
      (if g.index ∈ e.marks then 4 else 0)
    let bytes := [flags, BitVec.ofNat 8 pl.phase, 0, 0] ++
      ((List.finRange 12).filter fun n => e.mask.getLsbD n.val).flatMap fun n =>
        let c : Channel := s.cond.chans[n]
        coded 4 (if c.desc.cls = .lens then c.eng else c.outPos)
    let u := appendRecord g.entry bytes timecode s.store
    let t := appendFrame false pl timecode s
    let ends : Prop := g.endRequested = true ∧ (g.index + 1) % s.take.ref.cyclesPerFrame = 0
    (g.state ≠ .recording → t = s) ∧
    (g.state = .recording →
      (u.2 = true → ¬ ends →
        t = { s with store := u.1, take := { s.take with recording := { g with index := g.index + 1 } } }) ∧
      (u.2 = true → ends → t = { s with store := t.store, take := { s.take with recording := idleRecording } } ∧
        recordingEnded g.entry e.interrupted u.1 t.store) ∧
      (u.2 = false → t = { s with store := t.store, take := { s.take with recording := idleRecording } } ∧
        recordingEnded g.entry e.interrupted
          (withEntry u.1 g.entry { u.1.dir[g.entry] with truncated := true }) t.store)))

/-! ## Playback -/

/-- R142: CUE by its conditions in their order; an accepted one enters CUEING at its cue record, begins the prefetch
there and compares the maps: each channel's fallback is ended, its take hold set from its output, and begun, its catch
WAITING, where the take's map differs, and MAP_CHANGED says whether one does; and the zones, the link, the stops and the
recording are as they were. -/
def Obligations.CueTaken : Prop :=
  ∀ (tag : Byte) (take : Half) (mark : Byte) (s : State), tag ≠ 0 →
    let run := exec (.cue tag take mark) s
    let legal : Prop := 1 ≤ take.toNat ∧ take.toNat ≤ 9999 ∧ mark.toNat ≤ 16
    let free : Prop := s.take.recording.state = .idle ∧ s.take.play.state ≠ .cueing ∧ s.take.play.state ≠ .cued ∧
      s.take.play.state ≠ .running
    let isTake (i : Fin 32) : Prop := (s.store.dir[i]).state = .complete ∧ (s.store.dir[i]).take = take.toNat
    let differs (e : DirEntry) (n : Fin 12) : Prop :=
      (s.cond.chans[n]).desc.cls = .lens ∧ e.mask.getLsbD n.val = true ∧
        ((s.cond.chans[n]).source = .take ∨ (s.cond.chans[n]).source = .takeTrim) ∧
        ∀ m, (s.lens[n]).active = some m → m.mapId ≠ e.mapIds[n]
    (s.mode.mode = .arming → run = replied tag 0x34 .refusedBusy s) ∧
    (s.mode.mode = .parked ∨ (s.mode.mode = .live ∧ s.stop.safety ≠ .normal) →
      run = replied tag 0x34 .refusedMode s) ∧
    (s.mode.mode = .live → s.stop.safety = .normal →
      (¬ legal → run = replied tag 0x34 .badParam s) ∧
      (legal → s.store.state = .unformatted → run = replied tag 0x34 .refusedCondition s) ∧
      (legal → s.store.state = .formatting → run = replied tag 0x34 .refusedBusy s) ∧
      (legal → s.store.state = .ready → ¬ free → run = replied tag 0x34 .refusedBusy s) ∧
      (legal → s.store.state = .ready → free →
        ((∀ i, ¬ isTake i) → run = replied tag 0x34 .notFound s) ∧
        (∀ i, isTake i → (∀ j : Fin 32, j < i → ¬ isTake j) →
          let e : DirEntry := s.store.dir[i]
          (e.length = 0 ∨ e.marks.length < mark.toNat → run = replied tag 0x34 .notFound s) ∧
          (0 < e.length → mark.toNat ≤ e.marks.length →
            (s.pins.supplyWarn = true → run = replied tag 0x34 .refusedSupply s) ∧
            (s.pins.supplyWarn = false → ∃ t, run = replied tag 0x34 .accepted t ∧
              t = { s with cond := t.cond, store := { s.store with reading := t.store.reading }, take := t.take } ∧
              t.take.recording = s.take.recording ∧ t.take.ref = s.take.ref ∧
              let p := t.take.play
              p.state = .cueing ∧ p.take = e.take ∧ p.entry = i ∧ p.mask = e.mask ∧ p.cueMark = mark.toNat ∧
              p.cueRecord = (if mark = 0 then 0 else e.marks.getD (mark.toNat - 1) 0) ∧ p.index = p.cueRecord ∧
              p.abort = none ∧ p.lineTrigger = false ∧ p.faultRun = 0 ∧ p.faultTotal = 0 ∧ p.runSlips = 0 ∧
              p.queue = [] ∧
              (s.store.reading = none → p.cueRecord < e.length → ∃ r, t.store.reading = some r ∧
                r.wanted = true ∧ r.index = p.cueRecord ∧ r.header = true ∧ p.nextRead = p.cueRecord + 1) ∧
              (p.mapChanged = true ↔ ∃ n : Fin 12, differs e n) ∧ t.cond.resumeCatch = s.cond.resumeCatch ∧
              ∀ n : Fin 12,
                let c : Channel := s.cond.chans[n]
                let d : Channel := if c.fallback = true then
                    { c with
                      fallback := false
                      takeHold := if c.desc.cls = .lens then engOf s.lens[n] c.outPos else c.outPos }
                  else c
                (differs e n → t.cond.chans[n] = { d with fallback := true, caughtState := .waiting }) ∧
                (¬ differs e n → t.cond.chans[n] = d))))))

/-- R145, R149: GO starts a CUED take outside PARKED while the supply does not warn; ABORT_PLAY ends an active playback
where it is and has no effect on another. -/
def Obligations.GoAndAbortTaken : Prop :=
  ∀ (tag : Byte) (s : State), served tag s →
    let p := s.take.play
    (s.mode.mode = .parked ∨ p.state ≠ .cued → exec (.go tag) s = replied tag 0x36 .refusedMode s) ∧
    (s.mode.mode = .live → p.state = .cued → s.pins.supplyWarn = true →
      exec (.go tag) s = replied tag 0x36 .refusedSupply s) ∧
    (s.mode.mode = .live → p.state = .cued → s.pins.supplyWarn = false →
      exec (.go tag) s = replied tag 0x36 .ok
        { s with take := { s.take with
            play := { p with state := .running, index := p.cueRecord, lineTrigger := false, firstFrame := true } } }) ∧
    (p.state = .idle ∨ p.state = .ended ∨ p.state = .aborted →
      exec (.abortPlay tag) s = replied tag 0x37 .ok s) ∧
    (p.state = .cueing ∨ p.state = .cued ∨ p.state = .running → ∃ chans : Vector Channel 12,
      exec (.abortPlay tag) s = replied tag 0x37 .ok
        { s with
          take := { s.take with
            play := { p with
              state := .aborted, abort := some (p.index, .request), queue := [], lineTrigger := false
              firstFrame := false } }
          store := { s.store with reading := s.store.reading.map fun r => { r with wanted := false } }
          cond := { s.cond with chans := chans } } ∧
      ∀ n : Fin 12,
        let old : Channel := s.cond.chans[n]
        chans[n] =
          if old.source = .take ∨ old.source = .takeTrim then
            { old with takeHold := if old.desc.cls = .lens then engOf s.lens[n] old.outPos else old.outPos }
          else old)

/-- R146 to R148: the take values of a RUNNING frame: the play index rises by one but on the first frame, the record of
that index at the head of what is left of the queue is used where it is good, and any other is a data fault; the third
in a row stops a LIVE crane in NORMAL and aborts the playback. The room this makes in the queue begins the next read
where none is in progress (R147). In CUEING and CUED the cue record's values are supplied once it stands good at the
head of the queue, and nothing before; in every other state nothing is (R15, R143). At a data fault the values of the
latest good record are supplied again, and a MOTION channel of the mask that is on TAKE at that frame, one that has come
to it there too, has its value of them as its take hold and its target (R148). PLAYBACK_DATA is that third fault, and
nothing elsewhere (log entry 17). That the cause is taken before the frame is conditioned (log entry 28), and that its
abort leaves that frame no take values (log entry 54), are the model's reading. -/
def Obligations.RunningFrameSupplied : Prop :=
  (∀ s : State, s.take.play.state ≠ .running →
    let p := s.take.play
    (p.state = .cueing ∨ p.state = .cued →
      (∀ r rest, p.queue = r :: rest → r.index = p.cueRecord → r.good = true →
        supply s = ({ s with take := { s.take with play := { p with latest := some r.values } } }, some r.values)) ∧
      ((∀ r rest, p.queue = r :: rest → r.index ≠ p.cueRecord ∨ r.good = false) → supply s = (s, none))) ∧
    (p.state ≠ .cueing → p.state ≠ .cued → supply s = (s, none))) ∧
  (∀ s : State, s.take.play.state = .running →
    let p := s.take.play
    let e : DirEntry := s.store.dir[p.entry]
    let index := if p.firstFrame then p.index else p.index + 1
    let left := p.queue.dropWhile fun r => decide (r.index < index)
    let good : Prop := ∃ r rest, left = r :: rest ∧ r.index = index ∧ r.good = true
    let queue := match left with
      | [] => []
      | r :: rest => if r.index = index then rest else r :: rest
    let latest := match left with
      | [] => p.latest
      | r :: _ => if r.index = index ∧ r.good = true then some r.values else p.latest
    let more : Prop := s.store.reading = none ∧ p.nextRead < e.length ∧ queue.length < 512
    let cause : Cause :=
      { name := .playbackData, channel := (List.finRange 12).find? fun n => p.mask.getLsbD n.val
        zone := none, value := none }
    ∃ t : State,
      t = { s with
        store := { s.store with reading := t.store.reading }
        take := { s.take with play := { p with
          index := index, firstFrame := false, queue := queue, nextRead := t.take.play.nextRead, latest := latest
          faultRun := t.take.play.faultRun, faultTotal := t.take.play.faultTotal } } } ∧
      (good → t.take.play.faultRun = 0 ∧ t.take.play.faultTotal = p.faultTotal) ∧
      (¬ good → t.take.play.faultRun = p.faultRun + 1 ∧ t.take.play.faultTotal = min (p.faultTotal + 1) 65535) ∧
      (more → t.store.reading = some (nextReadOf p e) ∧ t.take.play.nextRead = p.nextRead + 1) ∧
      (¬ more → t.store.reading = s.store.reading ∧ t.take.play.nextRead = p.nextRead) ∧
      (good ∨ p.faultRun ≠ 2 → supply s = (t, latest)) ∧
      (¬ good → p.faultRun = 2 → (supply s).1 = takeCause cause t ∧
        (supply s).2 = if s.mode.mode = .live ∧ s.stop.safety = .normal then none else p.latest)) ∧
  (∀ s : State, s.take.play.state = .running →
    let p := s.take.play
    let index := if p.firstFrame then p.index else p.index + 1
    let left := p.queue.dropWhile fun r => decide (r.index < index)
    let t := (supply s).1
    t.pending = s.pending ∧ t.link = s.link ∧ t.zone = s.zone ∧ t.geo = s.geo ∧ t.take.play.index = index ∧
    (∀ r rest, left = r :: rest → r.index = index → r.good = true →
      (supply s).2 = some r.values ∧ t.take.play.faultRun = 0 ∧ t.take.play.faultTotal = p.faultTotal ∧
      t.stop = s.stop ∧ t.take.play.queue = rest ∧ t.take.play.latest = some r.values) ∧
    ((∀ r rest, left = r :: rest → r.index ≠ index ∨ r.good = false) →
      t.take.play.latest = p.latest ∧ t.take.play.faultTotal = min (p.faultTotal + 1) 65535 ∧
      t.take.play.faultRun = p.faultRun + 1 ∧
      (p.faultRun ≠ 2 → t.stop = s.stop ∧ (supply s).2 = p.latest) ∧
      (p.faultRun = 2 → s.mode.mode = .live → s.stop.safety = .normal →
        (supply s).2 = none ∧ t.stop.safety = .stopping ∧ t.take.play.state = .aborted ∧
        t.take.play.abort = some (index, .stop)))) ∧
  (∀ (s : State) (values : List Int) (n : Fin 12) (value : Int), s.take.play.state = .running →
    let p := s.take.play
    let index := if p.firstFrame then p.index else p.index + 1
    let left := p.queue.dropWhile fun r => decide (r.index < index)
    let place := ((List.finRange 12).filter fun m => decide (m < n) && p.mask.getLsbD m.val).length
    let d := sourced (condContext s) n s.cond.chans[n] s.lens[n]
    let r := (conditionAll (supply s).2 (supply s).1)[n]
    (∀ q rest, left = q :: rest → q.index ≠ index ∨ q.good = false) → p.faultRun ≠ 2 → p.latest = some values →
    s.mode.mode = .live → s.stop.safety = .normal → p.mask.getLsbD n.val = true → values[place]? = some value →
    d.desc.cls = .motion → d.source = .take → d.fallback = false →
      r.chan.takeHold = value ∧ r.chan.target = value) ∧
  (∀ s : State,
    let p := s.take.play
    let index := if p.firstFrame then p.index else p.index + 1
    let left := p.queue.dropWhile fun r => decide (r.index < index)
    let faulty : Prop := ∀ r rest, left = r :: rest → r.index ≠ index ∨ r.good = false
    (p.state ≠ .running ∨ p.faultRun ≠ 2 ∨ ¬ faulty → exec .playbackData s = .next s) ∧
    (p.state = .running → p.faultRun = 2 → faulty → ∃ t, exec .playbackData s = .next t ∧
      t.pending = s.pending ∧ t.link = s.link ∧ t.zone = s.zone ∧ t.geo = s.geo ∧ t.service = s.service ∧
      t.take.play.faultRun = 3 ∧
      (s.mode.mode = .live → s.stop.safety = .normal →
        t.stop.safety = .stopping ∧ t.take.play.state = .aborted ∧
        (s.stop.fault = none → ∃ r, t.stop.fault = some r ∧ r.cause.name = .playbackData))))

/-! ## The take memory -/

/-- R116, R124: DELETE_TAKE and FORMAT by their conditions in their order; a deleted take's blocks join the tail of
the free list, a format empties the directory, the free list and the bad set. -/
def Obligations.DeleteAndFormatTaken : Prop :=
  ∀ (tag : Byte) (take : Half) (s : State), tag ≠ 0 →
    let p := s.take.play
    let playing : Prop := p.state = .cueing ∨ p.state = .cued ∨ p.state = .running
    let isTake (i : Fin 32) : Prop := (s.store.dir[i]).state ≠ .empty ∧ (s.store.dir[i]).take = take.toNat
    let del := exec (.deleteTake tag take) s
    (s.mode.mode = .arming ∨ s.store.state = .formatting → del = replied tag 0x38 .refusedBusy s) ∧
    (s.mode.mode ≠ .arming → s.store.state ≠ .formatting → take = 0 ∨ 9999 < take.toNat →
      del = replied tag 0x38 .badParam s) ∧
    (s.mode.mode ≠ .arming → s.store.state ≠ .formatting → 1 ≤ take.toNat → take.toNat ≤ 9999 →
      ((∀ i, ¬ isTake i) → del = replied tag 0x38 .notFound s) ∧
      (∀ i, isTake i → (∀ j : Fin 32, j < i → ¬ isTake j) →
        let e : DirEntry := s.store.dir[i]
        (e.state = .recording ∨ (playing ∧ p.take = take.toNat) → del = replied tag 0x38 .refusedBusy s) ∧
        (e.state = .complete → ¬ (playing ∧ p.take = take.toNat) →
          del = replied tag 0x38 .ok
            { s with store := { withEntry s.store i emptyEntry with free := s.store.free ++ e.blocks } }))) ∧
    (s.mode.mode = .arming ∨ s.store.state = .formatting ∨ s.take.recording.state ≠ .idle ∨ playing →
      exec (.format tag) s = replied tag 0x39 .refusedBusy s) ∧
    (s.mode.mode ≠ .arming → s.store.state ≠ .formatting → s.take.recording.state = .idle → ¬ playing →
      exec (.format tag) s = replied tag 0x39 .accepted
        { s with store := { s.store with
            state := .formatting, progress := 0, formatFailed := [], free := [], bad := []
            dir := Vector.replicate 32 emptyEntry, heldWord := none } })

/-- R111 to R113, R117: FORMAT_BLOCK_TESTED outside FORMATTING does nothing; in FORMATTING the block is counted, fails
where one of its words reads DOUBLE or is handed on unlike its pattern, and after block 4,095 the memory is READY with
every block on the free list or in the bad set; the directory, the settings and every other block of the part are kept.
A word reads CLEAN, SINGLE or DOUBLE by how many of its bits are disturbed, SINGLE corrected; each is counted, and the
first one to be reported fills an empty error record. The model's choices are that the tested block's bytes are no
longer listed, the pattern that stands there being free (log entry 8), and that the disturbed bits and the words that
differ come as operands (log entry 20). -/
def Obligations.BlockTested : Prop :=
  (∀ (errors : List WordRead) (differ : List Nat) (s : State),
    (s.store.state ≠ .formatting → exec (.formatBlockTested errors differ) s = .next s) ∧
    (s.store.state = .formatting → ∃ st : TakeStore,
      let w := writePattern s.store.progress s.store
      let errs := errors.filter fun e => decide (e.address / 2048 = s.store.progress)
      let tested := takeErrors .format s.link.part errs w
      exec (.formatBlockTested errors differ) s = .next { s with store := st } ∧
      st.dir = s.store.dir ∧ st.reportSingles = s.store.reportSingles ∧ st.heldWord = s.store.heldWord ∧
      st.reading = s.store.reading ∧ st.progress = s.store.progress + 1 ∧
      st.correctable = tested.correctable ∧ st.uncorrectable = tested.uncorrectable ∧
      st.errRecord = tested.errRecord ∧
      (∀ a, a / 16384 ≠ s.store.progress → memRead st.mem a = memRead s.store.mem a) ∧
      (∀ a, a / 16384 = s.store.progress → memRead st.mem a = none) ∧
      (∀ a, a / 2048 ≠ s.store.progress → memRead st.check a = memRead s.store.check a) ∧
      let fails : Prop :=
        (∃ e ∈ errs, w.classOf e = .double ∨ w.handed e ≠ w.wordData e.address) ∨
        (∃ a ∈ differ, a / 2048 = s.store.progress)
      let failed := if fails then s.store.formatFailed ++ [s.store.progress] else s.store.formatFailed
      (s.store.progress + 1 ≠ 4096 →
        st.state = .formatting ∧ st.formatFailed = failed ∧ st.free = s.store.free ∧ st.bad = s.store.bad) ∧
      (s.store.progress + 1 = 4096 →
        st.state = .ready ∧ st.free.Pairwise (· < ·) ∧ st.bad.Pairwise (· < ·) ∧
        ∀ b, (b ∈ st.bad ↔ b < 4096 ∧ b ∈ failed) ∧ (b ∈ st.free ↔ b < 4096 ∧ b ∉ failed)))) ∧
  (∀ (st : TakeStore) (e : WordRead),
    (disturbed e = 0 → st.classOf e = .clean ∧ st.handed e = st.wordData e.address) ∧
    (disturbed e = 1 → st.classOf e = .single ∧ st.handed e = st.wordData e.address) ∧
    (disturbed e = 2 → st.classOf e = .double) ∧
    (st.classOf e = .clean → st.syndromeOf e = 0 ∧ st.handed e = st.wordData e.address ^^^ e.data)) ∧
  (∀ (reader : MemReader) (part : Word) (errs : List WordRead) (st : TakeStore),
    let t := takeErrors reader part errs st
    let reported (e : WordRead) : Bool :=
      st.classOf e == .double || (st.classOf e == .single && st.reportSingles)
    let anyDouble (es : List WordRead) : Bool := es.any fun e => st.classOf e == .double
    t = { st with correctable := t.correctable, uncorrectable := t.uncorrectable, errRecord := t.errRecord } ∧
    (st.correctable ≤ 65535 →
      t.correctable = min (st.correctable + errs.countP fun e => st.classOf e == .single) 65535) ∧
    (st.uncorrectable ≤ 65535 →
      t.uncorrectable = min (st.uncorrectable + errs.countP fun e => st.classOf e == .double) 65535) ∧
    (∀ r, st.errRecord = some r → t.errRecord = some { r with
      doubleAfterSingle := r.doubleAfterSingle || (r.kind == .single && anyDouble errs) }) ∧
    (st.errRecord = none →
      ((∀ e ∈ errs, reported e = false) → t.errRecord = none) ∧
      ∀ before e after, errs = before ++ e :: after → (∀ x ∈ before, reported x = false) → reported e = true →
        t.errRecord = some
          { address := e.address, syndrome := st.syndromeOf e, kind := st.classOf e, reader := reader, part := part
            doubleAfterSingle := st.classOf e == .single && anyDouble after }))

/-- R121, R123, R143, R147: PREFETCH_READ_COMPLETE with no read in progress does nothing; a read no longer wanted is
discarded; a wanted one joins the tail of the queue, good where neither its block's header nor its words are bad and bad
elsewhere, with its header items and the values as the words were handed on; but a cue record delivered bad aborts the
cue with reason DATA. A bad record marks its COMPLETE take DAMAGED. After a delivery that leaves the playback active,
with an index left and room in the queue, the read of that index begins, in the block and at the place that its index
gives it; else none is in progress. That a read completes in any state of the memory is the model's choice (log entry
57). -/
def Obligations.PrefetchDelivers : Prop :=
  ∀ (errors : List WordRead) (s : State),
    (s.store.reading = none → exec (.prefetchReadComplete errors) s = .next s) ∧
    (∀ r, s.store.reading = some r → ∃ t, exec (.prefetchReadComplete errors) s = .next t ∧
      let p := s.take.play
      let start := r.block * 16384 + 16 + r.position * r.size
      let inHeader (a : Nat) : Prop := r.block * 2048 ≤ a ∧ a < r.block * 2048 + 2
      let inRecord (a : Nat) : Prop := start / 8 ≤ a ∧ a ≤ (start + r.size - 1) / 8
      let errs := errors.filter fun e => decide (inRecord e.address ∨ (r.header = true ∧ inHeader e.address))
      let double (q : Nat → Prop) : Prop := ∃ e ∈ errs, s.store.classOf e = .double ∧ q e.address
      let blockBad : Prop :=
        if r.header = true then
          double inHeader ∨ s.store.readBytes errs (r.block * 16384) 8 ≠
            u16 r.take ++ (u16 r.sequence ++ (u16 r.recordCount ++ u16 r.nextBlock))
        else s.store.blockBad = true
      let bad : Prop := blockBad ∨ double inRecord
      let flags := s.store.readByte errs start
      let q : QueuedRecord :=
        { index := r.index, good := decide (¬ bad)
          frameStart := flags.getLsbD 0, slip := flags.getLsbD 1, marked := flags.getLsbD 2
          phase := (s.store.readByte errs (start + 1)).toNat
          values := (List.range ((List.finRange 12).filter fun n => r.mask.getLsbD n.val).length).map fun k =>
            (wordAt (s.store.readBytes errs (start + 4 + 4 * k) 4) 0).toInt }
      let cueFails : Prop := p.state = .cueing ∧ r.index = p.cueRecord ∧ bad
      let counted := takeErrors .playback s.link.part errs s.store
      t = { s with cond := t.cond, store := t.store, take := { s.take with play := t.take.play } } ∧
      t.store = { s.store with
        correctable := counted.correctable, uncorrectable := counted.uncorrectable, errRecord := counted.errRecord
        blockBad := decide blockBad, reading := t.store.reading
        dir :=
          if bad ∧ (s.store.dir[r.entry]).state = .complete ∧ (s.store.dir[r.entry]).take = r.take then
            s.store.dir.set r.entry.val { s.store.dir[r.entry] with damaged := true } r.entry.isLt
          else s.store.dir } ∧
      (r.wanted = false → t.cond = s.cond ∧ t.take.play = { p with nextRead := t.take.play.nextRead }) ∧
      (r.wanted = true → ¬ cueFails → t.cond = s.cond ∧
        t.take.play = { p with queue := p.queue ++ [q], nextRead := t.take.play.nextRead }) ∧
      (¬ (r.wanted = true ∧ cueFails) →
        let e : DirEntry := s.store.dir[p.entry]
        let queue := if r.wanted = true then p.queue ++ [q] else p.queue
        let more : Prop := (p.state = .cueing ∨ p.state = .cued ∨ p.state = .running) ∧ p.nextRead < e.length ∧
          queue.length < 512
        (¬ more → t.store.reading = none ∧ t.take.play.nextRead = p.nextRead) ∧
        (more → t.take.play.nextRead = p.nextRead + 1 ∧ t.store.reading = some (nextReadOf p e))) ∧
      (r.wanted = true → cueFails → t.store.reading = none ∧
        t.take.play = { p with
          state := .aborted, abort := some (p.index, .data), queue := [], lineTrigger := false
          firstFrame := false }))

/-! ## The reference and the lines -/

/-- R128: a pulse that has held for the filter time of R202 sets the pulse-seen flag, and a second one before the next
frame has no further effect. -/
def Obligations.RefPulseSetsFlag : Prop :=
  ∀ (held : Nat) (s : State),
    (1 ≤ held → exec (.refPulse held) s =
      .next { s with take := { s.take with ref := { s.take.ref with pulseSeen := true } } }) ∧
    (held = 0 → exec (.refPulse held) s = .next s) ∧
    (1 ≤ held → s.take.ref.pulseSeen = true → exec (.refPulse held) s = .next s)

/-- R129, R130: the placement of an outbound frame: phase, frame-start kind, distance, frames since pulse, and the sync
state by the rows of the table, with the slip it finds. That the distance of a frame start is the phase before it plus
one, at most 255, is read from the spec by inference (log entry 14). A placement made ahead of the frame is the frame's
(log entry 3); a slip goes to what runs before the frame starts anything (log entries 25 and 53). R134, R145: a
frame-start period, and no other frame, makes an armed recording RECORDING, and starts a CUED take at its cue record
where the trigger kind is TIMECODE and the frame's timecode is the trigger's, or the kind is LINE and the line-trigger
flag is set. -/
def Obligations.FramesPlaced : Prop :=
  (∀ s : State,
    (s.take.placed = none → placeFrame s = (placedNext s, nextPlacement s.take.ref)) ∧
    (∀ pl, s.take.placed = some pl → placeFrame s = ({ s with take := { s.take with placed := none } }, pl))) ∧
  (∀ (request : State → State) (timecode : Word) (s : State),
    let u := placeFrame s
    let t := placeOutbound request timecode s
    let g := u.1.take.recording
    let p := u.1.take.play
    let starts : Prop := u.2.start ≠ .none
    let triggered : Prop := p.state = .cued ∧
      ((u.1.take.trigger = .timecode ∧ timecode = u.1.take.triggerTimecode) ∨
        (u.1.take.trigger = .line ∧ p.lineTrigger = true))
    t.2 = u.2 ∧ (¬ starts → t.1 = u.1) ∧
    t.1 = { u.1 with
      capture := t.1.capture
      take := { u.1.take with
        recording := if starts ∧ g.state = .recordArmed then { g with state := .recording } else g
        play :=
          if starts ∧ triggered then
            { p with state := .running, index := p.cueRecord, lineTrigger := false, firstFrame := true }
          else p } }) ∧
  (∀ r : Reference,
    let n := r.cyclesPerFrame
    let u := placeReference r
    let start : FrameStart := if r.pulseSeen then .pulse else if n ≤ r.phase + 1 then .flywheel else .none
    let distance := if start = .none then r.distance else min (r.phase + 1) 255
    let since := if start = .pulse then 0 else min (r.sincePulse + 1) (2 * n)
    let lost : Prop := r.sync ≠ .noRef ∧ since = 2 * n
    let good : Prop := start = .pulse ∧ distance = n
    let slip : Prop := ¬ lost ∧ r.sync = .locked ∧ start ≠ .none ∧ ¬ good
    u.1.startKind = start ∧ u.1.phase = (if start = .none then r.phase + 1 else 0) ∧ u.1.distance = distance ∧
    u.1.sincePulse = since ∧ u.1.pulseSeen = false ∧ u.1.cyclesPerFrame = n ∧ u.1.required = r.required ∧
    u.1.lastStart = (if start = .none then r.lastStart else start) ∧
    (u.2 = true ↔ slip) ∧
    (slip → u.1.slips = min (r.slips + 1) 65535 ∧ u.1.sync = .measuring ∧ u.1.goodRun = 0) ∧
    (¬ slip → u.1.slips = r.slips) ∧
    (lost → u.1.sync = .noRef ∧ u.1.goodRun = 0) ∧
    (¬ lost → r.sync = .noRef → u.1.sync = (if start = .pulse then .measuring else .noRef) ∧
      u.1.goodRun = (if start = .pulse then 0 else r.goodRun)) ∧
    (¬ lost → r.sync = .measuring →
      (good → r.lastStart = .pulse → u.1.goodRun = min (r.goodRun + 1) 3 ∧
        u.1.sync = (if r.goodRun + 1 < 3 then .measuring else .locked)) ∧
      (start ≠ .none → ¬ (good ∧ r.lastStart = .pulse) → u.1.goodRun = 0 ∧ u.1.sync = .measuring) ∧
      (start = .none → u.1.goodRun = r.goodRun ∧ u.1.sync = .measuring)) ∧
    (¬ lost → r.sync = .locked → ¬ slip → u.1.sync = .locked ∧ u.1.goodRun = r.goodRun))

/-- The model's choice (log entries 3 and 17): FLYWHEEL_FRAME_START and REF_LOST place the next frame ahead of it where
R129 and R130 give that placement, and the frame then takes that placement; elsewhere nothing. A slip is handed to the
recording and counted in the running slips of a RUNNING playback (R130, R138); nothing else changes. -/
def Obligations.PlacedAhead : Prop :=
  ∀ (s : State) (i : Instr), i = .flywheelFrameStart ∨ i = .refLost →
    let u := placeReference s.take.ref
    let due : Prop := s.take.placed = none ∧
      ((i = .flywheelFrameStart ∧ s.take.ref.pulseSeen = false ∧ s.take.ref.cyclesPerFrame ≤ s.take.ref.phase + 1) ∨
        (i = .refLost ∧ s.take.ref.sync ≠ .noRef ∧ u.1.sync = .noRef))
    let pl := nextPlacement s.take.ref
    let t : State := { placedNext s with take := { (placedNext s).take with placed := some pl } }
    (¬ due → exec i s = .next s) ∧ (due → exec i s = .next t ∧ (placeFrame t).2 = pl ∧ (placeFrame t).1.take.ref = u.1)

/-- R80, R83, R84, R145, R202: the events of the lines, each taken only where its level or edge has held for its filter
time, and raising its cause once at each change. -/
def Obligations.LineEventsTaken : Prop :=
  ∀ (held : Nat) (s : State),
    let plain (n : CauseName) : Cause := { name := n, channel := none, zone := none, value := none }
    exec (.estopInOpen held) s = .next
      (if 100 ≤ held ∧ s.pins.estopInClosed = true then
        takeCause (plain .estopChain) { s with pins := { s.pins with estopInClosed := false } } else s) ∧
    exec (.estopInClose held) s = .next
      (if 100 ≤ held then { s with pins := { s.pins with estopInClosed := true } } else s) ∧
    (∀ level : Bool, exec (.supplyWarnChange { asserted := level, heldFor := held }) s = .next
      (if 100 ≤ held then { s with pins := { s.pins with supplyWarn := level } } else s)) ∧
    exec (.supplyFailAssert held) s = .next
      (if 100 ≤ held ∧ s.pins.supplyFail = false then
        takeCause (plain .supplyFail) { s with pins := { s.pins with supplyFail := true } } else s) ∧
    exec (.supplyFailDeassert held) s = .next
      (if 100 ≤ held then { s with pins := { s.pins with supplyFail := false } } else s) ∧
    exec (.triggerEdge held) s = .next
      (if 1 ≤ held ∧ s.take.play.state = .cued ∧ s.take.trigger = .line then
        { s with take := { s.take with play := { s.take.play with lineTrigger := true } } } else s)

/-- R201 with R28, R43, R63, R89, R109, R126, R151, R164, R180, R191, R198, R202: a RESET that holds for 10 µs leaves
every block at its reset values, those that the tables of these rules give; a shorter one is not taken. The model's
choices are that the commands that wait stay (log entry 2), the bytes of the external memory with their check bits (log
entry 8), and the input lines at their levels (log entries 5, 38 and 42). -/
def Obligations.PinResetRestores : Prop :=
  ∀ (held : Nat) (s : State),
    (held < 10 → exec (.pinReset held) s = .next s) ∧
    (10 ≤ held → exec (.pinReset held) s = .next
      { State.reset with
        pending := s.pending
        pins := { s.pins with estopOutClosed := false, brakeReleased := false }
        store := { State.reset.store with mem := s.store.mem, check := s.store.check } }) ∧
  resetTables State.reset

/-! ## Invariants -/

namespace Sys2Proof.Claims

/-- R118: in READY every one of the 4,096 blocks is in exactly one of the free list, one entry's block list and the bad
set; outside READY none is in any. An EMPTY entry holds no block, an armed recording has taken none, and an active
recording's entry is RECORDING in a READY memory. -/
def blocksConserved (s : State) : Prop :=
  (s.store.state = .ready →
    List.Perm (s.store.free ++ ((s.store.dir.toList.flatMap DirEntry.blocks) ++ s.store.bad)) (List.range 4096)) ∧
  (s.store.state ≠ .ready →
    s.store.free = [] ∧ s.store.bad = [] ∧ ∀ i : Fin 32, (s.store.dir[i]).blocks = []) ∧
  (∀ i : Fin 32, (s.store.dir[i]).state = .empty → (s.store.dir[i]).blocks = []) ∧
  (s.take.recording.state ≠ .idle →
    s.store.state = .ready ∧ (s.store.dir[s.take.recording.entry]).state = .recording) ∧
  (s.take.recording.state = .recordArmed → (s.store.dir[s.take.recording.entry]).blocks = [])

/-- R10, R22 to R25, R27, R58: while the crane is ARMING or LIVE every MOTION channel's output lies within its soft
stops, at a velocity of at most vel_max; the speed scale lies within 0 to 256. -/
def motionInside (s : State) : Prop :=
  s.zone.scale ≤ 256 ∧
  (s.mode.mode ≠ .parked → ∀ n : Fin 12,
    let c : Channel := s.cond.chans[n]
    c.desc.cls = .motion → c.desc.posMin ≤ c.outPos ∧ c.outPos ≤ c.desc.posMax ∧ c.outVel.natAbs ≤ c.desc.velMax)

/-- R15, R143, R144, R148: a playback that is CUED or RUNNING has supplied a good record, whose values stand at a data
fault. -/
def takeSupplied (s : State) : Prop :=
  s.take.play.state = .cued ∨ s.take.play.state = .running → s.take.play.latest ≠ none

/-- R2, R173, R176, R187: the staging buffer holds 1,024 bytes; a role that one channel at most may hold is held by one
at most; the in-flight list holds at most 4 entries, and the counts of losses stay in their ranges; the take memory's
two lists, bytes and check bits, keep the model's canonical form (log entry 8). -/
def shaped (s : State) : Prop :=
  s.service.staging.length = 1024 ∧
  (∀ m n : Fin 12, m ≠ n → (s.cond.chans[m]).desc.role = (s.cond.chans[n]).desc.role →
    (s.cond.chans[m]).desc.role = .none ∨ (s.cond.chans[m]).desc.role = .aux ∨
      (s.cond.chans[m]).desc.role = .lensAux) ∧
  ListBounded s ∧ s.link.lossCount ≤ 255 ∧ s.link.totalLost ≤ 65535 ∧ Memory.wf s.store.mem ∧
  Memory.wf s.store.check

end Sys2Proof.Claims

/-- R64, R81: outside LIVE the safety state stays NORMAL, and ESTOP_OUT is closed and BRAKE released exactly while the
mode is ARMING or LIVE and the drives are not dropped: every step keeps both. R139, R149: no step leaves a recording or
a playback active in a crane that is stopping, held, dropped or not LIVE. R143, R144, R148: no step leaves a playback
CUED or RUNNING without a good record supplied, if the one before was not. -/
def Obligations.SafetyLinesAndTakesKept : Prop :=
  (∀ s t : State, SafetyGoverned s → LinesFollow s → step s = .next t → SafetyGoverned t ∧ LinesFollow t) ∧
  (∀ s t : State, TakesQuiet s → step s = .next t → TakesQuiet t) ∧
  (∀ s t : State, takeSupplied s → step s = .next t → takeSupplied t)

/-- R118: every step conserves the blocks. -/
def Obligations.BlocksStayConserved : Prop :=
  ∀ s t : State, blocksConserved s → step s = .next t → blocksConserved t

/-- R10, R23, R24, R27: no step takes a MOTION channel of an ARMING or LIVE crane outside its soft stops or past its
vel_max, or the speed scale past 256. -/
def Obligations.MotionStaysInside : Prop :=
  ∀ s t : State, motionInside s → step s = .next t → motionInside t

/-- R2, R173, R176, R187: every step keeps the staging buffer's length, the single roles, the in-flight list and the
counts of losses in their bounds; and the two lists of the take memory in the model's canonical form, their addresses
strictly rising (log entry 8). -/
def Obligations.ShapeKept : Prop := ∀ s t : State, shaped s → step s = .next t → shaped t

/-- The state after pin reset meets every invariant. -/
def Obligations.ResetMeetsInvariants : Prop :=
  SafetyGoverned State.reset ∧ LinesFollow State.reset ∧ TakesQuiet State.reset ∧ takeSupplied State.reset ∧
  blocksConserved State.reset ∧ motionInside State.reset ∧ shaped State.reset
end

