-- ==== Sys2Proof/Laws/Arith.lean ====
section
/-! SUPPORT. What the arithmetic operations of section 4.5 and the limit step can give. -/

namespace Sys2Proof.Machine

theorem clamp_bounds {lo hi : Int} (h : lo ≤ hi) (x : Int) : lo ≤ clamp lo hi x ∧ clamp lo hi x ≤ hi := by
  unfold clamp; split
  · omega
  · split <;> omega

theorem clamp_inside {lo hi x : Int} (h : lo ≤ x) (g : x ≤ hi) : clamp lo hi x = x := by
  unfold clamp; rw [if_neg (by omega), if_neg (by omega)]

theorem sgn_cases (x : Int) : (x < 0 ∧ sgn x = -1) ∨ (x = 0 ∧ sgn x = 0) ∨ (0 < x ∧ sgn x = 1) := by
  unfold sgn; split
  · exact .inl ⟨‹_›, rfl⟩
  · split
    · exact .inr (.inl ⟨‹_›, rfl⟩)
    · exact .inr (.inr ⟨by omega, rfl⟩)

theorem satSucc_le {top n : Nat} : satSucc top n ≤ top ∧ satSucc top n ≤ n + 1 := by
  unfold satSucc; omega

theorem satSucc_below {top n : Nat} (h : n < top) : satSucc top n = n + 1 := by
  unfold satSucc; omega

theorem clampNat_bounds {lo hi : Nat} (h : lo ≤ hi) (n : Nat) : lo ≤ clampNat lo hi n ∧ clampNat lo hi n ≤ hi := by
  unfold clampNat; omega

theorem limitStep_cases (lo hi p v : Int) :
    (p + v < lo ∧ limitStep lo hi p v = (lo, lo - p, true)) ∨
    (lo ≤ p + v ∧ hi < p + v ∧ limitStep lo hi p v = (hi, hi - p, true)) ∨
    (lo ≤ p + v ∧ p + v ≤ hi ∧ limitStep lo hi p v = (p + v, v, false)) := by
  unfold limitStep
  split
  · exact .inl ⟨‹_›, rfl⟩
  · split
    · exact .inr (.inl ⟨by omega, ‹_›, rfl⟩)
    · exact .inr (.inr ⟨by omega, by omega, rfl⟩)

end Sys2Proof.Machine
end

