-- ==== Sys2Proof/Laws/Bytes.lean ====
section
/-! SUPPORT. Fields written little-endian read back as they were. -/

namespace Sys2Proof.Machine

@[simp] theorem le16_length (h : Half) : (le16 h).length = 2 := rfl

@[simp] theorem le32_length (w : Word) : (le32 w).length = 4 := rfl

@[simp] theorem byteAt_zero (b : Byte) (bs : List Byte) : byteAt (b :: bs) 0 = b := rfl

@[simp] theorem byteAt_succ (b : Byte) (bs : List Byte) (i : Nat) : byteAt (b :: bs) (i + 1) = byteAt bs i := rfl

theorem halfAt_le16 (h : Half) (bs : List Byte) : halfAt (le16 h ++ bs) 0 = h := by
  simp only [halfAt, le16, List.cons_append, byteAt_zero, byteAt_succ]
  apply BitVec.eq_of_getLsbD_eq
  intro i hi
  simp only [BitVec.getLsbD_append, BitVec.getLsbD_extractLsb']
  split
  · simp [*]
  · have : i - 8 < 8 := by omega
    have : 8 + (i - 8) = i := by omega
    simp [*]

theorem wordAt_le32 (w : Word) (bs : List Byte) : wordAt (le32 w ++ bs) 0 = w := by
  simp only [wordAt, le32, List.cons_append, byteAt_zero, byteAt_succ]
  apply BitVec.eq_of_getLsbD_eq
  intro i hi
  simp only [BitVec.getLsbD_append, BitVec.getLsbD_extractLsb']
  simp only [Nat.reduceAdd, Nat.zero_add]
  rcases (by omega : i < 8 ∨ (8 ≤ i ∧ i < 16) ∨ (16 ≤ i ∧ i < 24) ∨ 24 ≤ i) with h | h | h | h
  · rw [if_pos (by omega), if_pos (by omega), if_pos h]; simp [h]
  · rw [if_pos (by omega), if_pos (by omega), if_neg (by omega), show 8 + (i - 8) = i by omega]
    simp [show i - 8 < 8 by omega]
  · rw [if_pos (by omega), if_neg (by omega), show 16 + (i - 16) = i by omega]
    simp [show i - 16 < 8 by omega]
  · rw [if_neg (by omega), show 24 + (i - 24) = i by omega]
    simp [show i - 24 < 8 by omega]

/-- A byte past the end of a first string is that of the second. -/
theorem byteAt_append (a b : List Byte) (i : Nat) : byteAt (a ++ b) (a.length + i) = byteAt b i := by
  induction a with
  | nil => simp
  | cons x a ih => rw [List.cons_append, List.length_cons, show a.length + 1 + i = a.length + i + 1 by omega]; exact ih

theorem wordAt_append (a b : List Byte) : wordAt (a ++ b) a.length = wordAt b 0 := by
  simp only [wordAt, byteAt_append, Nat.zero_add]
  rw [show byteAt (a ++ b) a.length = byteAt b 0 from byteAt_append a b 0]

/-- A string followed by its own CRC-32 passes the check of R167. -/
theorem crc_after (a : List Byte) :
    crc32 ((a ++ le32 (crc32 a)).take a.length) = wordAt (a ++ le32 (crc32 a)) a.length := by
  rw [List.take_left, wordAt_append]
  have h := wordAt_le32 (crc32 a) []
  rw [List.append_nil] at h
  exact h.symm

end Sys2Proof.Machine
end

