-- ==== Sys2Proof/Laws/State.lean ====
section
/-! SUPPORT. What an update of one block of the state does to every block: one lemma per field per update, true by rfl,
so that no proof unfolds a record update. -/

namespace Sys2Proof.Machine.State

variable (s : State)

/-! ## setPending -/

@[simp] theorem setPending_pending (x : List Instr) : (s.setPending x).pending = x := rfl
@[simp] theorem setPending_timer (x : List Instr) : (s.setPending x).timer = s.timer := rfl
@[simp] theorem setPending_pins (x : List Instr) : (s.setPending x).pins = s.pins := rfl
@[simp] theorem setPending_link (x : List Instr) : (s.setPending x).link = s.link := rfl
@[simp] theorem setPending_service (x : List Instr) : (s.setPending x).service = s.service := rfl
@[simp] theorem setPending_mode (x : List Instr) : (s.setPending x).mode = s.mode := rfl
@[simp] theorem setPending_cond (x : List Instr) : (s.setPending x).cond = s.cond := rfl
@[simp] theorem setPending_geo (x : List Instr) : (s.setPending x).geo = s.geo := rfl
@[simp] theorem setPending_zone (x : List Instr) : (s.setPending x).zone = s.zone := rfl
@[simp] theorem setPending_stop (x : List Instr) : (s.setPending x).stop = s.stop := rfl
@[simp] theorem setPending_lens (x : List Instr) : (s.setPending x).lens = s.lens := rfl
@[simp] theorem setPending_store (x : List Instr) : (s.setPending x).store = s.store := rfl
@[simp] theorem setPending_take (x : List Instr) : (s.setPending x).take = s.take := rfl
@[simp] theorem setPending_capture (x : List Instr) : (s.setPending x).capture = s.capture := rfl
@[simp] theorem setPending_setPending (x y : List Instr) : (s.setPending x).setPending y = s.setPending y := rfl
@[simp] theorem setPending_same : s.setPending s.pending = s := rfl

/-! ## setTimer -/

@[simp] theorem setTimer_pending (x : Nat) : (s.setTimer x).pending = s.pending := rfl
@[simp] theorem setTimer_timer (x : Nat) : (s.setTimer x).timer = x := rfl
@[simp] theorem setTimer_pins (x : Nat) : (s.setTimer x).pins = s.pins := rfl
@[simp] theorem setTimer_link (x : Nat) : (s.setTimer x).link = s.link := rfl
@[simp] theorem setTimer_service (x : Nat) : (s.setTimer x).service = s.service := rfl
@[simp] theorem setTimer_mode (x : Nat) : (s.setTimer x).mode = s.mode := rfl
@[simp] theorem setTimer_cond (x : Nat) : (s.setTimer x).cond = s.cond := rfl
@[simp] theorem setTimer_geo (x : Nat) : (s.setTimer x).geo = s.geo := rfl
@[simp] theorem setTimer_zone (x : Nat) : (s.setTimer x).zone = s.zone := rfl
@[simp] theorem setTimer_stop (x : Nat) : (s.setTimer x).stop = s.stop := rfl
@[simp] theorem setTimer_lens (x : Nat) : (s.setTimer x).lens = s.lens := rfl
@[simp] theorem setTimer_store (x : Nat) : (s.setTimer x).store = s.store := rfl
@[simp] theorem setTimer_take (x : Nat) : (s.setTimer x).take = s.take := rfl
@[simp] theorem setTimer_capture (x : Nat) : (s.setTimer x).capture = s.capture := rfl
@[simp] theorem setTimer_setTimer (x y : Nat) : (s.setTimer x).setTimer y = s.setTimer y := rfl
@[simp] theorem setTimer_same : s.setTimer s.timer = s := rfl

/-! ## setPins -/

@[simp] theorem setPins_pending (x : Pins) : (s.setPins x).pending = s.pending := rfl
@[simp] theorem setPins_timer (x : Pins) : (s.setPins x).timer = s.timer := rfl
@[simp] theorem setPins_pins (x : Pins) : (s.setPins x).pins = x := rfl
@[simp] theorem setPins_link (x : Pins) : (s.setPins x).link = s.link := rfl
@[simp] theorem setPins_service (x : Pins) : (s.setPins x).service = s.service := rfl
@[simp] theorem setPins_mode (x : Pins) : (s.setPins x).mode = s.mode := rfl
@[simp] theorem setPins_cond (x : Pins) : (s.setPins x).cond = s.cond := rfl
@[simp] theorem setPins_geo (x : Pins) : (s.setPins x).geo = s.geo := rfl
@[simp] theorem setPins_zone (x : Pins) : (s.setPins x).zone = s.zone := rfl
@[simp] theorem setPins_stop (x : Pins) : (s.setPins x).stop = s.stop := rfl
@[simp] theorem setPins_lens (x : Pins) : (s.setPins x).lens = s.lens := rfl
@[simp] theorem setPins_store (x : Pins) : (s.setPins x).store = s.store := rfl
@[simp] theorem setPins_take (x : Pins) : (s.setPins x).take = s.take := rfl
@[simp] theorem setPins_capture (x : Pins) : (s.setPins x).capture = s.capture := rfl
@[simp] theorem setPins_setPins (x y : Pins) : (s.setPins x).setPins y = s.setPins y := rfl
@[simp] theorem setPins_same : s.setPins s.pins = s := rfl

/-! ## setLink -/

@[simp] theorem setLink_pending (x : Link) : (s.setLink x).pending = s.pending := rfl
@[simp] theorem setLink_timer (x : Link) : (s.setLink x).timer = s.timer := rfl
@[simp] theorem setLink_pins (x : Link) : (s.setLink x).pins = s.pins := rfl
@[simp] theorem setLink_link (x : Link) : (s.setLink x).link = x := rfl
@[simp] theorem setLink_service (x : Link) : (s.setLink x).service = s.service := rfl
@[simp] theorem setLink_mode (x : Link) : (s.setLink x).mode = s.mode := rfl
@[simp] theorem setLink_cond (x : Link) : (s.setLink x).cond = s.cond := rfl
@[simp] theorem setLink_geo (x : Link) : (s.setLink x).geo = s.geo := rfl
@[simp] theorem setLink_zone (x : Link) : (s.setLink x).zone = s.zone := rfl
@[simp] theorem setLink_stop (x : Link) : (s.setLink x).stop = s.stop := rfl
@[simp] theorem setLink_lens (x : Link) : (s.setLink x).lens = s.lens := rfl
@[simp] theorem setLink_store (x : Link) : (s.setLink x).store = s.store := rfl
@[simp] theorem setLink_take (x : Link) : (s.setLink x).take = s.take := rfl
@[simp] theorem setLink_capture (x : Link) : (s.setLink x).capture = s.capture := rfl
@[simp] theorem setLink_setLink (x y : Link) : (s.setLink x).setLink y = s.setLink y := rfl
@[simp] theorem setLink_same : s.setLink s.link = s := rfl

/-! ## setService -/

@[simp] theorem setService_pending (x : ServiceUnit) : (s.setService x).pending = s.pending := rfl
@[simp] theorem setService_timer (x : ServiceUnit) : (s.setService x).timer = s.timer := rfl
@[simp] theorem setService_pins (x : ServiceUnit) : (s.setService x).pins = s.pins := rfl
@[simp] theorem setService_link (x : ServiceUnit) : (s.setService x).link = s.link := rfl
@[simp] theorem setService_service (x : ServiceUnit) : (s.setService x).service = x := rfl
@[simp] theorem setService_mode (x : ServiceUnit) : (s.setService x).mode = s.mode := rfl
@[simp] theorem setService_cond (x : ServiceUnit) : (s.setService x).cond = s.cond := rfl
@[simp] theorem setService_geo (x : ServiceUnit) : (s.setService x).geo = s.geo := rfl
@[simp] theorem setService_zone (x : ServiceUnit) : (s.setService x).zone = s.zone := rfl
@[simp] theorem setService_stop (x : ServiceUnit) : (s.setService x).stop = s.stop := rfl
@[simp] theorem setService_lens (x : ServiceUnit) : (s.setService x).lens = s.lens := rfl
@[simp] theorem setService_store (x : ServiceUnit) : (s.setService x).store = s.store := rfl
@[simp] theorem setService_take (x : ServiceUnit) : (s.setService x).take = s.take := rfl
@[simp] theorem setService_capture (x : ServiceUnit) : (s.setService x).capture = s.capture := rfl
@[simp] theorem setService_setService (x y : ServiceUnit) : (s.setService x).setService y = s.setService y := rfl
@[simp] theorem setService_same : s.setService s.service = s := rfl

/-! ## setMode -/

@[simp] theorem setMode_pending (x : ModeController) : (s.setMode x).pending = s.pending := rfl
@[simp] theorem setMode_timer (x : ModeController) : (s.setMode x).timer = s.timer := rfl
@[simp] theorem setMode_pins (x : ModeController) : (s.setMode x).pins = s.pins := rfl
@[simp] theorem setMode_link (x : ModeController) : (s.setMode x).link = s.link := rfl
@[simp] theorem setMode_service (x : ModeController) : (s.setMode x).service = s.service := rfl
@[simp] theorem setMode_mode (x : ModeController) : (s.setMode x).mode = x := rfl
@[simp] theorem setMode_cond (x : ModeController) : (s.setMode x).cond = s.cond := rfl
@[simp] theorem setMode_geo (x : ModeController) : (s.setMode x).geo = s.geo := rfl
@[simp] theorem setMode_zone (x : ModeController) : (s.setMode x).zone = s.zone := rfl
@[simp] theorem setMode_stop (x : ModeController) : (s.setMode x).stop = s.stop := rfl
@[simp] theorem setMode_lens (x : ModeController) : (s.setMode x).lens = s.lens := rfl
@[simp] theorem setMode_store (x : ModeController) : (s.setMode x).store = s.store := rfl
@[simp] theorem setMode_take (x : ModeController) : (s.setMode x).take = s.take := rfl
@[simp] theorem setMode_capture (x : ModeController) : (s.setMode x).capture = s.capture := rfl
@[simp] theorem setMode_setMode (x y : ModeController) : (s.setMode x).setMode y = s.setMode y := rfl
@[simp] theorem setMode_same : s.setMode s.mode = s := rfl

/-! ## setCond -/

@[simp] theorem setCond_pending (x : Conditioner) : (s.setCond x).pending = s.pending := rfl
@[simp] theorem setCond_timer (x : Conditioner) : (s.setCond x).timer = s.timer := rfl
@[simp] theorem setCond_pins (x : Conditioner) : (s.setCond x).pins = s.pins := rfl
@[simp] theorem setCond_link (x : Conditioner) : (s.setCond x).link = s.link := rfl
@[simp] theorem setCond_service (x : Conditioner) : (s.setCond x).service = s.service := rfl
@[simp] theorem setCond_mode (x : Conditioner) : (s.setCond x).mode = s.mode := rfl
@[simp] theorem setCond_cond (x : Conditioner) : (s.setCond x).cond = x := rfl
@[simp] theorem setCond_geo (x : Conditioner) : (s.setCond x).geo = s.geo := rfl
@[simp] theorem setCond_zone (x : Conditioner) : (s.setCond x).zone = s.zone := rfl
@[simp] theorem setCond_stop (x : Conditioner) : (s.setCond x).stop = s.stop := rfl
@[simp] theorem setCond_lens (x : Conditioner) : (s.setCond x).lens = s.lens := rfl
@[simp] theorem setCond_store (x : Conditioner) : (s.setCond x).store = s.store := rfl
@[simp] theorem setCond_take (x : Conditioner) : (s.setCond x).take = s.take := rfl
@[simp] theorem setCond_capture (x : Conditioner) : (s.setCond x).capture = s.capture := rfl
@[simp] theorem setCond_setCond (x y : Conditioner) : (s.setCond x).setCond y = s.setCond y := rfl
@[simp] theorem setCond_same : s.setCond s.cond = s := rfl

/-! ## setGeo -/

@[simp] theorem setGeo_pending (x : Geometry) : (s.setGeo x).pending = s.pending := rfl
@[simp] theorem setGeo_timer (x : Geometry) : (s.setGeo x).timer = s.timer := rfl
@[simp] theorem setGeo_pins (x : Geometry) : (s.setGeo x).pins = s.pins := rfl
@[simp] theorem setGeo_link (x : Geometry) : (s.setGeo x).link = s.link := rfl
@[simp] theorem setGeo_service (x : Geometry) : (s.setGeo x).service = s.service := rfl
@[simp] theorem setGeo_mode (x : Geometry) : (s.setGeo x).mode = s.mode := rfl
@[simp] theorem setGeo_cond (x : Geometry) : (s.setGeo x).cond = s.cond := rfl
@[simp] theorem setGeo_geo (x : Geometry) : (s.setGeo x).geo = x := rfl
@[simp] theorem setGeo_zone (x : Geometry) : (s.setGeo x).zone = s.zone := rfl
@[simp] theorem setGeo_stop (x : Geometry) : (s.setGeo x).stop = s.stop := rfl
@[simp] theorem setGeo_lens (x : Geometry) : (s.setGeo x).lens = s.lens := rfl
@[simp] theorem setGeo_store (x : Geometry) : (s.setGeo x).store = s.store := rfl
@[simp] theorem setGeo_take (x : Geometry) : (s.setGeo x).take = s.take := rfl
@[simp] theorem setGeo_capture (x : Geometry) : (s.setGeo x).capture = s.capture := rfl
@[simp] theorem setGeo_setGeo (x y : Geometry) : (s.setGeo x).setGeo y = s.setGeo y := rfl
@[simp] theorem setGeo_same : s.setGeo s.geo = s := rfl

/-! ## setZone -/

@[simp] theorem setZone_pending (x : ZoneMonitor) : (s.setZone x).pending = s.pending := rfl
@[simp] theorem setZone_timer (x : ZoneMonitor) : (s.setZone x).timer = s.timer := rfl
@[simp] theorem setZone_pins (x : ZoneMonitor) : (s.setZone x).pins = s.pins := rfl
@[simp] theorem setZone_link (x : ZoneMonitor) : (s.setZone x).link = s.link := rfl
@[simp] theorem setZone_service (x : ZoneMonitor) : (s.setZone x).service = s.service := rfl
@[simp] theorem setZone_mode (x : ZoneMonitor) : (s.setZone x).mode = s.mode := rfl
@[simp] theorem setZone_cond (x : ZoneMonitor) : (s.setZone x).cond = s.cond := rfl
@[simp] theorem setZone_geo (x : ZoneMonitor) : (s.setZone x).geo = s.geo := rfl
@[simp] theorem setZone_zone (x : ZoneMonitor) : (s.setZone x).zone = x := rfl
@[simp] theorem setZone_stop (x : ZoneMonitor) : (s.setZone x).stop = s.stop := rfl
@[simp] theorem setZone_lens (x : ZoneMonitor) : (s.setZone x).lens = s.lens := rfl
@[simp] theorem setZone_store (x : ZoneMonitor) : (s.setZone x).store = s.store := rfl
@[simp] theorem setZone_take (x : ZoneMonitor) : (s.setZone x).take = s.take := rfl
@[simp] theorem setZone_capture (x : ZoneMonitor) : (s.setZone x).capture = s.capture := rfl
@[simp] theorem setZone_setZone (x y : ZoneMonitor) : (s.setZone x).setZone y = s.setZone y := rfl
@[simp] theorem setZone_same : s.setZone s.zone = s := rfl

/-! ## setStop -/

@[simp] theorem setStop_pending (x : StopController) : (s.setStop x).pending = s.pending := rfl
@[simp] theorem setStop_timer (x : StopController) : (s.setStop x).timer = s.timer := rfl
@[simp] theorem setStop_pins (x : StopController) : (s.setStop x).pins = s.pins := rfl
@[simp] theorem setStop_link (x : StopController) : (s.setStop x).link = s.link := rfl
@[simp] theorem setStop_service (x : StopController) : (s.setStop x).service = s.service := rfl
@[simp] theorem setStop_mode (x : StopController) : (s.setStop x).mode = s.mode := rfl
@[simp] theorem setStop_cond (x : StopController) : (s.setStop x).cond = s.cond := rfl
@[simp] theorem setStop_geo (x : StopController) : (s.setStop x).geo = s.geo := rfl
@[simp] theorem setStop_zone (x : StopController) : (s.setStop x).zone = s.zone := rfl
@[simp] theorem setStop_stop (x : StopController) : (s.setStop x).stop = x := rfl
@[simp] theorem setStop_lens (x : StopController) : (s.setStop x).lens = s.lens := rfl
@[simp] theorem setStop_store (x : StopController) : (s.setStop x).store = s.store := rfl
@[simp] theorem setStop_take (x : StopController) : (s.setStop x).take = s.take := rfl
@[simp] theorem setStop_capture (x : StopController) : (s.setStop x).capture = s.capture := rfl
@[simp] theorem setStop_setStop (x y : StopController) : (s.setStop x).setStop y = s.setStop y := rfl
@[simp] theorem setStop_same : s.setStop s.stop = s := rfl

/-! ## setLens -/

@[simp] theorem setLens_pending (x : Vector LensChannel 12) : (s.setLens x).pending = s.pending := rfl
@[simp] theorem setLens_timer (x : Vector LensChannel 12) : (s.setLens x).timer = s.timer := rfl
@[simp] theorem setLens_pins (x : Vector LensChannel 12) : (s.setLens x).pins = s.pins := rfl
@[simp] theorem setLens_link (x : Vector LensChannel 12) : (s.setLens x).link = s.link := rfl
@[simp] theorem setLens_service (x : Vector LensChannel 12) : (s.setLens x).service = s.service := rfl
@[simp] theorem setLens_mode (x : Vector LensChannel 12) : (s.setLens x).mode = s.mode := rfl
@[simp] theorem setLens_cond (x : Vector LensChannel 12) : (s.setLens x).cond = s.cond := rfl
@[simp] theorem setLens_geo (x : Vector LensChannel 12) : (s.setLens x).geo = s.geo := rfl
@[simp] theorem setLens_zone (x : Vector LensChannel 12) : (s.setLens x).zone = s.zone := rfl
@[simp] theorem setLens_stop (x : Vector LensChannel 12) : (s.setLens x).stop = s.stop := rfl
@[simp] theorem setLens_lens (x : Vector LensChannel 12) : (s.setLens x).lens = x := rfl
@[simp] theorem setLens_store (x : Vector LensChannel 12) : (s.setLens x).store = s.store := rfl
@[simp] theorem setLens_take (x : Vector LensChannel 12) : (s.setLens x).take = s.take := rfl
@[simp] theorem setLens_capture (x : Vector LensChannel 12) : (s.setLens x).capture = s.capture := rfl
@[simp] theorem setLens_setLens (x y : Vector LensChannel 12) : (s.setLens x).setLens y = s.setLens y := rfl
@[simp] theorem setLens_same : s.setLens s.lens = s := rfl

/-! ## setStore -/

@[simp] theorem setStore_pending (x : TakeStore) : (s.setStore x).pending = s.pending := rfl
@[simp] theorem setStore_timer (x : TakeStore) : (s.setStore x).timer = s.timer := rfl
@[simp] theorem setStore_pins (x : TakeStore) : (s.setStore x).pins = s.pins := rfl
@[simp] theorem setStore_link (x : TakeStore) : (s.setStore x).link = s.link := rfl
@[simp] theorem setStore_service (x : TakeStore) : (s.setStore x).service = s.service := rfl
@[simp] theorem setStore_mode (x : TakeStore) : (s.setStore x).mode = s.mode := rfl
@[simp] theorem setStore_cond (x : TakeStore) : (s.setStore x).cond = s.cond := rfl
@[simp] theorem setStore_geo (x : TakeStore) : (s.setStore x).geo = s.geo := rfl
@[simp] theorem setStore_zone (x : TakeStore) : (s.setStore x).zone = s.zone := rfl
@[simp] theorem setStore_stop (x : TakeStore) : (s.setStore x).stop = s.stop := rfl
@[simp] theorem setStore_lens (x : TakeStore) : (s.setStore x).lens = s.lens := rfl
@[simp] theorem setStore_store (x : TakeStore) : (s.setStore x).store = x := rfl
@[simp] theorem setStore_take (x : TakeStore) : (s.setStore x).take = s.take := rfl
@[simp] theorem setStore_capture (x : TakeStore) : (s.setStore x).capture = s.capture := rfl
@[simp] theorem setStore_setStore (x y : TakeStore) : (s.setStore x).setStore y = s.setStore y := rfl
@[simp] theorem setStore_same : s.setStore s.store = s := rfl

/-! ## setTake -/

@[simp] theorem setTake_pending (x : TakeEngine) : (s.setTake x).pending = s.pending := rfl
@[simp] theorem setTake_timer (x : TakeEngine) : (s.setTake x).timer = s.timer := rfl
@[simp] theorem setTake_pins (x : TakeEngine) : (s.setTake x).pins = s.pins := rfl
@[simp] theorem setTake_link (x : TakeEngine) : (s.setTake x).link = s.link := rfl
@[simp] theorem setTake_service (x : TakeEngine) : (s.setTake x).service = s.service := rfl
@[simp] theorem setTake_mode (x : TakeEngine) : (s.setTake x).mode = s.mode := rfl
@[simp] theorem setTake_cond (x : TakeEngine) : (s.setTake x).cond = s.cond := rfl
@[simp] theorem setTake_geo (x : TakeEngine) : (s.setTake x).geo = s.geo := rfl
@[simp] theorem setTake_zone (x : TakeEngine) : (s.setTake x).zone = s.zone := rfl
@[simp] theorem setTake_stop (x : TakeEngine) : (s.setTake x).stop = s.stop := rfl
@[simp] theorem setTake_lens (x : TakeEngine) : (s.setTake x).lens = s.lens := rfl
@[simp] theorem setTake_store (x : TakeEngine) : (s.setTake x).store = s.store := rfl
@[simp] theorem setTake_take (x : TakeEngine) : (s.setTake x).take = x := rfl
@[simp] theorem setTake_capture (x : TakeEngine) : (s.setTake x).capture = s.capture := rfl
@[simp] theorem setTake_setTake (x y : TakeEngine) : (s.setTake x).setTake y = s.setTake y := rfl
@[simp] theorem setTake_same : s.setTake s.take = s := rfl

/-! ## setCapture -/

@[simp] theorem setCapture_pending (x : CaptureUnit) : (s.setCapture x).pending = s.pending := rfl
@[simp] theorem setCapture_timer (x : CaptureUnit) : (s.setCapture x).timer = s.timer := rfl
@[simp] theorem setCapture_pins (x : CaptureUnit) : (s.setCapture x).pins = s.pins := rfl
@[simp] theorem setCapture_link (x : CaptureUnit) : (s.setCapture x).link = s.link := rfl
@[simp] theorem setCapture_service (x : CaptureUnit) : (s.setCapture x).service = s.service := rfl
@[simp] theorem setCapture_mode (x : CaptureUnit) : (s.setCapture x).mode = s.mode := rfl
@[simp] theorem setCapture_cond (x : CaptureUnit) : (s.setCapture x).cond = s.cond := rfl
@[simp] theorem setCapture_geo (x : CaptureUnit) : (s.setCapture x).geo = s.geo := rfl
@[simp] theorem setCapture_zone (x : CaptureUnit) : (s.setCapture x).zone = s.zone := rfl
@[simp] theorem setCapture_stop (x : CaptureUnit) : (s.setCapture x).stop = s.stop := rfl
@[simp] theorem setCapture_lens (x : CaptureUnit) : (s.setCapture x).lens = s.lens := rfl
@[simp] theorem setCapture_store (x : CaptureUnit) : (s.setCapture x).store = s.store := rfl
@[simp] theorem setCapture_take (x : CaptureUnit) : (s.setCapture x).take = s.take := rfl
@[simp] theorem setCapture_capture (x : CaptureUnit) : (s.setCapture x).capture = x := rfl
@[simp] theorem setCapture_setCapture (x y : CaptureUnit) : (s.setCapture x).setCapture y = s.setCapture y := rfl
@[simp] theorem setCapture_same : s.setCapture s.capture = s := rfl

end Sys2Proof.Machine.State
end

