-- ==== Sys2Proof/Laws/Frames.lean ====
section
/-! SUPPORT. Which blocks of the state each shared operation leaves as they are: one lemma per operation. -/

namespace Sys2Proof.Machine

@[simp] theorem State.mapChan_frame (s : State) (n : Fin 12) (f : Channel → Channel) :
    (s.mapChan n f).pending = s.pending ∧ (s.mapChan n f).timer = s.timer ∧ (s.mapChan n f).pins = s.pins ∧
    (s.mapChan n f).link = s.link ∧ (s.mapChan n f).service = s.service ∧ (s.mapChan n f).mode = s.mode ∧ (s.mapChan
    n f).geo = s.geo ∧ (s.mapChan n f).zone = s.zone ∧ (s.mapChan n f).stop = s.stop ∧ (s.mapChan n f).lens = s.lens
    ∧ (s.mapChan n f).store = s.store ∧ (s.mapChan n f).take = s.take ∧ (s.mapChan n f).capture = s.capture := by
  simp [State.mapChan]

@[simp] theorem State.mapChans_frame (s : State) (f : Fin 12 → Channel → Channel) :
    (s.mapChans f).pending = s.pending ∧ (s.mapChans f).timer = s.timer ∧ (s.mapChans f).pins = s.pins ∧ (s.mapChans
    f).link = s.link ∧ (s.mapChans f).service = s.service ∧ (s.mapChans f).mode = s.mode ∧ (s.mapChans f).geo =
    s.geo ∧ (s.mapChans f).zone = s.zone ∧ (s.mapChans f).stop = s.stop ∧ (s.mapChans f).lens = s.lens ∧ (s.mapChans
    f).store = s.store ∧ (s.mapChans f).take = s.take ∧ (s.mapChans f).capture = s.capture := by
  simp [State.mapChans]

@[simp] theorem State.mapLens_frame (s : State) (n : Fin 12) (f : LensChannel → LensChannel) :
    (s.mapLens n f).pending = s.pending ∧ (s.mapLens n f).timer = s.timer ∧ (s.mapLens n f).pins = s.pins ∧
    (s.mapLens n f).link = s.link ∧ (s.mapLens n f).service = s.service ∧ (s.mapLens n f).mode = s.mode ∧ (s.mapLens
    n f).cond = s.cond ∧ (s.mapLens n f).geo = s.geo ∧ (s.mapLens n f).zone = s.zone ∧ (s.mapLens n f).stop = s.stop
    ∧ (s.mapLens n f).store = s.store ∧ (s.mapLens n f).take = s.take ∧ (s.mapLens n f).capture = s.capture := by
  simp [State.mapLens]

@[simp] theorem State.mapAllLens_frame (s : State) (f : Fin 12 → LensChannel → LensChannel) :
    (s.mapAllLens f).pending = s.pending ∧ (s.mapAllLens f).timer = s.timer ∧ (s.mapAllLens f).pins = s.pins ∧
    (s.mapAllLens f).link = s.link ∧ (s.mapAllLens f).service = s.service ∧ (s.mapAllLens f).mode = s.mode ∧
    (s.mapAllLens f).cond = s.cond ∧ (s.mapAllLens f).geo = s.geo ∧ (s.mapAllLens f).zone = s.zone ∧ (s.mapAllLens
    f).stop = s.stop ∧ (s.mapAllLens f).store = s.store ∧ (s.mapAllLens f).take = s.take ∧ (s.mapAllLens f).capture
    = s.capture := by
  simp [State.mapAllLens]

@[simp] theorem advance_frame (n : Nat) (s : State) :
    (advance n s).pending = s.pending ∧ (advance n s).pins = s.pins ∧ (advance n s).link = s.link ∧ (advance n
    s).service = s.service ∧ (advance n s).mode = s.mode ∧ (advance n s).cond = s.cond ∧ (advance n s).geo = s.geo ∧
    (advance n s).zone = s.zone ∧ (advance n s).stop = s.stop ∧ (advance n s).lens = s.lens ∧ (advance n s).store =
    s.store ∧ (advance n s).take = s.take ∧ (advance n s).capture = s.capture := by
  simp [advance]

@[simp] theorem trip_frame (c : Condition) (met : MetValue) (part timecode : Word) (s : State) :
    (trip c met part timecode s).pending = s.pending ∧ (trip c met part timecode s).timer = s.timer ∧ (trip c met
    part timecode s).pins = s.pins ∧ (trip c met part timecode s).link = s.link ∧ (trip c met part timecode
    s).service = s.service ∧ (trip c met part timecode s).mode = s.mode ∧ (trip c met part timecode s).cond = s.cond
    ∧ (trip c met part timecode s).geo = s.geo ∧ (trip c met part timecode s).zone = s.zone ∧ (trip c met part
    timecode s).stop = s.stop ∧ (trip c met part timecode s).lens = s.lens ∧ (trip c met part timecode s).store =
    s.store ∧ (trip c met part timecode s).take = s.take := by
  simp [trip]

@[simp] theorem testCapture_frame (k : CaptureKind) (p : PlayState) (met : Condition → Option MetValue)
    (part timecode : Word) (s : State) :
    (testCapture k p met part timecode s).pending = s.pending ∧ (testCapture k p met part timecode s).timer =
    s.timer ∧ (testCapture k p met part timecode s).pins = s.pins ∧ (testCapture k p met part timecode s).link =
    s.link ∧ (testCapture k p met part timecode s).service = s.service ∧ (testCapture k p met part timecode s).mode
    = s.mode ∧ (testCapture k p met part timecode s).cond = s.cond ∧ (testCapture k p met part timecode s).geo =
    s.geo ∧ (testCapture k p met part timecode s).zone = s.zone ∧ (testCapture k p met part timecode s).stop =
    s.stop ∧ (testCapture k p met part timecode s).lens = s.lens ∧ (testCapture k p met part timecode s).store =
    s.store ∧ (testCapture k p met part timecode s).take = s.take := by
  unfold testCapture; (repeat' split) <;> simp

@[simp] theorem keepSample_frame (k : CaptureKind) (f : Fin 12 → Int) (s : State) :
    (keepSample k f s).pending = s.pending ∧ (keepSample k f s).timer = s.timer ∧ (keepSample k f s).pins = s.pins ∧
    (keepSample k f s).link = s.link ∧ (keepSample k f s).service = s.service ∧ (keepSample k f s).mode = s.mode ∧
    (keepSample k f s).cond = s.cond ∧ (keepSample k f s).geo = s.geo ∧ (keepSample k f s).zone = s.zone ∧
    (keepSample k f s).stop = s.stop ∧ (keepSample k f s).lens = s.lens ∧ (keepSample k f s).store = s.store ∧
    (keepSample k f s).take = s.take := by
  unfold keepSample; (repeat' split) <;> simp

@[simp] theorem testCrossing_frame (k : CaptureKind) (p : PlayState) (f : Fin 12 → Int)
    (part timecode : Word) (s : State) :
    (testCrossing k p f part timecode s).pending = s.pending ∧ (testCrossing k p f part timecode s).timer = s.timer
    ∧ (testCrossing k p f part timecode s).pins = s.pins ∧ (testCrossing k p f part timecode s).link = s.link ∧
    (testCrossing k p f part timecode s).service = s.service ∧ (testCrossing k p f part timecode s).mode = s.mode ∧
    (testCrossing k p f part timecode s).cond = s.cond ∧ (testCrossing k p f part timecode s).geo = s.geo ∧
    (testCrossing k p f part timecode s).zone = s.zone ∧ (testCrossing k p f part timecode s).stop = s.stop ∧
    (testCrossing k p f part timecode s).lens = s.lens ∧ (testCrossing k p f part timecode s).store = s.store ∧
    (testCrossing k p f part timecode s).take = s.take := by
  simp [testCrossing]

@[simp] theorem handSlip_frame (s : State) :
    (handSlip s).pending = s.pending ∧ (handSlip s).timer = s.timer ∧ (handSlip s).pins = s.pins ∧ (handSlip s).link
    = s.link ∧ (handSlip s).service = s.service ∧ (handSlip s).mode = s.mode ∧ (handSlip s).cond = s.cond ∧
    (handSlip s).geo = s.geo ∧ (handSlip s).zone = s.zone ∧ (handSlip s).stop = s.stop ∧ (handSlip s).lens = s.lens
    ∧ (handSlip s).capture = s.capture := by
  unfold handSlip; dsimp only; (repeat' split) <;> simp

@[simp] theorem placeNext_frame (s : State) :
    ((placeNext s).1).pending = s.pending ∧ ((placeNext s).1).timer = s.timer ∧ ((placeNext s).1).pins = s.pins ∧
    ((placeNext s).1).link = s.link ∧ ((placeNext s).1).service = s.service ∧ ((placeNext s).1).mode = s.mode ∧
    ((placeNext s).1).cond = s.cond ∧ ((placeNext s).1).geo = s.geo ∧ ((placeNext s).1).zone = s.zone ∧ ((placeNext
    s).1).stop = s.stop ∧ ((placeNext s).1).lens = s.lens ∧ ((placeNext s).1).capture = s.capture := by
  unfold placeNext; dsimp only; (repeat' split) <;> simp

@[simp] theorem placeFrame_frame (s : State) :
    ((placeFrame s).1).pending = s.pending ∧ ((placeFrame s).1).timer = s.timer ∧ ((placeFrame s).1).pins = s.pins ∧
    ((placeFrame s).1).link = s.link ∧ ((placeFrame s).1).service = s.service ∧ ((placeFrame s).1).mode = s.mode ∧
    ((placeFrame s).1).cond = s.cond ∧ ((placeFrame s).1).geo = s.geo ∧ ((placeFrame s).1).zone = s.zone ∧
    ((placeFrame s).1).stop = s.stop ∧ ((placeFrame s).1).lens = s.lens ∧ ((placeFrame s).1).capture = s.capture := by
  unfold placeFrame; split <;> simp

@[simp] theorem endRecording_frame (s : State) :
    (endRecording s).pending = s.pending ∧ (endRecording s).timer = s.timer ∧ (endRecording s).pins = s.pins ∧
    (endRecording s).link = s.link ∧ (endRecording s).service = s.service ∧ (endRecording s).mode = s.mode ∧
    (endRecording s).cond = s.cond ∧ (endRecording s).geo = s.geo ∧ (endRecording s).zone = s.zone ∧ (endRecording
    s).stop = s.stop ∧ (endRecording s).lens = s.lens ∧ (endRecording s).capture = s.capture := by
  simp [endRecording]

@[simp] theorem interruptRecording_frame (s : State) :
    (interruptRecording s).pending = s.pending ∧ (interruptRecording s).timer = s.timer ∧ (interruptRecording
    s).pins = s.pins ∧ (interruptRecording s).link = s.link ∧ (interruptRecording s).service = s.service ∧
    (interruptRecording s).mode = s.mode ∧ (interruptRecording s).cond = s.cond ∧ (interruptRecording s).geo = s.geo
    ∧ (interruptRecording s).zone = s.zone ∧ (interruptRecording s).stop = s.stop ∧ (interruptRecording s).lens =
    s.lens ∧ (interruptRecording s).capture = s.capture := by
  unfold interruptRecording; split <;> simp

@[simp] theorem startRead_frame (s : State) :
    (startRead s).pending = s.pending ∧ (startRead s).timer = s.timer ∧ (startRead s).pins = s.pins ∧ (startRead
    s).link = s.link ∧ (startRead s).service = s.service ∧ (startRead s).mode = s.mode ∧ (startRead s).cond = s.cond
    ∧ (startRead s).geo = s.geo ∧ (startRead s).zone = s.zone ∧ (startRead s).stop = s.stop ∧ (startRead s).lens =
    s.lens ∧ (startRead s).capture = s.capture := by
  unfold startRead; dsimp only; (repeat' split) <;> simp

@[simp] theorem dropRead_frame (s : State) :
    (dropRead s).pending = s.pending ∧ (dropRead s).timer = s.timer ∧ (dropRead s).pins = s.pins ∧ (dropRead s).link
    = s.link ∧ (dropRead s).service = s.service ∧ (dropRead s).mode = s.mode ∧ (dropRead s).cond = s.cond ∧
    (dropRead s).geo = s.geo ∧ (dropRead s).zone = s.zone ∧ (dropRead s).stop = s.stop ∧ (dropRead s).lens = s.lens
    ∧ (dropRead s).take = s.take ∧ (dropRead s).capture = s.capture := by
  simp [dropRead]

@[simp] theorem holdTakes_frame (s : State) :
    (holdTakes s).pending = s.pending ∧ (holdTakes s).timer = s.timer ∧ (holdTakes s).pins = s.pins ∧ (holdTakes
    s).link = s.link ∧ (holdTakes s).service = s.service ∧ (holdTakes s).mode = s.mode ∧ (holdTakes s).geo = s.geo ∧
    (holdTakes s).zone = s.zone ∧ (holdTakes s).stop = s.stop ∧ (holdTakes s).lens = s.lens ∧ (holdTakes s).store =
    s.store ∧ (holdTakes s).take = s.take ∧ (holdTakes s).capture = s.capture := by
  simp [holdTakes]

@[simp] theorem abortPlay_frame (r : AbortReason) (s : State) :
    (abortPlay r s).pending = s.pending ∧ (abortPlay r s).timer = s.timer ∧ (abortPlay r s).pins = s.pins ∧
    (abortPlay r s).link = s.link ∧ (abortPlay r s).service = s.service ∧ (abortPlay r s).mode = s.mode ∧ (abortPlay
    r s).geo = s.geo ∧ (abortPlay r s).zone = s.zone ∧ (abortPlay r s).stop = s.stop ∧ (abortPlay r s).lens = s.lens
    ∧ (abortPlay r s).capture = s.capture := by
  simp [abortPlay]

@[simp] theorem abortActive_frame (r : AbortReason) (s : State) :
    (abortActive r s).pending = s.pending ∧ (abortActive r s).timer = s.timer ∧ (abortActive r s).pins = s.pins ∧
    (abortActive r s).link = s.link ∧ (abortActive r s).service = s.service ∧ (abortActive r s).mode = s.mode ∧
    (abortActive r s).geo = s.geo ∧ (abortActive r s).zone = s.zone ∧ (abortActive r s).stop = s.stop ∧ (abortActive
    r s).lens = s.lens ∧ (abortActive r s).capture = s.capture := by
  unfold abortActive; split <;> simp

@[simp] theorem stopBegins_frame (s : State) :
    (stopBegins s).pending = s.pending ∧ (stopBegins s).timer = s.timer ∧ (stopBegins s).pins = s.pins ∧ (stopBegins
    s).link = s.link ∧ (stopBegins s).service = s.service ∧ (stopBegins s).mode = s.mode ∧ (stopBegins s).geo =
    s.geo ∧ (stopBegins s).zone = s.zone ∧ (stopBegins s).stop = s.stop ∧ (stopBegins s).lens = s.lens ∧ (stopBegins
    s).capture = s.capture := by
  simp [stopBegins]

@[simp] theorem startPlay_frame (s : State) :
    (startPlay s).pending = s.pending ∧ (startPlay s).timer = s.timer ∧ (startPlay s).pins = s.pins ∧ (startPlay
    s).link = s.link ∧ (startPlay s).service = s.service ∧ (startPlay s).mode = s.mode ∧ (startPlay s).cond = s.cond
    ∧ (startPlay s).geo = s.geo ∧ (startPlay s).zone = s.zone ∧ (startPlay s).stop = s.stop ∧ (startPlay s).lens =
    s.lens ∧ (startPlay s).store = s.store ∧ (startPlay s).capture = s.capture := by
  simp [startPlay]

@[simp] theorem enterCause_frame (c : Cause) (s : State) :
    (enterCause c s).pending = s.pending ∧ (enterCause c s).timer = s.timer ∧ (enterCause c s).pins = s.pins ∧
    (enterCause c s).link = s.link ∧ (enterCause c s).service = s.service ∧ (enterCause c s).mode = s.mode ∧
    (enterCause c s).cond = s.cond ∧ (enterCause c s).geo = s.geo ∧ (enterCause c s).zone = s.zone ∧ (enterCause c
    s).lens = s.lens ∧ (enterCause c s).store = s.store ∧ (enterCause c s).take = s.take ∧ (enterCause c s).capture
    = s.capture := by
  unfold enterCause; split <;> simp

@[simp] theorem handCause_frame (c : Cause) (s : State) :
    (handCause c s).pending = s.pending ∧ (handCause c s).timer = s.timer ∧ (handCause c s).pins = s.pins ∧
    (handCause c s).link = s.link ∧ (handCause c s).service = s.service ∧ (handCause c s).mode = s.mode ∧ (handCause
    c s).cond = s.cond ∧ (handCause c s).geo = s.geo ∧ (handCause c s).zone = s.zone ∧ (handCause c s).stop = s.stop
    ∧ (handCause c s).lens = s.lens ∧ (handCause c s).store = s.store ∧ (handCause c s).take = s.take := by
  simp [handCause]

@[simp] theorem openChain_frame (s : State) :
    (openChain s).pending = s.pending ∧ (openChain s).timer = s.timer ∧ (openChain s).link = s.link ∧ (openChain
    s).service = s.service ∧ (openChain s).mode = s.mode ∧ (openChain s).cond = s.cond ∧ (openChain s).geo = s.geo ∧
    (openChain s).zone = s.zone ∧ (openChain s).stop = s.stop ∧ (openChain s).lens = s.lens ∧ (openChain s).store =
    s.store ∧ (openChain s).take = s.take ∧ (openChain s).capture = s.capture := by
  simp [openChain]

@[simp] theorem closeChain_frame (s : State) :
    (closeChain s).pending = s.pending ∧ (closeChain s).timer = s.timer ∧ (closeChain s).link = s.link ∧ (closeChain
    s).service = s.service ∧ (closeChain s).mode = s.mode ∧ (closeChain s).cond = s.cond ∧ (closeChain s).geo =
    s.geo ∧ (closeChain s).zone = s.zone ∧ (closeChain s).stop = s.stop ∧ (closeChain s).lens = s.lens ∧ (closeChain
    s).store = s.store ∧ (closeChain s).take = s.take ∧ (closeChain s).capture = s.capture := by
  simp [closeChain]

@[simp] theorem enterStopping_frame (n : CauseName) (s : State) :
    (enterStopping n s).pending = s.pending ∧ (enterStopping n s).timer = s.timer ∧ (enterStopping n s).pins =
    s.pins ∧ (enterStopping n s).link = s.link ∧ (enterStopping n s).service = s.service ∧ (enterStopping n s).mode
    = s.mode ∧ (enterStopping n s).geo = s.geo ∧ (enterStopping n s).zone = s.zone ∧ (enterStopping n s).lens =
    s.lens ∧ (enterStopping n s).capture = s.capture := by
  simp [enterStopping]

@[simp] theorem failCalibrations_frame (r : CalFailure) (s : State) :
    (failCalibrations r s).pending = s.pending ∧ (failCalibrations r s).timer = s.timer ∧ (failCalibrations r
    s).pins = s.pins ∧ (failCalibrations r s).link = s.link ∧ (failCalibrations r s).service = s.service ∧
    (failCalibrations r s).mode = s.mode ∧ (failCalibrations r s).cond = s.cond ∧ (failCalibrations r s).geo = s.geo
    ∧ (failCalibrations r s).zone = s.zone ∧ (failCalibrations r s).stop = s.stop ∧ (failCalibrations r s).store =
    s.store ∧ (failCalibrations r s).take = s.take ∧ (failCalibrations r s).capture = s.capture := by
  simp [failCalibrations]

@[simp] theorem enterDropped_frame (s : State) :
    (enterDropped s).pending = s.pending ∧ (enterDropped s).timer = s.timer ∧ (enterDropped s).link = s.link ∧
    (enterDropped s).service = s.service ∧ (enterDropped s).mode = s.mode ∧ (enterDropped s).geo = s.geo ∧
    (enterDropped s).zone = s.zone ∧ (enterDropped s).capture = s.capture := by
  unfold enterDropped; dsimp only; (repeat' split) <;> simp

@[simp] theorem laterSoft_frame (n : CauseName) (s : State) :
    (laterSoft n s).pending = s.pending ∧ (laterSoft n s).timer = s.timer ∧ (laterSoft n s).pins = s.pins ∧
    (laterSoft n s).link = s.link ∧ (laterSoft n s).service = s.service ∧ (laterSoft n s).mode = s.mode ∧ (laterSoft
    n s).cond = s.cond ∧ (laterSoft n s).geo = s.geo ∧ (laterSoft n s).zone = s.zone ∧ (laterSoft n s).lens = s.lens
    ∧ (laterSoft n s).store = s.store ∧ (laterSoft n s).take = s.take ∧ (laterSoft n s).capture = s.capture := by
  unfold laterSoft; split <;> simp

@[simp] theorem actLive_frame (n : CauseName) (s : State) :
    (actLive n s).pending = s.pending ∧ (actLive n s).timer = s.timer ∧ (actLive n s).link = s.link ∧ (actLive n
    s).service = s.service ∧ (actLive n s).mode = s.mode ∧ (actLive n s).geo = s.geo ∧ (actLive n s).zone = s.zone ∧
    (actLive n s).capture = s.capture := by
  unfold actLive; split <;> simp

@[simp] theorem leaveArming_frame (s : State) :
    (leaveArming s).pending = s.pending ∧ (leaveArming s).timer = s.timer ∧ (leaveArming s).link = s.link ∧
    (leaveArming s).service = s.service ∧ (leaveArming s).cond = s.cond ∧ (leaveArming s).geo = s.geo ∧ (leaveArming
    s).zone = s.zone ∧ (leaveArming s).stop = s.stop ∧ (leaveArming s).lens = s.lens ∧ (leaveArming s).store =
    s.store ∧ (leaveArming s).take = s.take ∧ (leaveArming s).capture = s.capture := by
  simp [leaveArming]

@[simp] theorem abortArming_frame (r : CheckResult) (e : AbortEvent) (m : Checks → Checks)
    (d : Option CheckDetail) (s : State) :
    (abortArming r e m d s).pending = s.pending ∧ (abortArming r e m d s).timer = s.timer ∧ (abortArming r e m d
    s).link = s.link ∧ (abortArming r e m d s).service = s.service ∧ (abortArming r e m d s).cond = s.cond ∧
    (abortArming r e m d s).geo = s.geo ∧ (abortArming r e m d s).zone = s.zone ∧ (abortArming r e m d s).stop =
    s.stop ∧ (abortArming r e m d s).lens = s.lens ∧ (abortArming r e m d s).store = s.store ∧ (abortArming r e m d
    s).take = s.take ∧ (abortArming r e m d s).capture = s.capture := by
  simp [abortArming]

@[simp] theorem abortByCause_frame (c : Cause) (s : State) :
    (abortByCause c s).pending = s.pending ∧ (abortByCause c s).timer = s.timer ∧ (abortByCause c s).link = s.link ∧
    (abortByCause c s).service = s.service ∧ (abortByCause c s).cond = s.cond ∧ (abortByCause c s).geo = s.geo ∧
    (abortByCause c s).zone = s.zone ∧ (abortByCause c s).stop = s.stop ∧ (abortByCause c s).lens = s.lens ∧
    (abortByCause c s).store = s.store ∧ (abortByCause c s).take = s.take ∧ (abortByCause c s).capture = s.capture := by
  unfold abortByCause; split <;> simp

@[simp] theorem takeCause_frame (c : Cause) (s : State) :
    (takeCause c s).pending = s.pending ∧ (takeCause c s).timer = s.timer ∧ (takeCause c s).link = s.link ∧
    (takeCause c s).service = s.service ∧ (takeCause c s).geo = s.geo ∧ (takeCause c s).zone = s.zone := by
  unfold takeCause; split <;> simp

@[simp] theorem takeCauses_frame (cs : List Cause) (s : State) :
    (takeCauses cs s).pending = s.pending ∧ (takeCauses cs s).timer = s.timer ∧ (takeCauses cs s).link = s.link ∧
    (takeCauses cs s).service = s.service ∧ (takeCauses cs s).geo = s.geo ∧ (takeCauses cs s).zone = s.zone := by
  induction cs generalizing s with
  | nil => simp [takeCauses]
  | cons c cs ih => simp [takeCauses, ih]

@[simp] theorem resumed_frame (s : State) :
    (resumed s).pending = s.pending ∧ (resumed s).timer = s.timer ∧ (resumed s).pins = s.pins ∧ (resumed s).link =
    s.link ∧ (resumed s).service = s.service ∧ (resumed s).mode = s.mode ∧ (resumed s).geo = s.geo ∧ (resumed
    s).zone = s.zone ∧ (resumed s).lens = s.lens ∧ (resumed s).store = s.store ∧ (resumed s).take = s.take ∧
    (resumed s).capture = s.capture := by
  simp [resumed]

@[simp] theorem autoResume_frame (b : Byte) (s : State) :
    (autoResume b s).pending = s.pending ∧ (autoResume b s).timer = s.timer ∧ (autoResume b s).pins = s.pins ∧
    (autoResume b s).link = s.link ∧ (autoResume b s).service = s.service ∧ (autoResume b s).mode = s.mode ∧
    (autoResume b s).geo = s.geo ∧ (autoResume b s).zone = s.zone ∧ (autoResume b s).lens = s.lens ∧ (autoResume b
    s).store = s.store ∧ (autoResume b s).take = s.take ∧ (autoResume b s).capture = s.capture := by
  unfold autoResume; split <;> simp

@[simp] theorem stopReqArrives_frame (b : Byte) (s : State) :
    (stopReqArrives b s).pending = s.pending ∧ (stopReqArrives b s).timer = s.timer ∧ (stopReqArrives b s).link =
    s.link ∧ (stopReqArrives b s).service = s.service ∧ (stopReqArrives b s).geo = s.geo ∧ (stopReqArrives b s).zone
    = s.zone := by
  unfold stopReqArrives; split <;> simp

@[simp] theorem gripArrives_frame (b : Byte) (s : State) :
    (gripArrives b s).pending = s.pending ∧ (gripArrives b s).timer = s.timer ∧ (gripArrives b s).link = s.link ∧
    (gripArrives b s).service = s.service ∧ (gripArrives b s).geo = s.geo ∧ (gripArrives b s).zone = s.zone := by
  unfold gripArrives; split <;> simp

@[simp] theorem takeFlags_frame (b : Byte) (s : State) :
    (takeFlags b s).pending = s.pending ∧ (takeFlags b s).timer = s.timer ∧ (takeFlags b s).link = s.link ∧
    (takeFlags b s).service = s.service ∧ (takeFlags b s).geo = s.geo ∧ (takeFlags b s).zone = s.zone := by
  simp [takeFlags]

@[simp] theorem sendC_frame (f : Frame) (s : State) :
    (sendC f s).pending = s.pending ∧ (sendC f s).timer = s.timer ∧ (sendC f s).pins = s.pins ∧ (sendC f s).service
    = s.service ∧ (sendC f s).mode = s.mode ∧ (sendC f s).cond = s.cond ∧ (sendC f s).geo = s.geo ∧ (sendC f s).zone
    = s.zone ∧ (sendC f s).stop = s.stop ∧ (sendC f s).lens = s.lens ∧ (sendC f s).store = s.store ∧ (sendC f
    s).take = s.take ∧ (sendC f s).capture = s.capture := by
  simp [sendC]

@[simp] theorem forwardReturn_frame (e : InFlight) (f : Frame) (s : State) :
    (forwardReturn e f s).pending = s.pending ∧ (forwardReturn e f s).timer = s.timer ∧ (forwardReturn e f s).pins =
    s.pins ∧ (forwardReturn e f s).service = s.service ∧ (forwardReturn e f s).mode = s.mode ∧ (forwardReturn e f
    s).cond = s.cond ∧ (forwardReturn e f s).geo = s.geo ∧ (forwardReturn e f s).zone = s.zone ∧ (forwardReturn e f
    s).stop = s.stop ∧ (forwardReturn e f s).lens = s.lens ∧ (forwardReturn e f s).store = s.store ∧ (forwardReturn
    e f s).take = s.take ∧ (forwardReturn e f s).capture = s.capture := by
  simp [forwardReturn]

@[simp] theorem sendConstructed_frame (e : InFlight) (s : State) :
    (sendConstructed e s).pending = s.pending ∧ (sendConstructed e s).timer = s.timer ∧ (sendConstructed e s).pins =
    s.pins ∧ (sendConstructed e s).service = s.service ∧ (sendConstructed e s).mode = s.mode ∧ (sendConstructed e
    s).cond = s.cond ∧ (sendConstructed e s).geo = s.geo ∧ (sendConstructed e s).zone = s.zone ∧ (sendConstructed e
    s).stop = s.stop ∧ (sendConstructed e s).lens = s.lens ∧ (sendConstructed e s).store = s.store ∧
    (sendConstructed e s).take = s.take ∧ (sendConstructed e s).capture = s.capture := by
  simp [sendConstructed]

@[simp] theorem setRx_frame (p : PortId) (r : Receiver) (s : State) :
    (setRx p r s).pending = s.pending ∧ (setRx p r s).timer = s.timer ∧ (setRx p r s).pins = s.pins ∧ (setRx p r
    s).service = s.service ∧ (setRx p r s).mode = s.mode ∧ (setRx p r s).cond = s.cond ∧ (setRx p r s).geo = s.geo ∧
    (setRx p r s).zone = s.zone ∧ (setRx p r s).stop = s.stop ∧ (setRx p r s).lens = s.lens ∧ (setRx p r s).store =
    s.store ∧ (setRx p r s).take = s.take ∧ (setRx p r s).capture = s.capture := by
  simp [setRx]

@[simp] theorem portError_frame (p : PortId) (k : ErrKind) (s : State) :
    (portError p k s).pending = s.pending ∧ (portError p k s).timer = s.timer ∧ (portError p k s).service =
    s.service ∧ (portError p k s).geo = s.geo ∧ (portError p k s).zone = s.zone := by
  unfold portError; dsimp only; (repeat' split) <;> simp

@[simp] theorem afterLoss_frame (e : InFlight) (s : State) :
    (afterLoss e s).pending = s.pending ∧ (afterLoss e s).timer = s.timer ∧ (afterLoss e s).service = s.service ∧
    (afterLoss e s).geo = s.geo ∧ (afterLoss e s).zone = s.zone := by
  unfold afterLoss; dsimp only; (repeat' split) <;> simp

@[simp] theorem loseOldest_frame (s : State) :
    (loseOldest s).pending = s.pending ∧ (loseOldest s).timer = s.timer ∧ (loseOldest s).service = s.service ∧
    (loseOldest s).geo = s.geo ∧ (loseOldest s).zone = s.zone := by
  unfold loseOldest; split <;> simp

@[simp] theorem loseEntries_frame (n : Nat) (s : State) :
    (loseEntries n s).pending = s.pending ∧ (loseEntries n s).timer = s.timer ∧ (loseEntries n s).service =
    s.service ∧ (loseEntries n s).geo = s.geo ∧ (loseEntries n s).zone = s.zone := by
  induction n generalizing s with
  | zero => simp [loseEntries]
  | succ n ih => simp [loseEntries, ih]

@[simp] theorem expireEntries_frame (s : State) :
    (expireEntries s).pending = s.pending ∧ (expireEntries s).timer = s.timer ∧ (expireEntries s).service =
    s.service ∧ (expireEntries s).geo = s.geo ∧ (expireEntries s).zone = s.zone := by
  simp [expireEntries]

@[simp] theorem sendNext_frame (s : State) :
    (sendNext s).pending = s.pending ∧ (sendNext s).timer = s.timer ∧ (sendNext s).service = s.service ∧ (sendNext
    s).geo = s.geo ∧ (sendNext s).zone = s.zone := by
  unfold sendNext; dsimp only; (repeat' split) <;> simp

@[simp] theorem afterPass_frame (r : Option PassResult) (s : State) :
    (afterPass r s).pending = s.pending ∧ (afterPass r s).timer = s.timer ∧ (afterPass r s).link = s.link ∧
    (afterPass r s).service = s.service ∧ (afterPass r s).geo = s.geo ∧ (afterPass r s).zone = s.zone := by
  unfold afterPass; split <;> simp

@[simp] theorem evaluateZones_frame (p : Word) (s : State) :
    (evaluateZones p s).pending = s.pending ∧ (evaluateZones p s).timer = s.timer ∧ (evaluateZones p s).link =
    s.link ∧ (evaluateZones p s).service = s.service ∧ (evaluateZones p s).geo = s.geo := by
  simp [evaluateZones]

@[simp] theorem freezeOutputs_frame (s : State) :
    (freezeOutputs s).pending = s.pending ∧ (freezeOutputs s).timer = s.timer ∧ (freezeOutputs s).pins = s.pins ∧
    (freezeOutputs s).link = s.link ∧ (freezeOutputs s).service = s.service ∧ (freezeOutputs s).mode = s.mode ∧
    (freezeOutputs s).geo = s.geo ∧ (freezeOutputs s).zone = s.zone ∧ (freezeOutputs s).stop = s.stop ∧
    (freezeOutputs s).lens = s.lens ∧ (freezeOutputs s).store = s.store ∧ (freezeOutputs s).take = s.take ∧
    (freezeOutputs s).capture = s.capture := by
  simp [freezeOutputs]

@[simp] theorem beginArming_frame (s : State) :
    (beginArming s).pending = s.pending ∧ (beginArming s).timer = s.timer ∧ (beginArming s).service = s.service ∧
    (beginArming s).geo = s.geo ∧ (beginArming s).zone = s.zone ∧ (beginArming s).stop = s.stop ∧ (beginArming
    s).lens = s.lens ∧ (beginArming s).store = s.store ∧ (beginArming s).take = s.take ∧ (beginArming s).capture =
    s.capture := by
  simp [beginArming]

@[simp] theorem armParked_frame (s : State) :
    (armParked s).pending = s.pending ∧ (armParked s).timer = s.timer ∧ (armParked s).service = s.service ∧
    (armParked s).geo = s.geo ∧ (armParked s).zone = s.zone ∧ (armParked s).stop = s.stop ∧ (armParked s).lens =
    s.lens ∧ (armParked s).store = s.store ∧ (armParked s).take = s.take ∧ (armParked s).capture = s.capture := by
  unfold armParked; split <;> simp

@[simp] theorem enterLive_frame (s : State) :
    (enterLive s).pending = s.pending ∧ (enterLive s).timer = s.timer ∧ (enterLive s).pins = s.pins ∧ (enterLive
    s).link = s.link ∧ (enterLive s).service = s.service ∧ (enterLive s).zone = s.zone ∧ (enterLive s).lens = s.lens
    ∧ (enterLive s).store = s.store ∧ (enterLive s).take = s.take ∧ (enterLive s).capture = s.capture := by
  simp [enterLive]

@[simp] theorem decideArming_frame (s : State) :
    (decideArming s).pending = s.pending ∧ (decideArming s).timer = s.timer ∧ (decideArming s).link = s.link ∧
    (decideArming s).service = s.service ∧ (decideArming s).zone = s.zone ∧ (decideArming s).lens = s.lens ∧
    (decideArming s).store = s.store ∧ (decideArming s).take = s.take ∧ (decideArming s).capture = s.capture := by
  unfold decideArming; dsimp only; (repeat' split) <;> simp

@[simp] theorem settleDecision_frame (s : State) :
    (settleDecision s).pending = s.pending ∧ (settleDecision s).timer = s.timer ∧ (settleDecision s).link = s.link ∧
    (settleDecision s).service = s.service ∧ (settleDecision s).zone = s.zone ∧ (settleDecision s).lens = s.lens ∧
    (settleDecision s).store = s.store ∧ (settleDecision s).take = s.take ∧ (settleDecision s).capture = s.capture := by
  unfold settleDecision; split <;> simp

@[simp] theorem discardPending_frame (s : State) :
    (discardPending s).pending = s.pending ∧ (discardPending s).timer = s.timer ∧ (discardPending s).pins = s.pins ∧
    (discardPending s).link = s.link ∧ (discardPending s).service = s.service ∧ (discardPending s).mode = s.mode ∧
    (discardPending s).geo = s.geo ∧ (discardPending s).zone = s.zone ∧ (discardPending s).stop = s.stop ∧
    (discardPending s).lens = s.lens ∧ (discardPending s).store = s.store ∧ (discardPending s).take = s.take ∧
    (discardPending s).capture = s.capture := by
  simp [discardPending]

@[simp] theorem leaveLive_frame (s : State) :
    (leaveLive s).pending = s.pending ∧ (leaveLive s).timer = s.timer ∧ (leaveLive s).link = s.link ∧ (leaveLive
    s).service = s.service ∧ (leaveLive s).geo = s.geo ∧ (leaveLive s).zone = s.zone ∧ (leaveLive s).lens = s.lens ∧
    (leaveLive s).capture = s.capture := by
  simp [leaveLive]

@[simp] theorem parkLive_frame (s : State) :
    (parkLive s).pending = s.pending ∧ (parkLive s).timer = s.timer ∧ (parkLive s).link = s.link ∧ (parkLive
    s).service = s.service ∧ (parkLive s).geo = s.geo ∧ (parkLive s).zone = s.zone ∧ (parkLive s).capture =
    s.capture := by
  unfold parkLive; dsimp only; (repeat' split) <;> simp

@[simp] theorem takePart_frame (s : State) :
    (takePart s).pending = s.pending ∧ (takePart s).timer = s.timer ∧ (takePart s).pins = s.pins ∧ (takePart s).geo
    = s.geo ∧ (takePart s).zone = s.zone ∧ (takePart s).stop = s.stop ∧ (takePart s).lens = s.lens ∧ (takePart
    s).store = s.store ∧ (takePart s).take = { s.take with cueScaleNow := s.take.cueScale } ∧ (takePart s).capture =
    s.capture := by
  unfold takePart; dsimp only; (repeat' split) <;> simp

@[simp] theorem frameStarts_frame (t : Word) (s : State) :
    (frameStarts t s).pending = s.pending ∧ (frameStarts t s).timer = s.timer ∧ (frameStarts t s).pins = s.pins ∧
    (frameStarts t s).link = s.link ∧ (frameStarts t s).service = s.service ∧ (frameStarts t s).mode = s.mode ∧
    (frameStarts t s).cond = s.cond ∧ (frameStarts t s).geo = s.geo ∧ (frameStarts t s).zone = s.zone ∧ (frameStarts
    t s).stop = s.stop ∧ (frameStarts t s).lens = s.lens ∧ (frameStarts t s).store = s.store ∧ (frameStarts t
    s).capture = s.capture := by
  unfold frameStarts; dsimp only; (repeat' split) <;> simp

@[simp] theorem placeOutbound_frame (r : State → State) (t : Word) (s : State) :
    ((placeOutbound r t s).1).pending = s.pending ∧ ((placeOutbound r t s).1).timer = s.timer ∧ ((placeOutbound r t
    s).1).pins = s.pins ∧ ((placeOutbound r t s).1).link = s.link ∧ ((placeOutbound r t s).1).service = s.service ∧
    ((placeOutbound r t s).1).mode = s.mode ∧ ((placeOutbound r t s).1).cond = s.cond ∧ ((placeOutbound r t s).1).geo =
    s.geo ∧ ((placeOutbound r t s).1).zone = s.zone ∧ ((placeOutbound r t s).1).stop = s.stop ∧ ((placeOutbound r t
    s).1).lens = s.lens := by
  unfold placeOutbound; dsimp only; (repeat' split) <;> simp

/-- What a RUNNING frame makes of its queue (R147, R148): a good record at its index is used and its values are the
latest, or a data fault is counted and the latest stand, a bad record removed and any other queue kept. -/
theorem useRecord_cases (p : Playback) :
    (∃ r rest, p.queue = r :: rest ∧ r.index = p.index ∧ r.good = true ∧
      useRecord p = { p with queue := rest, faultRun := 0, latest := some r.values }) ∨
    (∃ r rest, p.queue = r :: rest ∧ r.index = p.index ∧ r.good = false ∧
      useRecord p = dataFault { p with queue := rest }) ∨
    ((∀ r rest, p.queue = r :: rest → r.index ≠ p.index) ∧ useRecord p = dataFault p) := by
  rcases h : p.queue with _ | ⟨r, rest⟩
  · exact .inr (.inr ⟨nofun, by simp [useRecord, h]⟩)
  · by_cases hi : r.index = p.index
    · cases hg : r.good
      · exact .inr (.inl ⟨r, rest, rfl, hi, hg, by simp [useRecord, h, hi, hg]⟩)
      · exact .inl ⟨r, rest, rfl, hi, hg, by simp [useRecord, giveValues, h, hi, hg]⟩
    · exact .inr (.inr ⟨fun _ _ e => by cases e; exact hi, by simp [useRecord, h, hi]⟩)

/-- A RUNNING frame's record leaves what the playback is of, and its settings, as they were. -/
@[simp] theorem useRecord_frame (p : Playback) :
    (useRecord p).state = p.state ∧ (useRecord p).take = p.take ∧ (useRecord p).entry = p.entry ∧
    (useRecord p).mask = p.mask ∧ (useRecord p).cueMark = p.cueMark ∧ (useRecord p).cueRecord = p.cueRecord ∧
    (useRecord p).index = p.index ∧ (useRecord p).abort = p.abort ∧ (useRecord p).mapChanged = p.mapChanged ∧
    (useRecord p).lineTrigger = p.lineTrigger ∧ (useRecord p).runSlips = p.runSlips ∧
    (useRecord p).nextRead = p.nextRead ∧ (useRecord p).firstFrame = p.firstFrame := by
  rcases useRecord_cases p with ⟨_, _, _, _, _, h⟩ | ⟨_, _, _, _, _, h⟩ | ⟨_, h⟩ <;> simp [h, dataFault]

/-- Values once supplied are never forgotten by a RUNNING frame's record (R148). -/
theorem useRecord_keeps_latest (p : Playback) (h : p.latest ≠ none) : (useRecord p).latest ≠ none := by
  rcases useRecord_cases p with ⟨_, _, _, _, _, e⟩ | ⟨_, _, _, _, _, e⟩ | ⟨_, e⟩ <;> simp [e, dataFault, h]

@[simp] theorem playFrame_frame (s : State) :
    (playFrame s).pending = s.pending ∧ (playFrame s).timer = s.timer ∧ (playFrame s).link = s.link ∧
    (playFrame s).service = s.service ∧ (playFrame s).geo = s.geo ∧ (playFrame s).zone = s.zone := by
  unfold playFrame; dsimp only; split <;> simp

/-- What the take values of a frame can be (R15, R148): while a playback that is CUEING, CUED or RUNNING supplies any,
they are the latest good record's. -/
theorem supply_latest {s : State} {values : List Int} (h : (supply s).2 = some values) :
    (supply s).1.take.play.latest = some values := by
  cases hp : s.take.play.state <;> simp only [supply, hp] at h ⊢
  case running =>
    split at h
    · exact h
    · cases h
  case cueing | cued =>
    cases hc : cueValues s.take.play <;> simp_all [giveValues]
  all_goals cases h

@[simp] theorem supply_frame (s : State) :
    ((supply s).1).pending = s.pending ∧ ((supply s).1).timer = s.timer ∧ ((supply s).1).link = s.link ∧ ((supply
    s).1).service = s.service ∧ ((supply s).1).geo = s.geo ∧ ((supply s).1).zone = s.zone := by
  unfold supply; dsimp only; (repeat' split) <;> simp

@[simp] theorem storeConditioned_frame (r : Vector Conditioned 12) (s : State) :
    (storeConditioned r s).pending = s.pending ∧ (storeConditioned r s).timer = s.timer ∧ (storeConditioned r
    s).pins = s.pins ∧ (storeConditioned r s).link = s.link ∧ (storeConditioned r s).service = s.service ∧
    (storeConditioned r s).mode = s.mode ∧ (storeConditioned r s).geo = s.geo ∧ (storeConditioned r s).zone = s.zone
    ∧ (storeConditioned r s).stop = s.stop ∧ (storeConditioned r s).store = s.store ∧ (storeConditioned r s).capture
    = s.capture := by
  unfold storeConditioned; split <;> simp

@[simp] theorem appendFrame_frame (cut : Bool) (pl : Placement) (t : Word) (s : State) :
    (appendFrame cut pl t s).pending = s.pending ∧ (appendFrame cut pl t s).timer = s.timer ∧ (appendFrame cut pl t s).pins =
    s.pins ∧ (appendFrame cut pl t s).link = s.link ∧ (appendFrame cut pl t s).service = s.service ∧ (appendFrame cut pl t
    s).mode = s.mode ∧ (appendFrame cut pl t s).cond = s.cond ∧ (appendFrame cut pl t s).geo = s.geo ∧ (appendFrame cut pl t
    s).zone = s.zone ∧ (appendFrame cut pl t s).stop = s.stop ∧ (appendFrame cut pl t s).lens = s.lens ∧ (appendFrame cut pl t
    s).capture = s.capture := by
  unfold appendFrame; dsimp only; (repeat' split) <;> simp

@[simp] theorem outputTests_frame (i : Option Nat) (t : Word) (s : State) :
    (outputTests i t s).pending = s.pending ∧ (outputTests i t s).timer = s.timer ∧ (outputTests i t s).pins =
    s.pins ∧ (outputTests i t s).link = s.link ∧ (outputTests i t s).service = s.service ∧ (outputTests i t s).mode
    = s.mode ∧ (outputTests i t s).cond = s.cond ∧ (outputTests i t s).geo = s.geo ∧ (outputTests i t s).zone =
    s.zone ∧ (outputTests i t s).stop = s.stop ∧ (outputTests i t s).lens = s.lens ∧ (outputTests i t s).store =
    s.store ∧ (outputTests i t s).take = s.take := by
  simp [outputTests]

@[simp] theorem playHandOn_frame (s : State) :
    (playHandOn s).pending = s.pending ∧ (playHandOn s).timer = s.timer ∧ (playHandOn s).pins = s.pins ∧ (playHandOn
    s).link = s.link ∧ (playHandOn s).service = s.service ∧ (playHandOn s).mode = s.mode ∧ (playHandOn s).cond =
    s.cond ∧ (playHandOn s).geo = s.geo ∧ (playHandOn s).zone = s.zone ∧ (playHandOn s).stop = s.stop ∧ (playHandOn
    s).lens = s.lens ∧ (playHandOn s).capture = s.capture := by
  unfold playHandOn; dsimp only; (repeat' split) <;> simp

@[simp] theorem swapMaps_frame (s : State) :
    (swapMaps s).pending = s.pending ∧ (swapMaps s).timer = s.timer ∧ (swapMaps s).pins = s.pins ∧ (swapMaps s).link
    = s.link ∧ (swapMaps s).service = s.service ∧ (swapMaps s).mode = s.mode ∧ (swapMaps s).cond = s.cond ∧
    (swapMaps s).geo = s.geo ∧ (swapMaps s).zone = s.zone ∧ (swapMaps s).stop = s.stop ∧ (swapMaps s).store =
    s.store ∧ (swapMaps s).take = s.take ∧ (swapMaps s).capture = s.capture := by
  simp [swapMaps]

@[simp] theorem stopTick_frame (s : State) :
    (stopTick s).pending = s.pending ∧ (stopTick s).timer = s.timer ∧ (stopTick s).link = s.link ∧ (stopTick
    s).service = s.service ∧ (stopTick s).geo = s.geo ∧ (stopTick s).zone = s.zone := by
  unfold stopTick; dsimp only; (repeat' split) <;> simp

@[simp] theorem handOn_frame (pl : Placement) (t : Word) (b : Bool) (r : Vector Conditioned 12) (s : State) :
    (handOn pl t b r s).pending = s.pending ∧ (handOn pl t b r s).timer = s.timer ∧ (handOn pl t b r s).link =
    s.link ∧ (handOn pl t b r s).service = s.service ∧ (handOn pl t b r s).geo = s.geo ∧ (handOn pl t b r s).zone =
    s.zone := by
  unfold handOn; dsimp only; (repeat' split) <;> simp

@[simp] theorem queueD_frame (f : OutFrame) (s : State) :
    (queueD f s).pending = s.pending ∧ (queueD f s).timer = s.timer ∧ (queueD f s).pins = s.pins ∧ (queueD f
    s).service = s.service ∧ (queueD f s).mode = s.mode ∧ (queueD f s).cond = s.cond ∧ (queueD f s).geo = s.geo ∧
    (queueD f s).zone = s.zone ∧ (queueD f s).stop = s.stop ∧ (queueD f s).lens = s.lens ∧ (queueD f s).store =
    s.store ∧ (queueD f s).take = s.take ∧ (queueD f s).capture = s.capture := by
  simp [queueD]

@[simp] theorem finishOutbound_frame (o : Outbound) (pl : Placement) (s : State) :
    (finishOutbound o pl s).pending = s.pending ∧ (finishOutbound o pl s).timer = s.timer ∧ (finishOutbound o pl
    s).service = s.service ∧ (finishOutbound o pl s).geo = s.geo ∧ (finishOutbound o pl s).zone = s.zone := by
  simp [finishOutbound]

@[simp] theorem originateSubst_frame (s : State) :
    (originateSubst s).pending = s.pending ∧ (originateSubst s).timer = s.timer ∧ (originateSubst s).geo = s.geo ∧
    (originateSubst s).zone = s.zone := by
  simp [originateSubst]

@[simp] theorem goSilent_frame (s : State) :
    (goSilent s).pending = s.pending ∧ (goSilent s).timer = s.timer ∧ (goSilent s).geo = s.geo ∧ (goSilent s).zone =
    s.zone := by
  simp [goSilent]

@[simp] theorem answer_frame (t c : Byte) (r : Reply) (s : State) :
    (answer t c r s).pending = s.pending ∧ (answer t c r s).timer = s.timer ∧ (answer t c r s).pins = s.pins ∧
    (answer t c r s).link = s.link ∧ (answer t c r s).mode = s.mode ∧ (answer t c r s).cond = s.cond ∧ (answer t c r
    s).geo = s.geo ∧ (answer t c r s).zone = s.zone ∧ (answer t c r s).stop = s.stop ∧ (answer t c r s).lens =
    s.lens ∧ (answer t c r s).store = s.store ∧ (answer t c r s).take = s.take ∧ (answer t c r s).capture =
    s.capture := by
  simp [answer]

@[simp] theorem seeCrew_frame (v : Vector LineSample 4) (s : State) :
    (seeCrew v s).pending = s.pending ∧ (seeCrew v s).timer = s.timer ∧ (seeCrew v s).link = s.link ∧ (seeCrew v
    s).service = s.service ∧ (seeCrew v s).mode = s.mode ∧ (seeCrew v s).cond = s.cond ∧ (seeCrew v s).geo = s.geo ∧
    (seeCrew v s).zone = s.zone ∧ (seeCrew v s).stop = s.stop ∧ (seeCrew v s).lens = s.lens ∧ (seeCrew v s).store =
    s.store ∧ (seeCrew v s).take = s.take ∧ (seeCrew v s).capture = s.capture := by
  simp [seeCrew]

@[simp] theorem deliverFeedback_frame (f : Frame) (s : State) :
    (deliverFeedback f s).pending = s.pending ∧ (deliverFeedback f s).timer = s.timer ∧ (deliverFeedback f s).pins =
    s.pins ∧ (deliverFeedback f s).link = s.link ∧ (deliverFeedback f s).service = s.service ∧ (deliverFeedback f s).mode = s.mode ∧ (deliverFeedback f
    s).geo = s.geo ∧ (deliverFeedback f s).zone = s.zone ∧ (deliverFeedback f s).stop = s.stop ∧ (deliverFeedback f
    s).lens = s.lens ∧ (deliverFeedback f s).store = s.store ∧ (deliverFeedback f s).take = s.take ∧
    (deliverFeedback f s).capture = s.capture := by
  simp [deliverFeedback]

@[simp] theorem endLosses_eq (s : State) :
    endLosses s = s.setLink { s.link with lossCount := 0, feedbackLost := false } := rfl

@[simp] theorem mapReturn_frame (p : Word) (s : State) :
    (mapReturn p s).pending = s.pending ∧ (mapReturn p s).timer = s.timer ∧ (mapReturn p s).pins = s.pins ∧
    (mapReturn p s).link = s.link ∧ (mapReturn p s).service = s.service ∧ (mapReturn p s).mode = s.mode ∧ (mapReturn
    p s).cond = s.cond ∧ (mapReturn p s).geo = s.geo ∧ (mapReturn p s).zone = s.zone ∧ (mapReturn p s).stop = s.stop
    ∧ (mapReturn p s).store = s.store ∧ (mapReturn p s).take = s.take ∧ (mapReturn p s).capture = s.capture := by
  simp [mapReturn]

@[simp] theorem matchedReturn_frame (e : InFlight) (f : Frame) (s : State) :
    (matchedReturn e f s).pending = s.pending ∧ (matchedReturn e f s).timer = s.timer ∧ (matchedReturn e f
    s).service = s.service := by
  simp [matchedReturn]

@[simp] theorem goodReturn_frame (f : Frame) (s : State) :
    (goodReturn f s).pending = s.pending ∧ (goodReturn f s).timer = s.timer ∧ (goodReturn f s).service = s.service := by
  unfold goodReturn; dsimp only; (repeat' split) <;> simp

@[simp] theorem takeIn_frame (p : PortId) (k : FrameClass) (b : Bool) (s : State) :
    (takeIn p k b s).pending = s.pending ∧ (takeIn p k b s).timer = s.timer ∧ (takeIn p k b s).service = s.service ∧
    (takeIn p k b s).geo = s.geo ∧ (takeIn p k b s).zone = s.zone := by
  unfold takeIn; (repeat' split) <;> simp

@[simp] theorem returnFrame_frame (b : Bool) (bs : List Byte) (s : State) :
    (returnFrame b bs s).pending = s.pending ∧ (returnFrame b bs s).timer = s.timer ∧ (returnFrame b bs s).service =
    s.service := by
  unfold returnFrame; dsimp only; (repeat' split) <;> simp

@[simp] theorem timeAt_frame (n : Nat) (s : State) :
    (timeAt n s).pending = s.pending ∧ (timeAt n s).pins = s.pins ∧ (timeAt n s).link = s.link ∧ (timeAt n
    s).service = s.service ∧ (timeAt n s).mode = s.mode ∧ (timeAt n s).cond = s.cond ∧ (timeAt n s).geo = s.geo ∧
    (timeAt n s).zone = s.zone ∧ (timeAt n s).stop = s.stop ∧ (timeAt n s).lens = s.lens ∧ (timeAt n s).store =
    s.store ∧ (timeAt n s).take = s.take ∧ (timeAt n s).capture = s.capture := by
  simp [timeAt]

@[simp] theorem invalidGroup_frame (p : PortId) (s : State) :
    (invalidGroup p s).pending = s.pending ∧ (invalidGroup p s).timer = s.timer ∧ (invalidGroup p s).service =
    s.service ∧ (invalidGroup p s).geo = s.geo ∧ (invalidGroup p s).zone = s.zone := by
  simp [invalidGroup]

@[simp] theorem placeAhead_frame (s : State) :
    (placeAhead s).pending = s.pending ∧ (placeAhead s).timer = s.timer ∧ (placeAhead s).pins = s.pins ∧ (placeAhead
    s).link = s.link ∧ (placeAhead s).service = s.service ∧ (placeAhead s).mode = s.mode ∧ (placeAhead s).cond =
    s.cond ∧ (placeAhead s).geo = s.geo ∧ (placeAhead s).zone = s.zone ∧ (placeAhead s).stop = s.stop ∧ (placeAhead
    s).lens = s.lens ∧ (placeAhead s).capture = s.capture := by
  simp [placeAhead]

@[simp] theorem queueRecord_frame (q : QueuedRecord) (s : State) :
    (queueRecord q s).pending = s.pending ∧ (queueRecord q s).timer = s.timer ∧ (queueRecord q s).pins = s.pins ∧
    (queueRecord q s).link = s.link ∧ (queueRecord q s).service = s.service ∧ (queueRecord q s).mode = s.mode ∧
    (queueRecord q s).geo = s.geo ∧ (queueRecord q s).zone = s.zone ∧ (queueRecord q s).stop = s.stop ∧ (queueRecord
    q s).lens = s.lens ∧ (queueRecord q s).capture = s.capture := by
  unfold queueRecord; dsimp only; (repeat' split) <;> simp

end Sys2Proof.Machine
end

