-- ==== Sys2Proof/Laws/Memory.lean ====
section
/-! SUPPORT. The take memory: what a read gives after a write, and that every operation over the list of written bytes
keeps its canonical form. -/

namespace Sys2Proof.Machine

/-! ## Read after write -/

theorem memRead_memWrite_same (m : List Host.Cell) (a : Nat) (b : Byte) : memRead (memWrite m a b) a = some b := by
  induction m with
  | nil => simp [memWrite, memRead]
  | cons c rest ih =>
    unfold memWrite
    split
    · simp [memRead]
    · split
      · simp [memRead]
      · simp only [memRead]
        rw [if_neg (by omega), ih]

theorem memRead_memWrite_other (m : List Host.Cell) (a x : Nat) (b : Byte) (h : x ≠ a) :
    memRead (memWrite m a b) x = memRead m x := by
  induction m with
  | nil => simp [memWrite, memRead, h.symm]
  | cons c rest ih =>
    unfold memWrite
    split
    · simp [memRead, h.symm]
    · split
      · simp only [memRead]
        rw [if_neg (by omega), if_neg (by omega)]
      · simp only [memRead, ih]

/-! ## The canonical form -/

theorem mem_keys_memWrite (m : List Host.Cell) (a : Nat) (b : Byte) (x : Nat) :
    x ∈ (memWrite m a b).map Prod.fst ↔ x = a ∨ x ∈ m.map Prod.fst := by
  induction m with
  | nil => simp [memWrite]
  | cons c rest ih =>
    unfold memWrite
    split
    · simp
    · split
      · rename_i h; simp [h]
      · simp only [List.map_cons, List.mem_cons, ih]
        constructor <;> (intro h; rcases h with h | h | h <;> simp [h])

theorem memWrite_wf (m : List Host.Cell) (a : Nat) (b : Byte) (h : Memory.wf m) : Memory.wf (memWrite m a b) := by
  induction m with
  | nil => simp [memWrite, Memory.wf]
  | cons c rest ih =>
    simp only [Memory.wf, List.map_cons, List.pairwise_cons] at h ih
    unfold memWrite
    split
    · simp only [Memory.wf, List.map_cons, List.pairwise_cons, List.mem_cons]
      refine ⟨fun x hx => ?_, h⟩
      rcases hx with rfl | hx
      · assumption
      · exact Nat.lt_trans ‹_› (h.1 x hx)
    · split
      · rename_i e
        simp only [Memory.wf, List.map_cons, List.pairwise_cons]
        exact e ▸ h
      · simp only [Memory.wf, List.map_cons, List.pairwise_cons]
        refine ⟨fun x hx => ?_, ih h.2⟩
        rcases (mem_keys_memWrite rest a b x).1 hx with rfl | hx
        · omega
        · exact h.1 x hx

theorem memWriteBytes_wf (bs : List Byte) (m : List Host.Cell) (a : Nat) (h : Memory.wf m) :
    Memory.wf (memWriteBytes m a bs) := by
  induction bs generalizing m a with
  | nil => exact h
  | cons b bs ih => exact ih _ _ (memWrite_wf m a b h)

theorem memForget_wf (m : List Host.Cell) (lo hi : Nat) (h : Memory.wf m) : Memory.wf (memForget m lo hi) :=
  List.Pairwise.sublist (List.Sublist.map _ List.filter_sublist) h

theorem reset_memory_wf : Memory.wf State.reset.store.mem ∧ Memory.wf State.reset.store.check := by decide

/-! ## Strings of bytes -/

theorem memRead_memWriteBytes_other (bs : List Byte) (m : List Host.Cell) (a x : Nat)
    (h : x < a ∨ a + bs.length ≤ x) : memRead (memWriteBytes m a bs) x = memRead m x := by
  induction bs generalizing m a with
  | nil => rfl
  | cons b bs ih =>
    simp only [List.length_cons] at h
    rw [memWriteBytes, ih _ _ (by omega), memRead_memWrite_other _ _ _ _ (by omega)]

theorem memRead_memWriteBytes_at (bs : List Byte) (m : List Host.Cell) (a i : Nat) (h : i < bs.length) :
    memRead (memWriteBytes m a bs) (a + i) = some bs[i] := by
  induction bs generalizing m a i with
  | nil => simp at h
  | cons b bs ih =>
    rw [memWriteBytes]
    cases i with
    | zero => rw [memRead_memWriteBytes_other _ _ _ _ (by omega)]; simpa using memRead_memWrite_same m a b
    | succ i => simpa [Nat.add_assoc, Nat.add_comm 1] using ih (memWrite m a b) (a + 1) i (by simpa using h)

/-! ## Words and their check bits -/

theorem writeChecks_wf (check : List Host.Cell) (w n : Nat) (bs : List Byte) (h : Memory.wf check) :
    Memory.wf (writeChecks check w bs n) := by
  induction n generalizing check w bs with
  | zero => exact h
  | succ n ih => exact ih _ _ _ (memWrite_wf _ _ _ h)

theorem memRead_writeChecks_other (check : List Host.Cell) (w n x : Nat) (bs : List Byte) (h : x < w ∨ w + n ≤ x) :
    memRead (writeChecks check w bs n) x = memRead check x := by
  induction n generalizing check w bs with
  | zero => rfl
  | succ n ih => rw [writeChecks, ih _ _ _ (by omega), memRead_memWrite_other _ _ _ _ (by omega)]

theorem memRead_writeChecks_at (check : List Host.Cell) (w n i : Nat) (bs : List Byte) (h : i < n) :
    memRead (writeChecks check w bs n) (w + i) =
      some (Config.checkBits (wordOf ((bs.drop (8 * i)).take 8))) := by
  induction n generalizing check w bs i with
  | zero => omega
  | succ n ih =>
    rw [writeChecks]
    cases i with
    | zero => rw [memRead_writeChecks_other _ _ _ _ _ (by omega)]; simpa using memRead_memWrite_same check w _
    | succ i =>
      have := ih (memWrite check w (Config.checkBits (wordOf (bs.take 8)))) (w + 1) i (bs.drop 8) (by omega)
      rw [show w + (i + 1) = w + 1 + i by omega, this, List.drop_drop, show 8 + 8 * i = 8 * (i + 1) by omega]

theorem writeWords_wf (a : Nat) (bs : List Byte) (st : TakeStore) (h : Memory.wf st.mem) (k : Memory.wf st.check) :
    Memory.wf (writeWords a bs st).mem ∧ Memory.wf (writeWords a bs st).check :=
  ⟨memWriteBytes_wf _ _ _ h, writeChecks_wf _ _ _ _ k⟩

theorem append_bit {n m : Nat} (x : BitVec n) (y : BitVec m) (i : Nat) :
    (x ++ y).getLsbD i = if i < m then y.getLsbD i else x.getLsbD (i - m) := by
  rw [BitVec.getLsbD_append]

theorem wordAt_bit (bs : List Byte) (j i : Nat) (h : i < 32) :
    (wordAt bs j).getLsbD i = (byteAt bs (j + i / 8)).getLsbD (i % 8) := by
  unfold wordAt
  refine (append_bit _ _ _).trans ?_
  rw [append_bit, append_bit]
  have : i / 8 = 0 ∨ i / 8 = 1 ∨ i / 8 = 2 ∨ i / 8 = 3 := by omega
  rcases this with e | e | e | e <;> rw [e]
  · rw [if_pos (by omega), if_pos (by omega), if_pos (by omega)]; congr 1; omega
  · rw [if_pos (by omega), if_pos (by omega), if_neg (by omega)]; congr 1; omega
  · rw [if_pos (by omega), if_neg (by omega)]; congr 1; omega
  · rw [if_neg (by omega)]; congr 1; omega

/-- Byte k of a word of 8 bytes. -/
theorem wordOf_byte (bs : List Byte) (k : Nat) (h : k < 8) : (wordOf bs).extractLsb' (8 * k) 8 = byteAt bs k := by
  refine BitVec.eq_of_getLsbD_eq fun i hi => ?_
  rw [BitVec.getLsbD_extractLsb', decide_eq_true hi, Bool.true_and]
  refine (append_bit _ _ _).trans ?_
  split
  · rw [wordAt_bit _ _ _ (by omega)]; congr 2 <;> omega
  · rw [wordAt_bit _ _ _ (by omega)]; congr 2 <;> omega

/-- The bytes of a word address are those of the memory. -/
theorem wordData_byte (st : TakeStore) (a : Nat) :
    (st.wordData (a / 8)).extractLsb' (8 * (a % 8)) 8 = takeByte st.mem a := by
  rw [TakeStore.wordData, wordOf_byte _ _ (Nat.mod_lt _ (by omega)), byteAt, takeBytes]
  rw [List.getD_eq_getElem _ _ (by simp; omega)]
  simp only [List.getElem_map, List.getElem_range]
  congr 1
  omega

/-- Where no word is disturbed by more than one bit, a read hands on what the memory holds (R111). -/
theorem readByte_corrected (st : TakeStore) (errs : List WordRead) (a : Nat)
    (h : ∀ e ∈ errs, e.address = a / 8 → disturbed e ≤ 1 ∧ (disturbed e = 0 → e.data = 0)) :
    st.readByte errs a = takeByte st.mem a := by
  unfold TakeStore.readByte
  split
  · rfl
  · rename_i e he
    have ha : e.address = a / 8 := by simpa using List.find?_some he
    obtain ⟨h1, h0⟩ := h e (List.mem_of_find?_eq_some he) ha
    rw [← wordData_byte st a, ← ha]
    congr 1
    unfold TakeStore.handed TakeStore.classOf
    rcases Nat.le_one_iff_eq_zero_or_eq_one.1 h1 with hd | hd
    · rw [hd]; simp [TakeStore.dataRead, h0 hd]
    · rw [hd]; simp

/-! ## The Take Store's operations -/

theorem offerError_frame (r : MemReader) (part : Word) (e : WordRead) (st : TakeStore) :
    (offerError r part e st).mem = st.mem ∧ (offerError r part e st).check = st.check ∧
    (offerError r part e st).dir = st.dir ∧ (offerError r part e st).free = st.free ∧
    (offerError r part e st).bad = st.bad ∧ (offerError r part e st).state = st.state ∧
    (offerError r part e st).heldWord = st.heldWord := by
  unfold offerError; (repeat' split) <;> exact ⟨rfl, rfl, rfl, rfl, rfl, rfl, rfl⟩

theorem countError_frame (e : WordRead) (st : TakeStore) :
    (countError e st).mem = st.mem ∧ (countError e st).check = st.check ∧ (countError e st).dir = st.dir ∧
    (countError e st).free = st.free ∧ (countError e st).bad = st.bad ∧ (countError e st).state = st.state ∧
    (countError e st).heldWord = st.heldWord := by
  unfold countError; split <;> exact ⟨rfl, rfl, rfl, rfl, rfl, rfl, rfl⟩

theorem takeErrors_frame (r : MemReader) (part : Word) (es : List WordRead) (st : TakeStore) :
    (takeErrors r part es st).mem = st.mem ∧ (takeErrors r part es st).check = st.check ∧
    (takeErrors r part es st).dir = st.dir ∧
    (takeErrors r part es st).free = st.free ∧ (takeErrors r part es st).bad = st.bad ∧
    (takeErrors r part es st).state = st.state ∧ (takeErrors r part es st).heldWord = st.heldWord := by
  induction es generalizing st with
  | nil => simp [takeErrors]
  | cons e es ih =>
    rw [takeErrors]
    have o := offerError_frame r part e (countError e st)
    have c := countError_frame e st
    have i := ih (offerError r part e (countError e st))
    simp_all

theorem mapEntry_frame (st : TakeStore) (i : Fin 32) (f : DirEntry → DirEntry) :
    (st.mapEntry i f).mem = st.mem ∧ (st.mapEntry i f).check = st.check ∧ (st.mapEntry i f).free = st.free ∧
    (st.mapEntry i f).bad = st.bad ∧ (st.mapEntry i f).state = st.state ∧ (st.mapEntry i f).heldWord = st.heldWord :=
  ⟨rfl, rfl, rfl, rfl, rfl, rfl⟩

theorem closeLast_frame (e : DirEntry) (next : Nat) (st : TakeStore) :
    (closeLast e next st).dir = st.dir ∧ (closeLast e next st).free = st.free ∧
    (closeLast e next st).bad = st.bad ∧ (closeLast e next st).state = st.state ∧
    (closeLast e next st).heldWord = none := by
  unfold closeLast
  split
  · exact ⟨rfl, rfl, rfl, rfl, rfl⟩
  · cases st.heldWord <;> simp [writeWords]

/-- Both lists of the take memory stand in canonical form. -/
abbrev TakeStore.wf (st : TakeStore) : Prop := Memory.wf st.mem ∧ Memory.wf st.check

theorem closeLast_wf (e : DirEntry) (next : Nat) (st : TakeStore) (h : st.wf) : (closeLast e next st).wf := by
  unfold closeLast
  split
  · exact h
  · cases st.heldWord with
    | none =>
      dsimp only [writeWords, TakeStore.wf]
      exact ⟨memWriteBytes_wf _ _ _ h.1, writeChecks_wf _ _ _ _ h.2⟩
    | some w =>
      dsimp only [writeWords, TakeStore.wf]
      exact ⟨memWriteBytes_wf _ _ _ (memWriteBytes_wf _ _ _ h.1), writeChecks_wf _ _ _ _ (writeChecks_wf _ _ _ _ h.2)⟩

theorem storeRecord_wf (a : Nat) (bs : List Byte) (st : TakeStore) (h : st.wf) : (storeRecord a bs st).wf := by
  unfold storeRecord; exact writeWords_wf _ _ _ h.1 h.2

theorem putRecord_wf (i : Fin 32) (bs : List Byte) (t : Word) (st : TakeStore) (h : st.wf) :
    (putRecord i bs t st).wf := storeRecord_wf _ _ _ h

theorem appendRecord_wf (i : Fin 32) (bs : List Byte) (t : Word) (st : TakeStore) (h : st.wf) :
    (appendRecord i bs t st).1.wf := by
  unfold appendRecord
  dsimp only
  split
  · split
    · exact closeLast_wf _ _ _ h
    · exact putRecord_wf _ _ _ _ (closeLast_wf _ _ _ h)
  · exact putRecord_wf _ _ _ _ h

theorem endEntry_wf (i : Fin 32) (st : TakeStore) (h : st.wf) : (endEntry i st).wf := closeLast_wf _ _ _ h

theorem testBlock_mem (part : Word) (es : List WordRead) (d : List Nat) (st : TakeStore) :
    (testBlock part es d st).mem =
      memForget st.mem (st.progress * blockBytes) ((st.progress + 1) * blockBytes) ∧
    (testBlock part es d st).check =
      memForget st.check (st.progress * blockWords) ((st.progress + 1) * blockWords) := by
  have f := takeErrors_frame .format part (es.filter fun e => wordInBlock st.progress e.address)
    (writePattern st.progress st)
  unfold testBlock completeFormat
  dsimp only
  split <;> exact ⟨f.1, f.2.1⟩

theorem testBlock_wf (part : Word) (es : List WordRead) (d : List Nat) (st : TakeStore) (h : st.wf) :
    (testBlock part es d st).wf := by
  have m := testBlock_mem part es d st
  exact ⟨m.1 ▸ memForget_wf _ _ _ h.1, m.2 ▸ memForget_wf _ _ _ h.2⟩

theorem deliver_mem (part : Word) (es : List WordRead) (r : ReadReq) (st : TakeStore) :
    (deliver part es r st).1.mem = st.mem ∧ (deliver part es r st).1.check = st.check := by
  unfold deliver
  dsimp only
  (repeat' split) <;> exact ⟨(takeErrors_frame _ _ _ _).1, (takeErrors_frame _ _ _ _).2.1⟩

theorem beginFormat_mem (st : TakeStore) : (beginFormat st).mem = st.mem ∧ (beginFormat st).check = st.check :=
  ⟨rfl, rfl⟩

theorem endFormat_mem (st : TakeStore) : (endFormat st).mem = st.mem ∧ (endFormat st).check = st.check := by
  unfold endFormat; split <;> exact ⟨rfl, rfl⟩

end Sys2Proof.Machine
end

