-- ==== Sys2Proof/Laws/Requests.lean ====
section
/-! SUPPORT. What the execution of a request can do: nothing for tag 0, a refusal in ARMING, else its own rule. -/

namespace Sys2Proof.Machine

theorem request_zero (code : Byte) (body : Body) (s : State) : request 0 code body s = s := rfl

theorem request_arming {tag code : Byte} (body : Body) {s : State} (ht : tag ≠ 0) (ha : s.mode.mode = .arming)
    (hc : armingAccepts code = false) : request tag code body s = answer tag code (plain .refusedBusy) s := by
  unfold request; rw [if_neg ht, if_pos ⟨ha, hc⟩]

theorem request_runs {tag code : Byte} (body : Body) {s : State} (ht : tag ≠ 0)
    (h : s.mode.mode ≠ .arming ∨ armingAccepts code = true) :
    request tag code body s = answer tag code (body s).2 (body s).1 := by
  unfold request
  rw [if_neg ht, if_neg]
  rintro ⟨ha, hc⟩
  rcases h with h | h
  · exact h ha
  · rw [h] at hc; cases hc

theorem request_cases (tag code : Byte) (body : Body) (s : State) :
    (tag = 0 ∧ request tag code body s = s) ∨
    (tag ≠ 0 ∧ request tag code body s = answer tag code (plain .refusedBusy) s) ∨
    (tag ≠ 0 ∧ request tag code body s = answer tag code (body s).2 (body s).1) := by
  unfold request
  split
  · exact .inl ⟨‹_›, rfl⟩
  · split
    · exact .inr (.inl ⟨‹_›, rfl⟩)
    · exact .inr (.inr ⟨‹_›, rfl⟩)

/-- The reply and the last-reply record that an answer leaves (R181, R184). -/
theorem answer_service (tag code : Byte) (r : Reply) (s : State) :
    (answer tag code r s).service =
      { staging := s.service.staging
        lastReply := some { tag := tag, code := code, result := r.result }
        reply := some (tag, r) } := rfl

end Sys2Proof.Machine
end

