-- ==== Sys2Proof/Tests/Slice0.lean ====
section
/-! SUPPORT. Tests: what WellFormed refuses, the manual's own worked cases (each cited), one step of a few commands, and
for every statement with hypotheses a state and operands that meet them. -/

namespace Sys2Proof.Tests

set_option Elab.async false

open Sys2Proof Sys2Proof.Machine Sys2Proof.Claims

/-! ## WellFormed refuses -/

theorem test_tag_zero_refused : tagOk (.identify 0) = false ∧ (Instr.identify 0).wellFormed = false := by decide

theorem test_long_stage_refused :
    stageOk (.stageWrite 1 0 (List.replicate 33 0)) = false ∧
    (Instr.stageWrite 1 0 (List.replicate 33 0)).wellFormed = false ∧
    (Instr.stageWrite 1 0 (List.replicate 32 0)).wellFormed = true := by decide

theorem test_word_twice_refused :
    let e : WordRead := { address := 7, data := 3, check := 0 }
    reportOk (.formatBlockTested [e, e] []) = false ∧ (Instr.prefetchReadComplete [e, e]).wellFormed = false ∧
    (Instr.prefetchReadComplete [e]).wellFormed = true := by decide

/-! ## States -/

/-- A MOTION descriptor of the swing in the worked cases of section 1.8. -/
def swing : Descriptor :=
  { resetDescriptor with
    cls := .motion, role := .swing, kind := .rotary, posMin := -998000, posMax := 998000, velMax := 50000
    accMax := 600, stopAcc := 1500, followLimit := 100 }

/-- A LENS descriptor of the focus motor in section 5.4. -/
def focus : Descriptor :=
  { resetDescriptor with
    cls := .lens, role := .focus, posMin := -2000, posMax := 62000, velMax := 8000, accMax := 200, stopAcc := 200
    calibSpeed := 500 }

/-- The reset state with channel 0 the swing and channel 8 the focus motor. -/
def parked : State :=
  { State.reset with cond := { State.reset.cond with
      chans := (State.reset.cond.chans.set 0 { resetChannel with desc := swing }).set 8
        { resetChannel with desc := focus } } }

/-- The same crane LIVE in a safety state. -/
def live (safety : Safety) : State :=
  { parked with
    mode := { resetMode with mode := .live }
    stop := { resetStop with safety := safety, gripMemory := true }
    pins := { resetPins with estopOutClosed := safety != .dropped, brakeReleased := safety != .dropped } }

/-- The same crane at an arming period. -/
def arming (count : Nat) : State :=
  { parked with
    mode := { resetMode with mode := .arming, count := count, granted := true }
    pins := { resetPins with estopOutClosed := true, brakeReleased := true } }

/-- A LIVE crane with a READY memory that holds one block. -/
def ready : State :=
  { live .normal with
    store := { resetStore with state := .ready, free := [5] }
    take := { resetTake with ref := { resetReference with required := false } } }

/-- A COMPLETE take 7 of channel 0: two records in block 5, one mark. -/
def takeSeven : DirEntry :=
  { emptyEntry with
    state := .complete, take := 7, mask := 1, cyclesPerFrame := 10, length := 2, blocks := [5], perBlock := 2046
    marks := [1] }

/-- The same crane with take 7 in entry 0 and a play state. -/
def playing (p : PlayState) : State :=
  { ready with
    store := { ready.store with free := [], dir := resetStore.dir.set 0 takeSeven }
    take := { ready.take with play := { idlePlayback with state := p, take := 7, mask := 1 } } }

/-- The same crane while entry 1 records take 8, at a record index. -/
def recording (state : RecState) (index : Nat) : State :=
  { ready with
    store := { ready.store with
      dir := resetStore.dir.set 1
        { takeSeven with state := .recording, take := 8, length := index, marks := [], cyclesPerFrame := 40 } }
    take := { ready.take with recording := { idleRecording with state := state, entry := 1, take := 8, index := index } } }

/-- A link whose two receivers listen. -/
def framed (s : State) : State :=
  let rx : Receiver := { sync := .framed, validRun := 0, score := 0, goodRun := 0 }
  { s with link := { s.link with portC := { resetPort with rx := rx }, portD := { resetPort with rx := rx } } }

/-- An in-flight entry of a part counter, sent at a time with ENABLE in slot 0. -/
def entry (part : Word) (sent : Nat) : InFlight :=
  { part := part, consoleCycle := none, kind := .subst, sendTime := sent, timecode := 0, phase := 0, sync := .noRef
    service := none
    outputs := (Vector.replicate 12 { value := 0, enable := false, calibrated := false }).set 0
      { value := 0, enable := true, calibrated := false } }

/-- A state with entries in flight. -/
def flying (s : State) (list : List InFlight) : State := { s with link := { s.link with inFlight := list } }

/-! ## The manual's worked cases -/

/-- The limiter's channel of section 1.8. -/
def swingAt (p v : Int) : Channel := { resetChannel with desc := swing, outPos := p, outVel := v }

/-- Section 1.8, worked case 1. -/
theorem test_limiter_slowed :
    let r := (limiter (-998000) 998000 24 260000 (swingAt 200000 4500)).1
    r.outPos = 204687 ∧ r.outVel = 4687 ∧ r.flags = { noFlags with velLimited := true } := by decide +kernel

/-- Section 1.8, worked case 2. -/
theorem test_limiter_brakes :
    let r := (limiter (-998000) 998000 256 260000 (swingAt 245000 4687)).1
    r.outPos = 249242 ∧ r.outVel = 4242 := by decide +kernel

/-- Section 1.8, worked case 3: the overshoot, then the ramp. -/
theorem test_limiter_overshoot :
    let u := limiter (-998000) 998000 256 996000 (swingAt 995000 5000)
    let w := ramp (-998000) 998000 u.1
    u.2 = true ∧ u.1.outPos = 998000 ∧ u.1.outVel = 3000 ∧
    u.1.flags = { noFlags with accLimited := true, limitHit := true } ∧
    w.2 = true ∧ w.1.outPos = 998000 ∧ w.1.outVel = 0 := by decide +kernel

/-- Section 2.4, worked case. -/
theorem test_head_position :
    headPosition { height := 2000000, base := 3000000, headDecel := 4 } 131072 1536 1500000 500000 =
      { x := 3681818, y := 3181818, z := 2041473 } := by decide +kernel

/-- Section 2.4: the sine and the cosine of 1,536 counts; R34: a quarter turn is 32,768. -/
theorem test_sine_table :
    sinAngle 1536 = 302 ∧ cosAngle 1536 = 32767 ∧ sinAngle 262144 = 32768 ∧ sinAngle (-262144) = -32768 ∧
    cosAngle 262144 = 0 := by decide +kernel

/-- R32: the seven entries the manual prints. -/
theorem test_sine_entries :
    [0, 1, 2, 128, 254, 255, 256].map sineEntry = [0, 201, 402, 23170, 32766, 32767, 32768] := by decide +kernel

/-- Section 2.5, part counters 1,003 and 1,004. -/
theorem test_head_speed :
    headSpeedOf { x := 3681818, y := 3181818, z := 2041473 } 1003
      (some ({ x := 3679418, y := 3181018, z := 2041873 }, 1001)) = 1200 ∧
    headSpeedOf { x := 3683019, y := 3182218, z := 2041273 } 1004
      (some ({ x := 3681818, y := 3181818, z := 2041473 }, 1003)) = 1201 := by decide +kernel

/-- The zone of section 3.4. -/
def seating : ZoneRec :=
  { enabled := true, crew := false, line := 0, xmin := 3000, xmax := 5000, ymin := 3500, ymax := 6000, zmin := 0
    zmax := 2500, guardStop := 100, slowWidth := 400 }

/-- Section 3.4, worked case, and the stop band 38,183 µm closer. -/
theorem test_zone_slows :
    clearance seating { x := 3681818, y := 3181818, z := 2041473 } = 318182 ∧ stopAt seating 1200 4 = 280000 ∧
    bandOf 318182 280000 400 = (.slow, 24) ∧ bandOf 279999 280000 400 = (.stop, 0) ∧
    bandOf 680001 280000 400 = (.clear, 256) ∧ bandOf 280001 280000 0 = (.clear, 256) := by decide +kernel

/-- Section 3.4, the crew zone's release hold of 3. -/
theorem test_crew_release :
    let up := sampleLine 3 true
    let off := sampleLine 3 false
    let l : CrewLine := { active := false, count := 0 }
    off (up l) = { active := true, count := 1 } ∧ off (off (up (off (up l)))) = { active := true, count := 2 } ∧
    off (off (off (up (off (up l))))) = { active := false, count := 0 } := by decide

/-- The zoom map of section 5.2. -/
def zoomMap : LensMap := { mapId := 1, points := [(500, 1200), (1000, 5200), (2000, 8200), (5000, 10000)], crc := 0 }

/-- The iris map of section 5.2. -/
def irisMap : LensMap := { mapId := 2, points := [(100, 9000), (400, 6000), (1600, 1000)], crc := 0 }

/-- Section 5.2, both worked cases. -/
theorem test_lens_maps :
    forwardMap zoomMap 2004 = (8202, false) ∧ inverseMap zoomMap 8201 = (2002, false) ∧
    inverseMap zoomMap 8202 = (2003, false) ∧ forwardMap zoomMap 750 = (3200, false) ∧
    forwardMap zoomMap 1000 = (5200, false) ∧ forwardMap zoomMap 400 = (1200, true) ∧
    inverseMap zoomMap 12000 = (5000, true) ∧ forwardMap irisMap 250 = (7500, false) ∧
    forwardMap irisMap 401 = (5996, false) ∧ forwardMap irisMap 403 = (5987, false) ∧
    inverseMap irisMap 5987 = (403, false) ∧ inverseMap irisMap 9500 = (100, true) := by decide +kernel

/-- Section 5.4, frames 3 and 45: the seek step at calib_speed, and at the seek limit. -/
theorem test_seek_step :
    let c (p v : Int) : Channel := { resetChannel with desc := focus, outPos := p, outVel := v }
    let step := seekStep (-2000) 62000 true (-2000)
    (step (c 19400 (-400))).outPos = 18900 ∧ (step (c 19400 (-400))).outVel = -500 ∧
    (step (c (-1600) (-500))).outPos = -2000 ∧ (step (c (-1600) (-500))).outVel = -400 := by decide +kernel

/-- R101, R27: a seek that begins while the motor runs the other way is kept inside the other effective limit. -/
theorem test_seek_step_inside :
    let c : Channel := { resetChannel with desc := focus, outPos := 61900, outVel := 400 }
    let d := seekStep (-2000) 62000 true (-2000) c
    d.outPos = 62000 ∧ d.outVel = 100 ∧ d.target = -2000 ∧ d.flags.limitHit = false := by decide +kernel

/-- Section 5.4, frame 60: the window of 150 and 151 is a stall, and found_min is 150. -/
theorem test_stall_found :
    let l : LensChannel :=
      { resetLens with
        cal := .seekLow, seekLow := -2000, seekHigh := 62000, phaseFrom := some 1
        window := List.replicate 18 150 ++ [151] }
    let c : Channel := { resetChannel with desc := focus, outPos := -2000, feedback := 150 }
    (stallStep 60 c l).cal = .seekHigh ∧ (stallStep 60 c l).foundMin = some 150 ∧
    (stallStep 60 c l).apply = some 150 := by decide +kernel

/-- Section 6.5: record 650 of a take of 12 channels lies at place 2 of its block list, from byte 1,160 on. -/
theorem test_record_place :
    let e : DirEntry := { takeSeven with mask := 0xFFF, length := 1000, blocks := [0, 1, 2, 3], perBlock := 314 }
    let r := readOf 0 e 650 true
    recordsPerBlock 0xFFF = 314 ∧ r.block = 2 ∧ r.address = 2 * 16384 + 1160 ∧ r.recordWord 4241 = true ∧
    r.recordWord 4247 = true ∧ r.recordWord 4240 = false ∧ r.recordWord 4248 = false := by decide +kernel

/-- Section 6.2, events 1 to 4, each word disturbed in one bit or in two. -/
theorem test_memory_errors :
    let e (a : Nat) (d : BitVec 64) (c : Byte) : WordRead := { address := a, data := d, check := c }
    let st := takeErrors .playback 9 [e 4241 4 0, e 9000 0 0x80, e 4245 1 1, e 4250 3 0] resetStore
    st.correctable = 2 ∧ st.uncorrectable = 2 ∧
    (st.errRecord.map fun r => (r.address, r.kind, r.part, r.doubleAfterSingle)) = some (4241, .single, 9, true) := by
  decide +kernel

/-- R111: a word with one bit disturbed is read as it was written; R110: its 8 check bits stand beside its bytes. -/
theorem test_word_corrected :
    let st := writeWords 16 [1, 2, 3, 4, 5, 6, 7, 8] resetStore
    let e : WordRead := { address := 2, data := 0x4000000000000000, check := 0 }
    st.classOf e = .single ∧ st.readBytes [e] 16 8 = [1, 2, 3, 4, 5, 6, 7, 8] ∧
    st.dataRead e = 0x4807060504030201 ∧
    memRead st.check 2 = some (Config.checkBits 0x0807060504030201) := by
  refine ⟨?_, ?_, ?_, rfl⟩ <;> decide +kernel

/-- Section 7.1, frames 130, 139 and 159. -/
theorem test_sync_table :
    let r : Reference := { resetReference with cyclesPerFrame := 10, lastStart := .pulse, sync := .measuring, phase := 9 }
    let p130 := placeReference { r with pulseSeen := true, goodRun := 2 }
    let p139 := placeReference { r with pulseSeen := true, sync := .locked, goodRun := 3, phase := 8 }
    let p159 := placeReference { r with goodRun := 1 }
    p130.1.sync = .locked ∧ p130.1.goodRun = 3 ∧ p130.2 = false ∧
    p139.1.sync = .measuring ∧ p139.1.distance = 9 ∧ p139.2 = true ∧ p139.1.slips = 1 ∧
    p159.1.startKind = .flywheel ∧ p159.1.distance = 10 ∧ p159.1.goodRun = 0 := by decide

/-- Section 8.1, the embed mask of all fields: TAKE and SAFETY find no room, and byte 0 names what is there. -/
theorem test_tracking_fit :
    let fields := [4, 6, 12, 12, 12, 4, 2].map fun n => (true, List.replicate n (0xAA : Byte))
    (trackingArea 0x7F fields).length = 48 ∧ byteAt (trackingArea 0x7F fields) 0 = 0x1F ∧
    byteAt (trackingArea 0x7F fields) 46 = 0xAA ∧ byteAt (trackingArea 0x7F fields) 47 = 0 ∧
    byteAt (trackingArea 0x77 fields) 0 = 0x77 ∧ byteAt (trackingArea 0x77 fields) 40 = 0xAA ∧
    byteAt (trackingArea 0x77 fields) 41 = 0 := by decide +kernel

/-- Section 9.2: the counter under ROLL reaches its threshold at 254, and again at 3 after it has rolled. -/
theorem test_counter_rolls :
    let k : PerKind Counter :=
      { symbol := { count := 0, atThreshold := false, spent := false }
        crc := { count := 253, atThreshold := false, spent := false }
        sequence := { count := 0, atThreshold := false, spent := false } }
    let s : State :=
      { framed parked with link := { (framed parked).link with
          portD := { (framed parked).link.portD with
            counters := k, threshold := 3, roll := { symbol := false, crc := true, sequence := false } } } }
    let once := portError .d .crc s
    let third := portError .d .crc (portError .d .crc once)
    let sixth := portError .d .crc (portError .d .crc (portError .d .crc third))
    once.link.portD.counters.crc = { count := 254, atThreshold := true, spent := true } ∧
    third.link.portD.counters.crc = { count := 0, atThreshold := true, spent := false } ∧
    sixth.link.portD.counters.crc = { count := 3, atThreshold := true, spent := true } := by decide +kernel

/-- Section 10.3: the fault record with its optional items is 140 bytes, four pages of 35. -/
theorem test_fault_pages :
    let s := takeCause { name := .zoneStop, channel := some 0, zone := some 0, value := some 279999 }
      (takeCause { name := .zoneStop, channel := some 0, zone := some 0, value := some 279999 } (live .normal))
    (faultContent s).length = 140 ∧ (pageReply (faultContent s) 3).result = .ok ∧
    (pageReply (faultContent s) 3).data.length = 37 ∧ (pageReply (faultContent s) 4).result = .badParam := by
  decide +kernel

/-! ## The service field (sections 10.1 and 10.4) -/

theorem test_field_identify : decodeService ([9, 0x01] ++ List.replicate 38 0) = .command (.identify 9) := by decide

theorem test_field_set_stop :
    decodeService ([9, 0x25, 2, 0xF4, 0x01] ++ List.replicate 35 0) = .command (.setStop 9 500) := by decide

theorem test_field_record :
    decodeService ([9, 0x30, 4, 0x0F, 0x27, 0x01, 0x08] ++ List.replicate 33 0) =
      .command (.record 9 9999 0x0801) := by decide

theorem test_field_commit :
    decodeService ([9, 0x19, 8, 2, 8, 0x14, 0, 0x78, 0x56, 0x34, 0x12] ++ List.replicate 29 0) =
      .command (.commitLensMap 9 8 20 0x12345678) := by decide

theorem test_field_read_status :
    decodeService ([9, 0x02, 3, 4, 0, 3] ++ List.replicate 34 0) = .command (.readStatusFaultRecord 9 0 3) := by decide

theorem test_field_rejected :
    decodeService ([9, 0x55] ++ List.replicate 38 0) = .rejected 9 0x55 .unknownCode ∧
    decodeService ([9, 0x55, 38] ++ List.replicate 37 0) = .rejected 9 0x55 .tooLong ∧
    decodeService ([9, 0x25, 3] ++ List.replicate 37 0) = .rejected 9 0x25 .wrongLength ∧
    decodeService ([9, 0x02, 3, 12] ++ List.replicate 36 0) = .rejected 9 0x02 .badSelector := by decide

theorem test_field_round_trip :
    let i : Instr := .setLink 1 1 3 7 0 1 0 1 400
    i.wellFormed = true ∧ (encodeService i).map decodeService = some (.command i) := by decide

/-! ## One step -/

/-- The command at the front of the queue runs, and the rest of the queue stays. -/
theorem test_step_takes_front :
    (match step { parked with pending := [.setStop 1 9, .identify 2] } with
      | .next t => some (t.pending, t.stop.stopLimit)
      | _ => none) = some ([.identify 2], 10) := by decide +kernel

/-- The state an outcome goes on with. -/
def after (o : Host.Outcome State Fault Refusal) : State :=
  match o with
  | .next t => t
  | _ => State.reset

/-- R194 item 1: nothing to arm; a crane with its focus motor lacks a map (item 4). -/
theorem test_arm_checks :
    (after (exec (.arm 1) State.reset)).mode.check.detail = some { channel := none, item := 1 } ∧
    (after (exec (.arm 1) parked)).mode.check.detail = some { channel := some 8, item := 4 } ∧
    (after (exec (.arm 1) parked)).mode.mode = .parked := by decide +kernel

/-- R74, R67: STOP in LIVE begins a controlled stop. -/
theorem test_stop_begins :
    (after (exec (.stop 1) (live .normal))).stop.safety = .stopping ∧
    (after (exec (.stop 1) (live .normal))).pins.estopOutClosed = true := by decide +kernel

/-- R80, R68: an open chain drops a LIVE crane. -/
theorem test_estop_drops :
    (after (exec (.estopInOpen 100) (live .normal))).stop.safety = .dropped ∧
    (after (exec (.estopInOpen 100) (live .normal))).pins.brakeReleased = false ∧
    after (exec (.estopInOpen 99) (live .normal)) = live .normal := by decide +kernel

/-- R129: after a pin reset the first frame without a pulse is a frame-start period of the flywheel. -/
theorem test_first_frame_flywheel : (placeReference resetReference).1.startKind = .flywheel := by decide

/-- R44, R190: the CRC-32 of the empty bank, and the check value commonly published for this CRC (not the manual's). -/
theorem test_crc :
    crc32 [0, 0, 0, 0] = 0x2144DF1C ∧
    crc32 [0x31, 0x32, 0x33, 0x34, 0x35, 0x36, 0x37, 0x38, 0x39] = 0xCBF43926 := by decide +kernel

/-! ## Witnesses: for each statement, states and operands that meet its hypotheses -/

theorem witness_StepRunsFrontCommand :
    ({ parked with pending := [.identify 2, .zoneSwap 3] } : State).pending = .identify 2 :: [.zoneSwap 3] ∧
    parked.pending = [] := ⟨rfl, rfl⟩

theorem witness_QueueKeptTimerRises :
    exec .armingDecision parked = .next parked ∧ (∀ h, Instr.armingDecision ≠ .pinReset h) :=
  ⟨rfl, by intro h; simp⟩

theorem witness_RequestLeavesItsReply :
    (Instr.setStop 1 9).tag? = some 1 ∧ (1 : Byte) ≠ 0 ∧ encodeParams (.setStop 1 9) = some (0x25, [9, 0]) ∧
    ((after (exec (.resume 1) parked)).service.reply.map fun r => r.2.result) = some .refusedMode := by decide +kernel

theorem witness_ArmingRefusesRequests :
    (Instr.zoneSwap 0).tag? = some 0 ∧
    (arming 1).mode.mode = .arming ∧ (Instr.zoneSwap 1).tag? = some 1 ∧ (1 : Byte) ≠ 0 ∧
    encodeParams (.zoneSwap 1) = some (0x1A, []) ∧ stageOk (.zoneSwap 1) = true ∧
    (0x1A : Byte) ∉ ([0x01, 0x02, 0x20, 0x21, 0x22, 0x7F] : List Byte) := by decide

theorem witness_ServiceFieldRoundTrip :
    (Instr.stageWrite 255 1024 (List.replicate 32 7)).wellFormed = true ∧
    (encodeService (.stageWrite 255 1024 (List.replicate 32 7))).isSome = true := by decide

/-- Tag 0; length 38; an unknown code; one parameter byte too many; 33 bytes staged; a request and its effect. -/
theorem witness_FieldsServed :
    byteAt (List.replicate 40 (0 : Byte)) 0 = 0 ∧
    (byteAt [1, 0x01, 38] 0 ≠ 0 ∧ 37 < (byteAt [1, 0x01, 38] 2).toNat) ∧
    ((byteAt [1, 0x00, 37] 2).toNat ≤ 37 ∧ knownCode (byteAt [1, 0x00, 37] 1).toNat = false) ∧
    (knownCode 0x01 = true ∧ (byteAt [1, 0x01, 1] 2).toNat ≠ paramLength 0x01 0) ∧
    (byteAt [1, 0x18, 36, 0, 0, 33] 1 = 0x18 ∧ (byteAt [1, 0x18, 36, 0, 0, 33] 2).toNat ≤ 37 ∧
      32 < (byteAt [1, 0x18, 36, 0, 0, 33] 5).toNat) ∧
    (decodeService ([1, 0x22] ++ List.replicate 38 0) = .command (.stop 1) ∧
      exec (.stop 1) parked = .next (after (exec (.stop 1) parked))) := by
  refine ⟨?_, ?_, ?_, ?_, ?_, ?_, rfl⟩ <;> decide

/-- The first selector and the first target outside their sets. -/
theorem witness_FieldsServed_sets :
    byteAt [1, 0x02, 3, 12] 0 ≠ 0 ∧ byteAt [1, 0x02, 3, 12] 1 = 0x02 ∧ byteAt [1, 0x02, 3, 12] 2 = 3 ∧
    12 ≤ (byteAt [1, 0x02, 3, 12] 3).toNat ∧ byteAt [1, 0x19, 8, 3] 0 ≠ 0 ∧ byteAt [1, 0x19, 8, 3] 1 = 0x19 ∧
    byteAt [1, 0x19, 8, 3] 2 = 8 ∧ 3 ≤ (byteAt [1, 0x19, 8, 3] 3).toNat ∧ (arming 1).mode.mode = .arming ∧
    parked.mode.mode ≠ .arming := by decide

theorem witness_IdentifyReplies : (255 : Byte) ≠ 0 := by decide

theorem witness_StatusRepliesItsPage :
    (1 : Byte) ≠ 0 ∧ (11 : Byte).toNat = (11 : Fin 12).val ∧ 12 ≤ (12 : Byte).toNat ∧
    (31 : Byte).toNat = (31 : Fin 32).val ∧ 32 ≤ (32 : Byte).toNat := by decide

/-- The fields of an accepted and of a refused SET_CHANNEL: pos_min below pos_max, and not. -/
def swingFields (lo hi : Word) : ChannelFields :=
  { posMin := lo, posMax := hi, velMax := 1048576, accMax := 600, stopAcc := 600, followLimit := 0, catchWindow := 0
    cueTolerance := 0, calibSpeed := 0 }

theorem witness_SetChannelTaken :
    (arming 1).mode.mode = .arming ∧ (live .normal).mode.mode = .live ∧ parked.mode.mode = .parked ∧
    12 ≤ (12 : Byte).toNat ∧ (0 : Byte).toNat = (0 : Fin 12).val ∧
    descriptorFits parked 0 1 1 0 (swingFields 4 5) ∧ ¬ descriptorFits parked 0 1 1 0 (swingFields 5 5) ∧
    clsOf? 1 = some .motion ∧ roleOf? 1 = some .swing := by
  refine ⟨rfl, rfl, rfl, by decide, rfl, ?_, ?_, rfl, rfl⟩
  · refine ⟨by decide, by decide, by decide, by unfold roleFits; decide, by decide, by decide, by decide, ?_⟩
    intro h; exact absurd h (by decide)
  · rintro ⟨_, _, _, _, _, h, _⟩; exact absurd (h (by decide)).1 (by decide)

theorem witness_SetSourceTaken :
    (arming 1).mode.mode = .arming ∧ (live .dropped).stop.safety = .dropped ∧ (live .held).mode.mode = .live ∧
    (live .held).stop.safety ≠ .dropped ∧ 3 < (4 : Byte).toNat ∧ 4096 ≤ (0x1000 : Half).toNat ∧
    (0x0FFF : Half).toNat < 4096 ∧ sourceOf? 3 = some .hold := by decide

theorem witness_OutputsStayInside :
    (-998000 : Int) ≤ (swingAt 998000 50000).outPos ∧ (swingAt 998000 50000).outPos ≤ 998000 ∧
    (swingAt 998000 50000).outVel.natAbs ≤ (swingAt 998000 50000).desc.velMax ∧
    (ramp (-998000) 998000 (swingAt 0 1500)).2 = false := by decide +kernel

/-- A LIVE crane with the swing at an output and a velocity. -/
def moved (p v : Int) (s : State) : State :=
  { s with cond := { s.cond with chans := s.cond.chans.set 0 (swingAt p v) } }

/-- A record of one channel that waits in the playback's queue. -/
def queued (index : Nat) (good : Bool) (value : Int) : QueuedRecord :=
  { index := index, good := good, frameStart := false, slip := false, marked := false, phase := 0, values := [value] }

/-- The three classes; a lens channel with a map, with a found value in and after a calibration, and one period before
the time limit. -/
theorem witness_SlotsCarryOutputs_channel :
    resetDescriptor.cls = .unused ∧ swing.cls = .motion ∧ focus.cls = .lens ∧
    (condContext (live .normal)).mode = .live ∧ (condContext (live .normal)).safety = .normal ∧
    (condContext (live .stopping)).safety = .stopping ∧ (condContext (live .held)).safety = .held ∧
    (condContext (live .dropped)).safety = .dropped ∧ resetLens.cal ≠ .seekLow ∧ resetLens.cal ≠ .seekHigh ∧
    resetLens.apply = none ∧ resetLens.active = none ∧
    ({ resetLens with active := some zoomMap } : LensChannel).active = some zoomMap ∧
    ({ resetLens with cal := .seekHigh, apply := some 150 } : LensChannel).calibrating = true ∧
    ({ resetLens with cal := .done, apply := some 150 } : LensChannel).calibrating = false ∧
    ({ resetLens with cal := .seekLow, count := 29999 } : LensChannel).calibrating = true ∧ 29999 < 30000 ∧
    ({ resetLens with cal := .seekLow, count := 30000 } : LensChannel).calibrating = true ∧ 30000 ≤ 30000 := by decide

/-- An output at each effective limit of the focus motor, and a found value at one. -/
theorem witness_SlotsCarryOutputs_inside :
    let c (p : Int) : Channel := { resetChannel with desc := focus, outPos := p }
    let l : LensChannel := { resetLens with cal := .seekHigh, apply := some (-2000) }
    focus.cls ≠ .unused ∧ effMin (c (-2000)) l ≤ -2000 ∧ -2000 ≤ effMax (c (-2000)) l ∧
    effMin (c 62000) resetLens ≤ 62000 ∧ 62000 ≤ effMax (c 62000) resetLens ∧
    ∀ p, l.apply = some p → effMin (c (-2000)) l ≤ p ∧ p ≤ effMax (c (-2000)) l := by
  refine ⟨by decide, by decide, by decide, by decide, by decide, ?_⟩
  rintro p ⟨⟩
  decide

/-- A frame that hits a limit and one that does not; a stop at rest, one a frame before its limit and one at it; a cue
at its record and one without; a take at its last record and one before it. -/
theorem witness_SlotsCarryOutputs_frame :
    let r (s : State) := conditionAll (supply s).2 (supply s).1
    let timed (n : Nat) : State := { moved 0 5000 (live .stopping) with stop := { (live .stopping).stop with stopTimer := n } }
    let cue (q : List QueuedRecord) : State :=
      { playing .cueing with take := { (playing .cueing).take with play := { (playing .cueing).take.play with queue := q } } }
    let last (n : Nat) : State :=
      { playing .running with take := { (playing .running).take with
        play := { (playing .running).take.play with index := n, queue := [queued (n + 1) true 0] } } }
    ((r (moved 998000 5000 (live .normal)))[(0 : Fin 12)]).hit = true ∧
    (∀ n : Fin 12, ((r (live .normal))[n]).hit = false) ∧
    (supply (live .normal)).1.stop.safety = .normal ∧
    (∀ n : Fin 12, ((r (live .stopping))[n]).chan.outVel = 0) ∧ ((r (timed 0))[(0 : Fin 12)]).chan.outVel ≠ 0 ∧
    (timed 499).stop.stopLimit ≤ min (499 + 1) 65535 ∧ min (498 + 1) 65535 < (timed 498).stop.stopLimit ∧
    (supply (cue [queued 0 true 0])).1.take.play.queue = queued 0 true 0 :: [] ∧
    ((r (cue [queued 0 true 0]))[(0 : Fin 12)]).chan.outVel = 0 ∧
    (supply (last 0)).1.take.play.state = .running ∧
    ((supply (last 0)).1.store.dir[(0 : Fin 32)]).length ≤ (supply (last 0)).1.take.play.index + 1 ∧
    (last 0).take.recording.state ≠ .recording ∧ (recording .recording 39).take.recording.state = .recording ∧
    (∀ n : Fin 12, ((r (recording .recording 39))[n]).hit = false) := by
  decide +kernel

/-- A Capture Unit armed with a condition of a kind, scope ANY. -/
def armedFor (kind : CaptureKind) (value : Word) : CaptureUnit :=
  { resetCapture with
    state := .armed
    condition := some { kind := kind, channel := 0, value := value, direction := .up, scope := .any } }

/-- R158, R159: a frame of a LIVE crane without a hit trips an OUTPUT_CROSSES condition whose value its output crosses,
and one of a recording the TAKE_INDEX condition of its record's index. -/
theorem witness_SlotsCarryOutputs_capture :
    let o : Outbound :=
      { kind := .subst, consoleCycle := none, flags := 0, timecode := 0, slots := Vector.replicate 12 { flag := 0, value := 0 }
        service := [] }
    let pl : Placement := { phase := 0, start := .none, slip := false, sync := .noRef }
    let run (s : State) (u : CaptureUnit) := (finishOutbound o pl { s with capture := u }).capture.state
    run (live .normal) { armedFor .outputCrosses 0 with previous := some (-5) } = .tripped ∧
    run (live .normal) { armedFor .outputCrosses 0 with previous := some 0 } = .armed ∧
    run (playing .running) (armedFor .takeIndex 1) = .tripped ∧ run (playing .running) (armedFor .takeIndex 0) = .armed ∧
    (∀ n : Fin 12, ((conditionAll (supply (live .normal)).2 (supply (live .normal)).1)[n]).hit = false) ∧
    CaptureKind.takeIndex ≠ .anyStop := by
  decide +kernel

/-- A crane with a record, a SWING and a LIFT channel. -/
def twoAxes : Vector Channel 12 :=
  parked.cond.chans.set 1 { resetChannel with desc := { swing with role := .lift }, feedback := 1536 }

theorem witness_HeadEvaluated :
    State.reset.geo.record = none ∧ roleFeedback twoAxes .swing = some 0 ∧ roleFeedback twoAxes .lift = some 1536 ∧
    (let g : Geometry :=
      { resetGeometry with
        record := some { height := 2000000, base := 3000000, headDecel := 4 }
        reference := some ({ x := 0, y := 0, z := 0 }, 1001) }
     g.record = some { height := 2000000, base := 3000000, headDecel := 4 } ∧
     g.reference = some ({ x := 0, y := 0, z := 0 }, 1001) ∧ (1003 : Word) ≠ 1001) := by decide +kernel

/-- A head that has not moved between two evaluations. -/
theorem witness_HeadEvaluated_still :
    let g : Geometry := { resetGeometry with record := some { height := 2000000, base := 3000000, headDecel := 4 } }
    let first := evaluateHead twoAxes 1001 g
    first.reference.isSome = true ∧ first.headSpeed = 0 ∧ (1003 : Word) ≠ 1001 ∧
    (evaluateHead twoAxes 1003 first).head = first.head ∧ (evaluateHead twoAxes 1003 first).headSpeed = 0 := by
  decide +kernel

/-- Each band at both its edges. -/
theorem witness_BandsFromClearance :
    seating.xmin < seating.xmax ∧ seating.ymin < seating.ymax ∧ seating.zmin < seating.zmax ∧ 0 < 4 ∧ 0 < 1200 ∧
    (280000 : Int) ≤ stopAt seating 1200 4 ∧ stopAt seating 1200 4 < (280001 : Int) ∧
    (680000 : Int) ≤ stopAt seating 1200 4 + 400 * 1000 ∧ stopAt seating 1200 4 + 400 * 1000 < (680001 : Int) := by
  decide +kernel

theorem witness_SpeedScaleFormed :
    activeZonesOf resetZone.crew resetZone.activeOne = [] ∧ resetGeometry.head = none ∧
    (let z : ZoneMonitor := { resetZone with bankA := { emptyBank with zones := [seating] } }
     activeZonesOf z.crew z.activeOne = [(0, seating)] ∧ z.cursor = .header ∧ 0 < z.activeOne.zones.length ∧
     (verifyStep 9 (verifyStep 9 z)).cursor = .header ∧ (verifyStep 9 (verifyStep 9 z)).pass = .mismatch ∧
     (formScale { resetGeometry with head := some { x := 3681818, y := 3181818, z := 2041473 }, headSpeed := 1200
                                     record := some { height := 0, base := 0, headDecel := 4 } } z).scale = 24) := by
  decide +kernel

/-- The release hold of 0 taken as 1, the count of a hold of 3 just short of it, and the last count before it. -/
theorem witness_CrewLinesFollow :
    let up (n : Nat) : CrewLine := { active := true, count := n }
    (up 0).active = true ∧ (if resetZone.activeOne.releaseHold = 0 then 1 else resetZone.activeOne.releaseHold) = 1 ∧
    1 ≤ min ((up 0).count + 1) 10000 ∧ 3 ≤ min ((up 2).count + 1) 10000 ∧ ¬ 3 ≤ min ((up 1).count + 1) 10000 ∧
    (resetZone.crew[(0 : Fin 4)]).active = false := by decide

theorem witness_StageWriteCopies :
    parked.mode.mode ≠ .arming ∧ parked.service.staging.length = 1024 ∧
    (List.replicate 32 (1 : Byte)).length ≤ 32 ∧ 1024 < (993 : Half).toNat + 32 ∧ (992 : Half).toNat + 32 ≤ 1024 := by
  refine ⟨by decide, List.length_replicate, ?_, ?_, ?_⟩ <;> decide

/-- A staging buffer that begins with an image. -/
def staged (image : List Byte) (s : State) : State := { s with service := { s.service with staging := image } }

theorem witness_CommitGeometryTaken :
    let image := u32 20000000 ++ (u32 20000000 ++ u32 1000)
    let s := staged image parked
    (∀ m n : Fin 12, (s.cond.chans[m]).desc.role = .reach → (s.cond.chans[n]).desc.role = .reach → m = n) ∧
    s.mode.mode = .parked ∧ (12 : Half).toNat = 12 ∧ (11 : Half).toNat ≠ 12 ∧
    crc32 (s.service.staging.take 12) = crc32 image ∧ crc32 image ≠ 0 ∧
    (wordAt image 0).toNat ≤ 20000000 ∧ (wordAt image 4).toNat ≤ 20000000 ∧ 1 ≤ (wordAt image 8).toNat ∧
    (wordAt image 8).toNat ≤ 1000 ∧ 1000 < (wordAt (u32 1 ++ (u32 1 ++ u32 1001)) 8).toNat ∧
    (∀ n : Fin 12, (s.cond.chans[n]).desc.cls = .motion → (s.cond.chans[n]).desc.role = .reach → False) := by
  decide +kernel

theorem witness_CommitZoneShadowTaken :
    let image := bankHeader 1 10000 ++ [seating].flatMap zoneBytes
    let s := staged image parked
    s.zone.swapPending = false ∧ [seating].length ≤ 32 ∧ (24 : Half).toNat = image.length ∧
    s.service.staging.take image.length = image ∧ crc32 image ≠ 0 ∧
    ((after (exec (.commitZoneShadow 1 0 24 (crc32 image)) s)).service.reply =
      some (1, { result := .ok, data := [] })) ∧
    ({ s with zone := { s.zone with swapPending := true } } : State).zone.swapPending = true := by decide +kernel

/-- Each check of R46 at its edge: a length below and above, a checksum that differs, a count and a hold past their
range, a length that is not the count's, and zone records with a field outside its set or range. -/
theorem witness_CommitZoneShadowTaken_refusals :
    let image (count hold : Nat) (zones : List ZoneRec) := bankHeader count hold ++ zones.flatMap zoneBytes
    let run (bytes : List Byte) (crc : Word) :=
      ((after (exec (.commitZoneShadow 1 0 (BitVec.ofNat 16 bytes.length) crc) (staged bytes parked))).service.reply.map
        fun r => r.2.result)
    let good := image 1 10000 [seating]
    run (good.take 3) (crc32 (good.take 3)) = some .badParam ∧ run good (crc32 good + 1) = some .badChecksum ∧
    (∀ bad ∈ [image 33 0 [], image 1 10001 [seating], image 2 0 [seating], image 1 0 [{ seating with xmin := 5000 }],
        image 1 0 [{ seating with crew := true, line := 4 }], image 1 0 [{ seating with guardStop := 5001 }],
        image 1 0 [{ seating with slowWidth := 10001 }], good.set 4 2, good.set 5 2],
      run bad (crc32 bad) = some .badParam) ∧
    1024 < (1025 : Half).toNat ∧ run good (crc32 good) = some .ok ∧
    run (image 1 0 [{ seating with guardStop := 5000, slowWidth := 10000 }])
      (crc32 (image 1 0 [{ seating with guardStop := 5000, slowWidth := 10000 }])) = some .ok := by
  decide +kernel

theorem witness_CommitLensMapLoads :
    let points : List (Int × Int) := [(-2147483648, 2147483647), (2147483647, -2147483648)]
    let image := u16 65535 ++ (u16 2 ++ points.flatMap fun p => i32 p.1 ++ i32 p.2)
    let s := staged image parked
    (8 : Byte).toNat = (8 : Fin 12).val ∧ (s.cond.chans[(8 : Fin 12)]).desc.cls = .lens ∧
    (∀ p ∈ points, int32Min ≤ p.1 ∧ p.1 ≤ int32Max ∧ int32Min ≤ p.2 ∧ p.2 ≤ int32Max) ∧
    (points.map Prod.fst).Pairwise (· < ·) ∧ (points.map Prod.snd).Pairwise (· > ·) ∧
    (20 : Half).toNat = image.length ∧ s.service.staging.take image.length = image ∧ crc32 image ≠ 0 := by
  decide +kernel

/-- Each check of R91 at its edge: a channel past the last, one not LENS, a length below and above, a checksum that
differs, and an image with one point, with map_id 0, with values that do not rise and with counts that turn. -/
theorem witness_CommitLensMapLoads_refusals :
    let image (id : Nat) (points : List (Int × Int)) :=
      u16 id ++ (u16 points.length ++ points.flatMap fun p => i32 p.1 ++ i32 p.2)
    let run (channel : Byte) (bytes : List Byte) (crc : Word) :=
      ((after (exec (.commitLensMap 1 channel (BitVec.ofNat 16 bytes.length) crc) (staged bytes parked))).service.reply.map
        fun r => r.2.result)
    let good := image 1 [(0, 0), (1, 1)]
    run 12 good (crc32 good) = some .badParam ∧ run 0 good (crc32 good) = some .badParam ∧
    run 8 (good.take 3) (crc32 (good.take 3)) = some .badParam ∧ run 8 good (crc32 good + 1) = some .badChecksum ∧
    (∀ bad ∈ [image 1 [(0, 0)], image 0 [(0, 0), (1, 1)], image 1 [(1, 0), (1, 1)], image 1 [(0, 0), (1, 1), (2, 1)]],
      run 8 bad (crc32 bad) = some .badParam) ∧
    1024 < (1025 : Half).toNat ∧ run 8 good (crc32 good) = some .ok := by
  decide +kernel

theorem witness_LensMappingStaysInside :
    irisMap.points.head? = some (100, 9000) ∧ irisMap.points.getLast? = some (1600, 1000) ∧
    2 ≤ irisMap.points.length ∧ (irisMap.points.map Prod.fst).Pairwise (· < ·) ∧
    (irisMap.points.map Prod.snd).Pairwise (· > ·) ∧ (zoomMap.points.map Prod.snd).Pairwise (· < ·) ∧
    irisMap.points = [] ++ (100, 9000) :: (400, 6000) :: [(1600, 1000)] ∧
    betweenCounts 9000 6000 6000 = true := by decide

theorem witness_SettingsWritten :
    served 1 parked ∧ served 1 (live .dropped) ∧ 3 ≤ (3 : Byte).toNat ∧ triggerOf? 2 = some .line ∧
    (live .normal).mode.mode = .live ∧ parked.mode.mode = .parked ∧ 2 ≤ (2 : Byte).toNat ∧ (1 : Byte).toNat < 2 := by
  unfold served; decide

/-- A crane that ARM finds nothing wrong with: the swing alone. -/
def swingOnly : State :=
  { parked with cond := { parked.cond with chans := parked.cond.chans.set 8 resetChannel } }

theorem witness_ArmTaken :
    (live .held).mode.mode ≠ .parked ∧ parked.mode.mode = .parked ∧
    channelCheck parked = some { channel := some 8, item := 4 } ∧ channelCheck swingOnly = none ∧
    (∀ n : Fin 12, (State.reset.cond.chans[n]).desc.cls = .unused) ∧
    channelCheck { swingOnly with cond := { swingOnly.cond with
      chans := swingOnly.cond.chans.set 3 { resetChannel with desc := swing } } } = some { channel := some 0, item := 2 } ∧
    channelCheck { parked with cond := { parked.cond with
      chans := parked.cond.chans.set 0 { resetChannel with desc := swing, feedback := 998001 } } } =
        some { channel := some 0, item := 3 } := by decide +kernel

/-- A decision that passes, one that fails, and none at the period before. -/
theorem witness_ArmingDecided :
    let good : State :=
      { framed (arming 250) with
        mode :=
          { (arming 250).mode with
            verified := true
            check := { resetCheck with result := .running, checks := { notRunChecks with channel := .pass } } }
        zone := { resetZone with pass := .pass }
        take := { resetTake with ref := { resetReference with required := false } }
        cond := { parked.cond with chans := Vector.replicate 12 { resetChannel with status := 1 } } }
    (arming 249).mode.count ≠ 250 ∧ (arming 250).mode.mode = .arming ∧ (arming 250).mode.count = 250 ∧
    (after (exec .armingDecision good)).mode.mode = .live ∧
    (after (exec .armingDecision (arming 250))).mode.mode = .parked ∧
    ((arming 250).cond.chans[(0 : Fin 12)]).desc.cls ≠ .unused ∧
    ((arming 250).cond.chans[(0 : Fin 12)]).status ≠ 1 ∧ (∀ m : Fin 12, ¬ m < 0) := by decide +kernel

/-- The same crane with the swing moving at the least speed. -/
def moving (s : State) : State :=
  { s with cond := { s.cond with chans := s.cond.chans.set 0 { resetChannel with desc := swing, outVel := 1 } } }

theorem witness_ParkTaken :
    parked.mode.mode = .parked ∧ (arming 250).mode.mode = .arming ∧ (live .normal).mode.mode = .live ∧
    (live .normal).stop.safety ≠ .dropped ∧ (live .dropped).stop.safety = .dropped ∧
    ((moving (live .normal)).cond.chans[(0 : Fin 12)]).desc.cls = .motion ∧
    ((moving (live .normal)).cond.chans[(0 : Fin 12)]).outVel ≠ 0 ∧
    (¬ ∃ n : Fin 12, ((live .normal).cond.chans[n]).desc.cls = .motion ∧ ((live .normal).cond.chans[n]).outVel ≠ 0) ∧
    (recording .recordArmed 0).take.recording.state ≠ .idle ∧ (playing .ended).take.play.state = .ended := by
  decide +kernel

theorem witness_SoftResetParks :
    (1 : Byte) ≠ 0 ∧ { resetCapture with state := .tripped }.state ≠ .idle ∧ resetCapture.state ≠ .tripped ∧
    parked.take.recording.state = .idle ∧ (recording .recording 40).take.recording.state ≠ .idle := by decide

/-- A controlled and an immediate cause, an empty and a locked record, and each safety state. -/
theorem witness_CausesActByClass :
    parked.mode.mode = .parked ∧ (live .normal).mode.mode = .live ∧ (live .normal).stop.fault = none ∧
    (takeCause (plainCause .consoleStop) (live .normal)).stop.fault ≠ none ∧
    (takeCause (plainCause .consoleStop) (live .normal)).mode.mode = .live ∧
    (plainCause .estopChain).name.cls = .i ∧ (plainCause .consoleStop).name.cls = .c ∧
    (live .normal).stop.safety = .normal ∧ (live .held).stop.safety ≠ .normal ∧ (live .held).stop.safety ≠ .dropped ∧
    (arming 1).mode.mode = .arming ∧ (arming 1).mode.mode ≠ .parked ∧ (live .dropped).mode.mode = .live ∧
    (live .dropped).stop.safety = .dropped ∧ (live .stopping).stop.safety = .stopping ∧
    (live .held).stop.safety = .held := by decide +kernel

/-- A recording and a playback that a stop ends. -/
theorem witness_CausesActByClass_begins :
    (recording .recording 3).mode.mode = .live ∧ (recording .recording 3).stop.safety = .normal ∧
    (recording .recording 3).take.recording.state ≠ .idle ∧ (playing .cued).stop.safety = .normal ∧
    (playing .cued).take.recording.state = .idle ∧ (playing .cued).take.play.state = .cued ∧
    ({ resetChannel with source := .takeTrim } : Channel).source = .takeTrim := by decide

theorem witness_StopAndTimeoutTaken :
    parked.mode.mode = .parked ∧ (live .stopping).mode.mode = .live ∧ (arming 1).mode.mode = .arming ∧
    (let s : State :=
      { moving (live .stopping) with stop := { (live .stopping).stop with stopTimer := 499 } }
     s.mode.mode = .live ∧ s.stop.safety = .stopping ∧ (s.cond.chans[(0 : Fin 12)]).desc.cls = .motion ∧
     (s.cond.chans[(0 : Fin 12)]).outVel ≠ 0 ∧ s.stop.stopLimit ≤ min (s.stop.stopTimer + 1) 65535 ∧
     ¬ s.stop.stopLimit ≤ min (498 + 1) 65535) := by decide +kernel

theorem witness_ResumeAndReleaseTaken :
    parked.mode.mode = .parked ∧ (arming 1).mode.mode = .arming ∧ (live .normal).stop.safety = .normal ∧
    (live .stopping).stop.safety = .stopping ∧ (live .held).stop.safety = .held ∧ (live .held).zone.stopSet = [] ∧
    ({ (live .held) with zone := { resetZone with stopSet := [31] } } : State).zone.stopSet = 31 :: [] ∧
    (live .held).stop.gripMemory = true ∧ resetStop.gripMemory = false ∧ (live .held).link.consoleAbsent = false ∧
    (live .held).link.feedbackLost = false ∧ (live .held).pins.estopInClosed = true ∧
    (live .held).pins.supplyFail = false ∧ (live .held).stop.fault = none ∧
    (takeCause (plainCause .consoleStop) (live .held)).stop.fault ≠ none := by decide +kernel

theorem witness_CalibrationBeginsAndTimesOut :
    served 1 (live .held) ∧ 12 ≤ (12 : Byte).toNat ∧ (8 : Byte).toNat = (8 : Fin 12).val ∧
    ((live .held).cond.chans[(8 : Fin 12)]).desc.cls = .lens ∧
    ((live .held).cond.chans[(0 : Fin 12)]).desc.cls ≠ .lens ∧
    ((live .held).lens[(8 : Fin 12)]).cal ≠ .seekLow ∧ ((live .held).lens[(8 : Fin 12)]).cal ≠ .seekHigh ∧
    ((live .held).cond.chans[(8 : Fin 12)]).source = .live ∧
    (let s := withLens (live .held) 8 { resetLens with cal := .seekHigh, count := 30000 }
     s.mode.mode = .live ∧ s.stop.safety ≠ .dropped ∧ (s.lens[(8 : Fin 12)]).cal = .seekHigh ∧
     (s.lens[(8 : Fin 12)]).apply = none ∧ 30000 ≤ (s.lens[(8 : Fin 12)]).count ∧ ¬ 30000 ≤ 29999) := by
  unfold served; decide +kernel

theorem witness_StallsFound :
    let l : LensChannel :=
      { resetLens with cal := .seekHigh, foundMin := some 150, phaseFrom := some 1, window := List.replicate 19 152 }
    l.window.length ≤ 20 ∧ l.calibrating = true ∧ inPhase l 1 = true ∧ inPhase l 0 = false ∧
    resetLens.calibrating = false ∧
    (let w := (l.window ++ [150]).drop (l.window.length - 19)
     w.length = 20 ∧ ∀ a ∈ w, ∀ b ∈ w, a ≤ b + 2) ∧
    (let w := (l.window ++ [149]).drop (l.window.length - 19)
     ¬ ∀ a ∈ w, ∀ b ∈ w, a ≤ b + 2) := by decide +kernel

theorem witness_CaptureArmedAndTripped :
    served 1 parked ∧ captureKindOf? 5 = some .anyStop ∧ scopeOf? 1 = some .playbackOnly ∧ scopeOf? 3 = none ∧
    (2 : Byte).toNat ≤ 2 ∧ (11 : Byte).toNat < 12 ∧ ¬ (6 : Byte).toNat ≤ 5 ∧ (16777215 : Word).toNat ≤ 16777215 ∧
    ¬ (16777216 : Word).toNat ≤ 16777215 ∧
    (let c : Condition := { kind := .outputCrosses, channel := 0, value := 100, direction := .up, scope := .any }
     let s : State :=
      { parked with capture := { resetCapture with state := .armed, condition := some c, previous := some 99 } }
     s.capture.state = .armed ∧ s.capture.condition = some c ∧ s.capture.previous = some 99 ∧
     99 < c.value.toInt ∧ c.value.toInt ≤ 100 ∧ ¬ c.value.toInt ≤ 99 ∧
     (testCrossing .outputCrosses .idle (fun _ => 100) 0 0 s).capture.state = .tripped) ∧
    resetCapture.state ≠ .armed := by unfold served; decide +kernel

/-- R145, R160: the frame that carries GO is inside PLAYBACK_ONLY and outside LIVE_ONLY, the one that carries
ABORT_PLAY the other way round. -/
theorem test_timecode_scope :
    let go (s : State) := after (exec (.go 1) s)
    let abort (s : State) := after (exec (.abortPlay 1) s)
    let run (request : State → State) (play : PlayState) (scope : Scope) :=
      let c : Condition := { kind := .timecode, channel := 0, value := 5, direction := .up, scope := scope }
      (placeOutbound request 5 { playing play with
        capture := { resetCapture with state := .armed, condition := some c } }).1.capture.state
    run go .cued .playbackOnly = .tripped ∧ run go .cued .liveOnly = .armed ∧
    run abort .running .playbackOnly = .armed ∧ run abort .running .liveOnly = .tripped ∧
    run id .cued .playbackOnly = .armed ∧ run id .running .playbackOnly = .tripped := by decide +kernel

/-- A GO and an ABORT_PLAY that have their effect. -/
theorem witness_CaptureArmedAndTripped_governed :
    served 1 (playing .cued) ∧ (playing .cued).mode.mode = .live ∧ (playing .cued).take.play.state = .cued ∧
    (playing .cued).pins.supplyWarn = false ∧ (playing .cued).take.play.faultRun ≠ 2 ∧ served 1 (playing .running) ∧
    (playing .running).take.play.state = .running := by unfold served; decide +kernel

/-- The TIMECODE, TAKE_INDEX, SLOW_ENTER and ANY_STOP conditions armed, each awaited under its scope. -/
theorem witness_CaptureKindsAwaited :
    let c (k : CaptureKind) (scope : Scope) : Condition :=
      { kind := k, channel := 0, value := 5, direction := .up, scope := scope }
    let u (k : CaptureKind) (scope : Scope) : CaptureUnit :=
      { resetCapture with state := .armed, condition := some (c k scope) }
    awaits (u .timecode .any) .timecode .idle (c .timecode .any) ∧
    awaits (u .takeIndex .playbackOnly) .takeIndex .running (c .takeIndex .playbackOnly) ∧
    awaits (u .slowEnter .liveOnly) .slowEnter .cueing (c .slowEnter .liveOnly) ∧
    awaits (u .anyStop .any) .anyStop .running (c .anyStop .any) ∧
    ¬ awaits (u .anyStop .playbackOnly) .anyStop .cued (c .anyStop .playbackOnly) ∧
    takeIndexOf (recording .recording 5).take.recording true idlePlayback = some 5 ∧
    (recording .recordArmed 0).take.recording.state ≠ .idle ∧ ready.take.recording.state = .idle := by
  unfold awaits; decide +kernel

theorem witness_PortsSyncAndCount :
    (parked.link.port .c).rx.sync = .unsync ∧ 30 + 1 < 32 ∧ 32 ≤ 31 + 1 ∧
    ((framed parked).link.port .d).rx.sync ≠ .unsync ∧ (parked.link.port .c).threshold = 255 ∧
    ¬ (255 ≤ 253 + 1) ∧ 255 ≤ 254 + 1 := by decide

theorem witness_SetLinkTaken :
    served 1 parked ∧ (1 : Byte).toNat ≤ 1 ∧ ¬ (2 : Byte).toNat ≤ 1 ∧ parked.link.consoleAbsent = false ∧
    parked.timer < parked.link.silenceFrom + 1000 ∧
    (let s : State := { parked with timer := 1000 }
     s.link.consoleAbsent = false ∧ s.link.silenceFrom + 1000 ≤ s.timer) ∧
    (∀ e ∈ parked.link.inFlight, parked.timer < e.sendTime + 100) ∧
    (let s : State := flying { parked with timer := 100 } [entry 1 0]
     ¬ ∀ e ∈ s.link.inFlight, s.timer < e.sendTime + 100) := by unfold served; decide

/-- A frame of a kind with a cycle number and one flag byte in every slot, every other field 0. -/
def wireFrame (kind : Byte) (cycle : Half) (flag : Byte) : Frame :=
  { kind := kind, flags := 0, cycle := cycle, timecode := 0
    slots := Vector.replicate 12 { flag := flag, value := 0 }
    service := List.replicate 40 0, tracking := List.replicate 48 0 }

/-- Its bytes, under their CRC. -/
def frameOf (kind : Byte) (cycle : Half) (flag : Byte) : List Byte := frameBytes (wireFrame kind cycle flag)

theorem frameOf_length (k : Byte) (c : Half) (f : Byte) : (frameOf k c f).length = 160 := by
  simp [frameOf, frameBytes, frameBody, wireFrame, le16, le32, List.flatMap]

theorem frameOf_crc (k : Byte) (c : Half) (f : Byte) : crc32 ((frameOf k c f).take 156) = wordAt (frameOf k c f) 156 :=
  crc_after (frameBody (wireFrame k c f))

/-- A console frame that carries STOP under tag 1. -/
def asking : Frame := { wireFrame 1 7 0 with service := [1, 0x22] ++ List.replicate 38 0 }

/-- A frame without a request, and one with. -/
theorem witness_GoodConsoleFrameForwarded :
    (framed parked).link.portC.rx.sync ≠ .unsync ∧ goodCycle true (frameOf 1 7 0) ∧
    byteAt (frameOf 1 7 0) 68 = 0 ∧ goodCycle true (frameBytes asking) ∧ byteAt (frameBytes asking) 68 ≠ 0 ∧
    decodeService (bytesAt (frameBytes asking) 68 40) = .command (.stop 1) :=
  ⟨by decide, ⟨rfl, rfl, frameOf_crc 1 7 0, rfl⟩, rfl, ⟨rfl, rfl, crc_after (frameBody asking), rfl⟩,
    show (1 : Byte) ≠ 0 by decide, rfl⟩

/-- A frame of another kind, one with an invalid code group, one a byte short. -/
theorem witness_BadConsoleFrameReplaced :
    parked.link.portC.rx.sync = .unsync ∧ (framed parked).link.portC.rx.sync ≠ .unsync ∧
    ¬ goodCycle true (frameOf 3 7 0) ∧ ¬ goodCycle false (frameOf 1 7 0) ∧
    ¬ goodCycle true ((frameOf 1 7 0).take 159) ∧ parked.link.consoleAbsent = false := by
  refine ⟨rfl, by decide, ?_, ?_, ?_, rfl⟩
  · rintro ⟨_, _, _, h⟩; exact absurd (show (3 : Byte) = 1 from h) (by decide)
  · rintro ⟨h, _⟩; cases h
  · rintro ⟨_, h, _⟩; exact absurd (show (159 : Nat) = 160 from h) (by decide)

theorem witness_SilenceSubstitutes :
    parked.link.consoleAbsent = false ∧ (live .normal).mode.mode = .live ∧ (live .normal).stop.fault = none ∧
    ({ resetLink with consoleAbsent := true } : Link).consoleAbsent = true := by decide

/-- A frame that waits for port D. -/
def waiting : OutFrame :=
  { frame :=
      { kind := 2, flags := 0, cycle := 9, timecode := 0, slots := Vector.replicate 12 { flag := 0, value := 0 }
        service := List.replicate 40 0, tracking := List.replicate 48 0 }
    part := 9, consoleCycle := none, kind := .subst, timecode := 0, phase := 0, sync := .noRef, service := none
    calibrated := Vector.replicate 12 false }

theorem witness_FrameSentEntersList :
    parked.link.readyD = [] ∧
    ({ resetLink with readyD := [waiting] } : Link).readyD = waiting :: [] ∧
    (flying parked [entry 1 0, entry 2 0, entry 3 0]).link.inFlight.length < 4 ∧
    4 ≤ (flying parked [entry 1 0, entry 2 0, entry 3 0, entry 4 0]).link.inFlight.length := by decide

/-- A third loss in a row. -/
theorem witness_FrameSentEntersList_loss :
    ({ resetLink with lossCount := 2 } : Link).lossCount = 2 ∧ resetLink.lossCount ≠ 2 ∧
    (live .normal).mode.mode = .live ∧ (live .normal).stop.fault = none := by decide

/-- The kinds of condition that a return tests, one that it does not, and a unit that is not armed. -/
theorem witness_ReturnsMatched_capture :
    (∀ c, (armedFor .slowEnter 0).condition = some c → c.kind = .slowEnter) ∧
    (∀ c, (armedFor .feedbackCrosses 0).condition = some c → c.kind = .feedbackCrosses) ∧
    (∀ c, (armedFor .takeIndex 0).condition = some c →
      c.kind ≠ .anyStop ∧ c.kind ≠ .feedbackCrosses ∧ c.kind ≠ .slowEnter) ∧ resetCapture.state ≠ .armed := by
  refine ⟨?_, ?_, ?_, by decide⟩ <;> rintro c ⟨⟩ <;> decide

theorem witness_ReturnsMatched :
    (framed parked).link.portD.rx.sync ≠ .unsync ∧ (frameOf 3 7 0).length = 160 ∧
    crc32 ((frameOf 3 7 0).take 156) = wordAt (frameOf 3 7 0) 156 ∧ byteAt (frameOf 3 7 0) 0 = 0x03 ∧
    (∀ e ∈ parked.link.inFlight, e.part.setWidth 16 ≠ halfAt (frameOf 3 7 0) 2) ∧
    (flying parked [entry 6 0, entry 0x10007 0]).link.inFlight = [entry 6 0] ++ entry 0x10007 0 :: [] ∧
    halfAt (frameOf 3 7 0) 2 = 7 ∧ (entry 0x10007 0).part.setWidth 16 = (7 : Half) ∧
    (∀ a ∈ [entry 6 0], a.part.setWidth 16 ≠ (7 : Half)) ∧ parked.link.portD.rx.sync = .unsync ∧
    byteAt (frameOf 1 7 0) 0 ≠ 0x03 ∧ ((frameOf 3 7 0).take 159).length ≠ 160 := by
  refine ⟨by decide, rfl, frameOf_crc 3 7 0, rfl, ?_, rfl, by decide, by decide, by decide, rfl, ?_, ?_⟩
  · intro e h; cases h
  · exact show (1 : Byte) ≠ 3 by decide
  · exact show (159 : Nat) ≠ 160 by decide

/-- A quiet return that finds the head in a zone's stop band, and one that finds no zone. -/
theorem witness_ReturnsMatched_zone :
    let here : ZoneRec := { seating with ymin := -100, ymax := 100 }
    let s (zones : List ZoneRec) : State := { flying (framed (live .normal)) [entry 7 0] with
      cond := { (live .normal).cond with chans := twoAxes }
      geo := { resetGeometry with record := some { height := 2000000, base := 3000000, headDecel := 4 } }
      zone := { resetZone with bankA := { emptyBank with zones := zones } } }
    let stops (zones : List ZoneRec) :=
      zoneStops (evaluateHead (twoAxes.map fun c => { c with feedback := 0 }) 7 (s zones).geo)
        (sampleCrew (Vector.replicate 4 false) (exchangeBanks (s zones).zone))
    (stops [here]).length = 1 ∧ stops [] = [] ∧ (s [here]).stop.fault = none ∧ (s [here]).mode.mode ≠ .parked ∧
    (byteAt (frameOf 3 7 0x10) 8).extractLsb' 4 4 = (1 : BitVec 4) ∧
    (((entry 7 0).outputs[(0 : Fin 12)]).value - (wordAt (frameOf 3 7 0x10) 9).toInt).natAbs ≤
      ((s [here]).cond.chans[(0 : Fin 12)]).desc.followLimit ∧
    (∀ n : Fin 12, n ≠ 0 → ((entry 7 0).outputs[n]).enable = false) := by
  decide +kernel

/-- A follow_limit of 100 met by an output of 101 against a feedback of 0, and a drive status that is neither READY nor
NOT_READY. -/
theorem witness_ReturnChecksDrop :
    let s := flying (framed (live .normal)) [entry 6 0, entry 7 0]
    let crew : Vector LineSample 4 := Vector.replicate 4 { asserted := false, heldFor := 0 }
    s.link.portD.rx.sync ≠ .unsync ∧ s.link.inFlight = [entry 6 0] ++ entry 7 0 :: [] ∧
    (entry 7 0).part.setWidth 16 = halfAt (frameOf 3 7 0x30) 2 ∧
    (∀ a ∈ [entry 6 0], a.part.setWidth 16 ≠ (7 : Half)) ∧ LinesFollow s ∧ s.mode.mode = .live ∧
    (s.cond.chans[(0 : Fin 12)]).desc.cls ≠ .unused ∧ ((entry 7 0).outputs[(0 : Fin 12)]).enable = true ∧
    (s.cond.chans[(0 : Fin 12)]).desc.followLimit < (101 - (wordAt (frameOf 3 7 0x10) 9).toInt).natAbs ∧
    (byteAt (frameOf 3 7 0x30) 8).extractLsb' 4 4 ≠ (1 : BitVec 4) ∧
    (byteAt (frameOf 3 7 0x30) 8).extractLsb' 4 4 ≠ (2 : BitVec 4) ∧
    exec (.returnArrival 0 crew true (frameOf 3 7 0x30)) s =
      .next (after (exec (.returnArrival 0 crew true (frameOf 3 7 0x30)) s)) := by
  refine ⟨?_, rfl, ?_, ?_, ⟨rfl, rfl⟩, rfl, ?_, ?_, ?_, ?_, ?_, rfl⟩ <;> decide +kernel

theorem witness_EntriesTimeOut :
    parked.link.inFlight = [] ∧ (flying parked [entry 7 0]).link.inFlight = entry 7 0 :: [] ∧
    parked.link.lossCount ≠ 2 ∧ ({ resetLink with lossCount := 2 } : Link).lossCount = 2 ∧
    (live .normal).mode.mode = .live ∧ (live .normal).stop.fault = none ∧
    (let l : Link := { resetLink with lossCount := 2, inFlight := [entry 7 0] }
     l.lossCount < 3 ∧ 3 ≤ l.lossCount + 1 ∧ ¬ 3 ≤ resetLink.lossCount + 1) := by decide

theorem witness_RecordTaken :
    (arming 1).mode.mode = .arming ∧ (live .held).mode.mode = .live ∧ (live .held).stop.safety ≠ .normal ∧
    ready.mode.mode = .live ∧ ready.stop.safety = .normal ∧ (9999 : Half).toNat ≤ 9999 ∧
    ¬ (10000 : Half).toNat ≤ 9999 ∧ (0x0101 : Half).toNat < 4096 ∧
    (∀ n : Fin 12, (0x0101 : Half).getLsbD n.val = true → (ready.cond.chans[n]).desc.cls ≠ .unused) ∧
    (live .normal).store.state = .unformatted ∧ ready.store.state = .ready ∧ ready.take.ref.required = false ∧
    resetReference.required = true ∧ resetReference.sync ≠ .locked ∧ ready.take.recording.state = .idle ∧
    (recording .recordArmed 0).take.recording.state ≠ .idle ∧ (ready.store.dir[(0 : Fin 32)]).state = .empty ∧
    ready.store.free ≠ [] ∧ (playing .idle).store.free = [] ∧
    ((playing .idle).store.dir[(0 : Fin 32)]).state ≠ .empty ∧
    (∀ i : Fin 32, (ready.store.dir[i]).state = .empty) ∧ ready.pins.supplyWarn = false := by decide +kernel

theorem witness_MarkAndEndTaken :
    served 1 (recording .recording 40) ∧ ready.take.recording.state = .idle ∧
    (recording .recordArmed 0).take.recording.state = .recordArmed ∧
    (0 < (recording .recording 40).take.recording.index ∧
      (recording .recording 40).take.recording.index % (recording .recording 40).take.ref.cyclesPerFrame = 0) ∧
    ¬ (0 < (recording .recording 39).take.recording.index ∧
      (recording .recording 39).take.recording.index % (recording .recording 39).take.ref.cyclesPerFrame = 0) ∧
    ((recording .recording 40).store.dir[(1 : Fin 32)]).blocks.getLast? = some 5 ∧
    40 ∉ ((recording .recording 40).store.dir[(1 : Fin 32)]).marks ∧ 1 ∈ takeSeven.marks ∧
    16 ≤ (List.range 16).length ∧ 16 ∉ List.range 16 := by unfold served; decide +kernel

theorem witness_RecordsStoredInPlace :
    let st := (recording .recording 40).store
    let e : DirEntry := st.dir[(1 : Fin 32)]
    (List.replicate 8 (1 : Byte)).length = recordSize e.mask ∧ recordSize e.mask % 8 = 0 ∧ st.heldWord = none ∧
    0 < e.perBlock ∧ e.blocks ≠ [] ∧ e.length < e.blocks.length * e.perBlock ∧
    (e.blocks.length - 1) * e.perBlock ≤ e.length := by decide +kernel

/-- A record of two channels, the first of its block and the second with a half word held; a full block with a next one
and with none; a frame recorded, one that ends the recording and one that finds the free list exhausted. -/
theorem witness_RecordsStoredInPlace_half :
    let e (n : Nat) : DirEntry := { takeSeven with state := .recording, mask := 0x101, length := n, perBlock := 1364 }
    let at' (n : Nat) := (e n).blocks.getLastD 0 * 16384 + 16 + (e n).length % (e n).perBlock * recordSize (e n).mask
    let held : Nat × List Byte := (at' 1 - 4, [1, 2, 3, 4])
    recordSize (e 0).mask = 12 ∧ 0 < (e 0).perBlock ∧ (e 1).length < (e 1).blocks.length * (e 1).perBlock ∧
    ((e 1).blocks.length - 1) * (e 1).perBlock ≤ (e 0).length ∧ at' 0 % 8 = 0 ∧ (at' 1 - held.2.length) % 8 = 0 ∧
    (e 1364).length = (e 1364).blocks.length * (e 1364).perBlock ∧ ready.store.free = 5 :: [] ∧
    (playing .idle).store.free = [] ∧
    (let s := recording .recording 39
     s.take.recording.state = .recording ∧ (appendRecord 1 [] 0 s.store).2 = true ∧
     (39 + 1) % ({ s.take.ref with cyclesPerFrame := 40 } : Reference).cyclesPerFrame = 0) ∧
    (let s := recording .recording 2046
     (appendRecord 1 [] 0 { s.store with free := [] }).2 = false) := by decide +kernel

theorem witness_CueTaken :
    let s := playing .aborted
    (arming 1).mode.mode = .arming ∧ (live .held).stop.safety ≠ .normal ∧ s.mode.mode = .live ∧
    s.stop.safety = .normal ∧ (7 : Half).toNat ≤ 9999 ∧ (1 : Byte).toNat ≤ 16 ∧ ¬ (17 : Byte).toNat ≤ 16 ∧
    s.store.state = .ready ∧ s.take.recording.state = .idle ∧ s.take.play.state ≠ .cueing ∧
    (playing .cued).take.play.state = .cued ∧ (s.store.dir[(0 : Fin 32)]).state = .complete ∧
    (s.store.dir[(0 : Fin 32)]).take = (7 : Half).toNat ∧ (∀ j : Fin 32, ¬ j < 0) ∧
    0 < (s.store.dir[(0 : Fin 32)]).length ∧ (1 : Byte).toNat ≤ (s.store.dir[(0 : Fin 32)]).marks.length ∧
    (s.store.dir[(0 : Fin 32)]).marks.length < (2 : Byte).toNat ∧ s.pins.supplyWarn = false ∧
    s.store.reading = none ∧ (∀ i : Fin 32, (ready.store.dir[i]).state ≠ .complete) := by decide +kernel

/-- A LENS channel on a take source, in the take's mask, without the take's map. -/
theorem witness_CueTaken_maps :
    let e : DirEntry := { takeSeven with mask := 0x100 }
    let c : Channel := { resetChannel with desc := focus, source := .take }
    c.desc.cls = .lens ∧ e.mask.getLsbD (8 : Fin 12).val = true ∧ c.source = .take ∧ resetLens.active = none ∧
    ({ c with fallback := true } : Channel).fallback = true := by decide

theorem witness_GoAndAbortTaken :
    served 1 (playing .cued) ∧ (playing .cued).mode.mode = .live ∧ (playing .cued).take.play.state = .cued ∧
    (playing .cued).pins.supplyWarn = false ∧ (playing .running).take.play.state ≠ .cued ∧
    (playing .ended).take.play.state = .ended ∧
    ({ resetPins with supplyWarn := true } : Pins).supplyWarn = true := by unfold served; decide

/-- A queue whose head is the record wanted, one whose head is bad, and the third fault in a row. -/
theorem witness_RunningFrameSupplied :
    let p (good : Bool) (run : Nat) : Playback :=
      { (playing .running).take.play with
        faultRun := run, queue := [queued 0 true 4, queued 1 good 5] }
    let left (p : Playback) := p.queue.dropWhile fun r => decide (r.index < p.index + 1)
    (p true 0).state = .running ∧ (p true 0).firstFrame = false ∧
    left (p true 0) = queued 1 true 5 :: [] ∧
    left (p false 2) = queued 1 false 5 :: [] ∧ (p false 2).faultRun = 2 ∧
    (playing .running).mode.mode = .live ∧ (playing .running).stop.safety = .normal ∧
    (playing .running).stop.fault = none := by decide +kernel

/-- The running take with record 0 supplied as 700 and record 1 bad, the swing standing at 0 with a source and a pending
one, after so many faults. -/
def bridged (run : Nat) (source : Source) (pending : Option Source) : State :=
  let s := playing .running
  let c : Channel := { resetChannel with desc := swing, source := source, pendingSource := pending }
  { s with
    cond := { s.cond with chans := s.cond.chans.set 0 c }
    take := { s.take with
      play := { s.take.play with faultRun := run, queue := [queued 1 false 5], latest := some [700] } } }

/-- The target and the take hold with which the swing leaves the next frame of that take. -/
def bridgedAim (run : Nat) (source : Source) (pending : Option Source) : Int × Int :=
  let u := supply (bridged run source pending)
  let c : Channel := ((conditionAll u.2 u.1)[(0 : Fin 12)]).chan
  (c.target, c.takeHold)

/-- R148: at a data fault the latest good record's values are the targets, of a channel put on TAKE at that frame too. -/
theorem test_data_fault_supplies_latest :
    bridgedAim 0 .take none = (700, 700) ∧ bridgedAim 0 .live (some .take) = (700, 700) ∧
    bridgedAim 1 .hold (some .takeTrim) = (700, 700) := by decide +kernel

/-- R149 with R67: at the third fault the stop has aborted the playback, and the take hold is the output. -/
theorem test_third_fault_supplies_none :
    (bridgedAim 2 .take none).2 = 0 ∧ (supply (bridged 2 .take none)).1.take.play.state = .aborted ∧
    (supply (bridged 2 .take none)).1.take.play.abort = some (1, .stop) := by decide +kernel

/-- A data fault after a good record, with a channel that comes to TAKE at it. -/
theorem witness_RunningFrameSupplied_fault :
    let s := bridged 1 .live (some .take)
    let d := sourced (condContext s) 0 s.cond.chans[(0 : Fin 12)] s.lens[(0 : Fin 12)]
    s.take.play.state = .running ∧ s.take.play.firstFrame = false ∧
    (s.take.play.queue.dropWhile fun r => decide (r.index < s.take.play.index + 1)) = queued 1 false 5 :: [] ∧
    s.take.play.faultRun ≠ 2 ∧ s.take.play.latest = some [700] ∧ s.mode.mode = .live ∧ s.stop.safety = .normal ∧
    s.take.play.mask.getLsbD 0 = true ∧
    ([700] : List Int)[((List.finRange 12).filter fun m => decide (m < 0) && s.take.play.mask.getLsbD m.val).length]? =
      some 700 ∧
    d.desc.cls = .motion ∧ d.source = .take ∧ d.fallback = false := by
  unfold sourced; decide +kernel

/-- A cue record that stands good at the head of the queue, one that stands bad, and room for a read. -/
theorem witness_RunningFrameSupplied_cue :
    (playing .cueing).take.play.state ≠ .running ∧ (queued 0 true 4).index = (playing .cueing).take.play.cueRecord ∧
    (queued 0 true 4).good = true ∧ (queued 0 false 4).good = false ∧ (playing .cued).take.play.state = .cued ∧
    (playing .ended).take.play.state ≠ .cueing ∧ (playing .ended).take.play.state ≠ .cued ∧
    (playing .running).store.reading = none ∧
    (playing .running).take.play.nextRead < ((playing .running).store.dir[(playing .running).take.play.entry]).length := by
  decide +kernel

theorem witness_DeleteAndFormatTaken :
    (arming 1).mode.mode = .arming ∧ (playing .ended).store.state ≠ .formatting ∧
    (playing .ended).mode.mode ≠ .arming ∧ (7 : Half).toNat ≤ 9999 ∧
    ((playing .ended).store.dir[(0 : Fin 32)]).state = .complete ∧
    ((playing .ended).store.dir[(0 : Fin 32)]).take = (7 : Half).toNat ∧ (∀ j : Fin 32, ¬ j < 0) ∧
    (playing .ended).take.recording.state = .idle ∧ (playing .running).take.play.state = .running ∧
    ((recording .recording 40).store.dir[(1 : Fin 32)]).state = .recording ∧
    (∀ i : Fin 32, (ready.store.dir[i]).state = .empty) := by decide +kernel

theorem witness_BlockTested :
    let st (n : Nat) : TakeStore := { resetStore with state := .formatting, progress := n }
    resetStore.state ≠ .formatting ∧ (st 4094).state = .formatting ∧ (st 4094).progress + 1 ≠ 4096 ∧
    (st 4095).progress + 1 = 4096 ∧
    (4095 * 2048 + 2047) / 2048 = (st 4095).progress ∧
    disturbed { address := 0, data := 0, check := 0 } = 0 ∧ disturbed { address := 0, data := 8, check := 0 } = 1 ∧
    disturbed { address := 0, data := 8, check := 8 } = 2 ∧
    resetStore.classOf { address := 0, data := 0, check := 0 } = .clean ∧ resetStore.errRecord = none ∧
    resetStore.correctable ≤ 65535 := by decide +kernel

theorem witness_PrefetchDelivers :
    let r := readOf 0 takeSeven 0 true
    let s (p : PlayState) : State := { playing p with store := { (playing p).store with reading := some r } }
    let bad : WordRead := { address := 5 * 2048 + 1, data := 1, check := 1 }
    parked.store.reading = none ∧ (s .cueing).store.reading = some r ∧ r.wanted = true ∧
    (s .cueing).take.play.state = .cueing ∧ r.index = (s .cueing).take.play.cueRecord ∧
    ((s .cueing).store.dir[r.entry]).state = .complete ∧ ((s .cueing).store.dir[r.entry]).take = r.take ∧
    (after (exec (.prefetchReadComplete [bad]) (s .cueing))).take.play.state = .aborted ∧
    (s .running).take.play.state ≠ .cueing ∧ (s .running).store.classOf bad = .double ∧
    ((after (exec (.prefetchReadComplete [bad]) (s .running))).take.play.queue.map QueuedRecord.good) = [false] ∧
    ({ r with wanted := false } : ReadReq).wanted = false := by decide +kernel

/-- A delivery after which an index and room are left, and one after which no index is. -/
theorem witness_PrefetchDelivers_next :
    let r := readOf 0 takeSeven 0 true
    let s (next : Nat) : State :=
      { playing .running with
        store := { (playing .running).store with reading := some r }
        take := { (playing .running).take with play := { (playing .running).take.play with nextRead := next } } }
    (s 1).store.reading = some r ∧ (s 1).take.play.state = .running ∧
    (s 1).take.play.nextRead < ((s 1).store.dir[(s 1).take.play.entry]).length ∧
    ((s 1).take.play.queue ++ [queued 0 true 0]).length < 512 ∧
    ¬ (s 2).take.play.nextRead < ((s 2).store.dir[(s 2).take.play.entry]).length := by decide +kernel

theorem witness_RefPulseSetsFlag :
    1 ≤ 1 ∧ ({ resetReference with pulseSeen := true } : Reference).pulseSeen = true := by decide

theorem witness_FramesPlaced :
    (placeReference { resetReference with sync := .locked, cyclesPerFrame := 10, sincePulse := 79 }).1.sync = .noRef ∧
    (placeReference { resetReference with sync := .locked, sincePulse := 79 }).1.sync = .noRef ∧
    (placeReference { resetReference with sync := .locked, sincePulse := 78 }).2 = true := by decide

/-- R134, R145: a frame-start period begins an armed recording and a triggered take; a frame that is none begins
neither. -/
theorem witness_FramesPlaced_starts :
    let set (kind : TriggerKind) (line : Bool) (phase : Nat) (s : State) : State :=
      { s with take := { s.take with
        trigger := kind, triggerTimecode := 5, ref := { s.take.ref with phase := phase }
        play := { s.take.play with lineTrigger := line } } }
    let play (timecode : Word) (s : State) := (placeOutbound id timecode s).1.take.play.state
    let armed (s : State) := (placeOutbound id 0 s).1.take.recording.state
    (placeFrame (set .line true 39 (playing .cued))).2.start ≠ .none ∧
    (placeFrame (set .line true 38 (playing .cued))).2.start = .none ∧
    play 5 (set .timecode false 39 (playing .cued)) = .running ∧ play 6 (set .timecode false 39 (playing .cued)) = .cued ∧
    play 5 (set .timecode false 38 (playing .cued)) = .cued ∧ play 0 (set .line true 39 (playing .cued)) = .running ∧
    play 0 (set .line false 39 (playing .cued)) = .cued ∧ play 5 (set .request true 39 (playing .cued)) = .cued ∧
    play 0 (set .line true 39 (playing .cueing)) = .cueing ∧
    armed (set .request false 39 (recording .recordArmed 0)) = .recording ∧
    armed (set .request false 38 (recording .recordArmed 0)) = .recordArmed ∧ parked.take.placed = none := by
  decide +kernel

theorem witness_PlacedAhead :
    parked.take.placed = none ∧ parked.take.ref.pulseSeen = false ∧
    parked.take.ref.cyclesPerFrame ≤ parked.take.ref.phase + 1 ∧
    (let r : Reference := { resetReference with sync := .locked, sincePulse := 79 }
     r.sync ≠ .noRef ∧ (placeReference r).1.sync = .noRef) := by decide

theorem witness_PinResetRestores : 9 < 10 ∧ 10 ≤ 10 := by decide

/-- The invariants' premises at the reset state (the blocks and the roles: ResetMeetsInvariants), and a step. -/
theorem witness_Invariants :
    SafetyGoverned State.reset ∧ LinesFollow State.reset ∧ TakesQuiet State.reset ∧ motionInside State.reset ∧
    takeSupplied (bridged 0 .take none) ∧ ListBounded State.reset ∧ (Memory.wf State.reset.store.mem ∧ Memory.wf State.reset.store.check) ∧
    step { State.reset with pending := [.armingDecision] } = .next State.reset := by
  refine ⟨?_, ?_, ?_, ?_, ?_, ?_, reset_memory_wf, rfl⟩
  · intro _; rfl
  · exact ⟨rfl, rfl⟩
  · intro _; exact ⟨rfl, rfl⟩
  · exact ⟨by decide, fun h => absurd rfl h⟩
  · intro _ h; cases h
  · show 0 ≤ 4; decide

/-- The premises of BlocksStayConserved and ShapeKept at the reset state. -/
theorem witness_BlocksAndShape : blocksConserved State.reset ∧ shaped State.reset := by
  refine ⟨⟨?_, ?_, ?_, ?_, ?_⟩, List.length_replicate, ?_, ?_, by decide, by decide, reset_memory_wf⟩
  · intro h; cases h
  · intro _; exact ⟨rfl, rfl, by decide +kernel⟩
  · decide +kernel
  · intro h; exact absurd rfl h
  · intro h; cases h
  · decide +kernel
  · show 0 ≤ 4; decide

end Sys2Proof.Tests
end

section
/-! PROOFS. The limiter and the stopping ramp (R22 to R24): the square root of section 4.5, the velocity a limiter step
wishes for, and the step clamped at the effective limits. -/

namespace Sys2Proof.Machine

/-! ## The square root -/

theorem isqrtFrom_spec (n b r : Nat) (lower : r * r ≤ n) (upper : n < (r + 2 ^ b) * (r + 2 ^ b)) :
    isqrtFrom n b r * isqrtFrom n b r ≤ n ∧ n < (isqrtFrom n b r + 1) * (isqrtFrom n b r + 1) := by
  induction b generalizing r with
  | zero => exact ⟨lower, upper⟩
  | succ b ih =>
    unfold isqrtFrom
    have double : r + 2 ^ b + 2 ^ b = r + 2 ^ (b + 1) := by rw [pow_succ]; omega
    split
    case isTrue fits => exact ih _ fits (double ▸ upper)
    case isFalse tooGreat => exact ih r lower (by omega)

/-- isqrt is the floor of the square root (section 4.5). -/
theorem isqrt_spec (n : Nat) : isqrt n * isqrt n ≤ n ∧ n < (isqrt n + 1) * (isqrt n + 1) := by
  refine isqrtFrom_spec n _ 0 (Nat.zero_le n) ?_
  have small : n < 2 ^ (n.log2 + 1) := Nat.lt_log2_self
  have square : 2 ^ (n.log2 / 2 + 1) * 2 ^ (n.log2 / 2 + 1) = 2 ^ (n.log2 / 2 + 1 + (n.log2 / 2 + 1)) := by
    rw [← pow_add]
  have wide : 2 ^ (n.log2 + 1) ≤ 2 ^ (n.log2 / 2 + 1 + (n.log2 / 2 + 1)) :=
    Nat.pow_le_pow_right (by decide) (by omega)
  rw [Nat.zero_add, square]
  omega

/-! ## Signs and clamps -/

/-- A step of a given size toward d. -/
theorem sgn_mul (d : Int) (k : Nat) (h : d = 0 → k = 0) : sgn d * (k : Int) = if d < 0 then -(k : Int) else k := by
  rcases sgn_cases d with ⟨hd, e⟩ | ⟨hd, e⟩ | ⟨hd, e⟩ <;> rw [e]
  · rw [if_pos hd]; omega
  · rw [if_neg (by omega), h hd]; omega
  · rw [if_neg (by omega)]; omega

theorem bne_eq_decide (a b : Int) : (a != b) = decide (a ≠ b) := by
  by_cases h : a = b <;> simp [h]

/-- A wish held within `a` of the velocity before it is no faster than the faster of the two. -/
theorem clamp_around_natAbs (a : Nat) (v wish : Int) (k : Nat) (hv : v.natAbs ≤ k) (hw : wish.natAbs ≤ k) :
    (clamp (v - a) (v + a) wish).natAbs ≤ k := by
  unfold clamp
  split
  · omega
  · split <;> omega

/-- The end of a step taken from inside the limits: it is inside, it is where its velocity leads, and the velocity is
no greater than the one asked for. -/
theorem limitStep_inside {lo hi p : Int} (v : Int) (hlo : lo ≤ p) (hhi : p ≤ hi) :
    lo ≤ (limitStep lo hi p v).1 ∧ (limitStep lo hi p v).1 ≤ hi ∧
    (limitStep lo hi p v).1 = p + (limitStep lo hi p v).2.1 ∧
    (limitStep lo hi p v).2.1.natAbs ≤ v.natAbs ∧
    ((limitStep lo hi p v).2.2 = false → (limitStep lo hi p v).2.1 = v) := by
  rcases limitStep_cases lo hi p v with ⟨h, e⟩ | ⟨h, g, e⟩ | ⟨h, g, e⟩ <;> rw [e] <;>
    refine ⟨?_, ?_, ?_, ?_, ?_⟩ <;> simp <;> omega

/-- The step at the limits, part by part. -/
theorem limitStep_parts (lo hi p v : Int) :
    limitStep lo hi p v =
      (if p + v < lo then lo else if hi < p + v then hi else p + v,
        if p + v < lo then lo - p else if hi < p + v then hi - p else v,
        decide (p + v < lo ∨ hi < p + v)) := by
  rcases limitStep_cases lo hi p v with ⟨a, e⟩ | ⟨a, b, e⟩ | ⟨a, b, e⟩ <;> rw [e]
  · simp [a]
  · simp [b, Int.not_lt.2 a]
  · simp [Int.not_lt.2 a, Int.not_lt.2 b]

/-! ## The limiter -/

/-- The speed ceiling of a limiter step (R22): that of the scale, and the braking velocity. -/
def limitCap (scale : Nat) (c : Channel) (far : Nat) : Nat :=
  min (c.desc.velMax * scale / 256) (isqrt (2 * c.desc.accMax * far))

/-- The velocity a limiter step wishes for (R22). -/
def limitWish (lo hi : Int) (scale : Nat) (t : Int) (c : Channel) : Int :=
  let d := clamp lo hi t - c.outPos
  sgn d * (min d.natAbs (limitCap scale c d.natAbs) : Nat)

/-- The velocity of a limiter step before the clamp at the limits (R23). -/
def limitVelocity (lo hi : Int) (scale : Nat) (t : Int) (c : Channel) : Int :=
  clamp (c.outVel - c.desc.accMax) (c.outVel + c.desc.accMax) (limitWish lo hi scale t c)

theorem limiter_eq (lo hi : Int) (scale : Nat) (t : Int) (c : Channel) :
    limiter lo hi scale t c =
      let e := limitStep lo hi c.outPos (limitVelocity lo hi scale t c)
      let far := (clamp lo hi t - c.outPos).natAbs
      ({ c with
          outPos := e.1, outVel := e.2.1, target := t
          flags := { c.flags with
            posClamped := clamp lo hi t != t, velLimited := decide (limitCap scale c far < far)
            accLimited := limitVelocity lo hi scale t c != limitWish lo hi scale t c, limitHit := e.2.2 } },
        e.2.2) := rfl

theorem limitWish_eq (lo hi : Int) (scale : Nat) (t : Int) (c : Channel) :
    limitWish lo hi scale t c =
      let far := (clamp lo hi t - c.outPos).natAbs
      if clamp lo hi t < c.outPos then -((min far (limitCap scale c far) : Nat) : Int)
      else (min far (limitCap scale c far) : Nat) := by
  have step := sgn_mul (clamp lo hi t - c.outPos)
    (min (clamp lo hi t - c.outPos).natAbs (limitCap scale c (clamp lo hi t - c.outPos).natAbs)) (by omega)
  rw [limitWish, step]
  by_cases h : clamp lo hi t < c.outPos
  · simp only [h, if_true, if_pos (show clamp lo hi t - c.outPos < 0 by omega)]
  · simp only [h, if_false, if_neg (show ¬ clamp lo hi t - c.outPos < 0 by omega)]

theorem limitWish_natAbs (lo hi : Int) {scale : Nat} (t : Int) (c : Channel) (h : scale ≤ 256) :
    (limitWish lo hi scale t c).natAbs ≤ c.desc.velMax := by
  have ceiling : c.desc.velMax * scale / 256 ≤ c.desc.velMax :=
    Nat.div_le_of_le_mul (by rw [Nat.mul_comm]; exact Nat.mul_le_mul_right _ h)
  have cap : limitCap scale c (clamp lo hi t - c.outPos).natAbs ≤ c.desc.velMax :=
    Nat.le_trans (Nat.min_le_left _ _) ceiling
  rw [limitWish_eq]
  dsimp only
  split <;> omega

/-- What a limiter step from inside the limits gives: inside them, at a velocity of at most vel_max (R22, R23). -/
theorem limiter_inside {lo hi : Int} {c : Channel} (scale : Nat) (t : Int) (hlo : lo ≤ c.outPos)
    (hhi : c.outPos ≤ hi) :
    lo ≤ (limiter lo hi scale t c).1.outPos ∧ (limiter lo hi scale t c).1.outPos ≤ hi ∧
    (limiter lo hi scale t c).1.outPos = c.outPos + (limiter lo hi scale t c).1.outVel ∧
    (scale ≤ 256 → c.outVel.natAbs ≤ c.desc.velMax →
      (limiter lo hi scale t c).1.outVel.natAbs ≤ c.desc.velMax) := by
  obtain ⟨low, high, moved, slower, -⟩ := limitStep_inside (limitVelocity lo hi scale t c) hlo hhi
  refine ⟨low, high, moved, fun hs hv => Nat.le_trans slower ?_⟩
  exact clamp_around_natAbs _ _ _ _ hv (limitWish_natAbs lo hi t c hs)

@[simp] theorem limiter_desc (lo hi : Int) (scale : Nat) (t : Int) (c : Channel) :
    (limiter lo hi scale t c).1.desc = c.desc := rfl

@[simp] theorem limiter_target (lo hi : Int) (scale : Nat) (t : Int) (c : Channel) :
    (limiter lo hi scale t c).1.target = t := rfl

/-! ## The ramp -/

/-- The ramp's velocity: slower by stop_acc, or 0, with the sign it had (R24). -/
theorem rampVelocity_eq (stopAcc : Nat) (v : Int) :
    rampVelocity stopAcc v = if v < 0 then -((v.natAbs - stopAcc : Nat) : Int) else (v.natAbs - stopAcc : Nat) := by
  unfold rampVelocity
  rcases sgn_cases v with ⟨h, e⟩ | ⟨h, e⟩ | ⟨h, e⟩ <;> rw [e] <;> (repeat' split) <;> omega

theorem rampVelocity_natAbs (stopAcc : Nat) (v : Int) : (rampVelocity stopAcc v).natAbs = v.natAbs - stopAcc := by
  rw [rampVelocity_eq]; split <;> omega

/-- What a ramp step from inside the limits gives (R24). -/
theorem ramp_inside {lo hi : Int} {c : Channel} (hlo : lo ≤ c.outPos) (hhi : c.outPos ≤ hi) :
    lo ≤ (ramp lo hi c).1.outPos ∧ (ramp lo hi c).1.outPos ≤ hi ∧
    (ramp lo hi c).1.outPos = c.outPos + (ramp lo hi c).1.outVel ∧
    (ramp lo hi c).1.outVel.natAbs ≤ c.outVel.natAbs - c.desc.stopAcc ∧
    ((ramp lo hi c).2 = false → (ramp lo hi c).1.outVel.natAbs = c.outVel.natAbs - c.desc.stopAcc) := by
  have size := rampVelocity_natAbs c.desc.stopAcc c.outVel
  obtain ⟨low, high, moved, slower, free⟩ := limitStep_inside (rampVelocity c.desc.stopAcc c.outVel) hlo hhi
  exact ⟨low, high, moved, size ▸ slower, fun h => (congrArg Int.natAbs (free h)).trans size⟩

@[simp] theorem ramp_desc (lo hi : Int) (c : Channel) : (ramp lo hi c).1.desc = c.desc := rfl

end Sys2Proof.Machine

namespace Sys2Proof.Proofs
open Sys2Proof.Machine

/-- Settles O11: the limiter and the ramp are read off their equations, the bounds off the clamp that ends both. -/
theorem outputsStayInside : Obligations.OutputsStayInside := by
  intro lo hi scale t c hlo hhi
  obtain ⟨low, high, moved, slow⟩ := limiter_inside scale t hlo hhi
  obtain ⟨rampLow, rampHigh, rampMoved, slower, free⟩ := ramp_inside hlo hhi
  obtain ⟨rootLower, rootUpper⟩ := isqrt_spec (2 * c.desc.accMax * (clamp lo hi t - c.outPos).natAbs)
  refine ⟨⟨_, rootLower, rootUpper, ?_⟩, slow, low, high, moved, rfl, rfl, Iff.rfl, ?_, rampLow, rampHigh, rampMoved,
    rfl, slower, free⟩
  · rw [limiter_eq, limitStep_parts]
    simp only [bne_eq_decide, limitVelocity, limitWish_eq]
    rfl
  · rw [ramp, limitStep_parts, rampVelocity_eq]

end Sys2Proof.Proofs
end

section
/-! PROOFS. Rules of the state's shared operations: tables read entry by entry after an update, the Capture Unit's tests,
a recording ended and a playback aborted. -/

namespace Sys2Proof.Machine
open Sys2Proof.Claims

/-! ## States, block by block -/

/-- Two states are the same when every block is. -/
theorem State.eq_of_blocks {s t : State} (pending : s.pending = t.pending) (timer : s.timer = t.timer)
    (pins : s.pins = t.pins) (link : s.link = t.link) (service : s.service = t.service) (mode : s.mode = t.mode)
    (cond : s.cond = t.cond) (geo : s.geo = t.geo) (zone : s.zone = t.zone) (stop : s.stop = t.stop)
    (lens : s.lens = t.lens) (store : s.store = t.store) (take : s.take = t.take) (capture : s.capture = t.capture) :
    s = t := by
  cases s; cases t; simp_all

/-- Two tables of the twelve channels are the same when every entry is. -/
theorem table_ext {α : Type} {v w : Vector α 12} (h : ∀ n : Fin 12, v[n] = w[n]) : v = w :=
  Vector.ext fun i hi => h ⟨i, hi⟩

/-! ## The channel table and the lens table -/

theorem Conditioner.ext_at {c d : Conditioner} (chans : ∀ n : Fin 12, c.chans[n] = d.chans[n])
    (catches : c.resumeCatch = d.resumeCatch) : c = d := by
  cases c; cases d
  rw [Conditioner.mk.injEq]
  exact ⟨table_ext chans, catches⟩

theorem State.mapChans_at (s : State) (f : Fin 12 → Channel → Channel) (n : Fin 12) :
    (s.mapChans f).cond.chans[n] = f n s.cond.chans[n] := by simp [State.mapChans]

@[simp] theorem State.mapChans_resumeCatch (s : State) (f : Fin 12 → Channel → Channel) :
    (s.mapChans f).cond.resumeCatch = s.cond.resumeCatch := rfl

theorem State.mapChan_at (s : State) (m : Fin 12) (f : Channel → Channel) (n : Fin 12) :
    (s.mapChan m f).cond.chans[n] = if n = m then f s.cond.chans[n] else s.cond.chans[n] := by
  by_cases h : n = m
  · subst h; simp [State.mapChan]
  · have apart : m.val ≠ n.val := fun e => h (Fin.ext e.symm)
    simp [State.mapChan, h, Vector.getElem_set_ne _ _ apart]

theorem State.mapLens_at (s : State) (m : Fin 12) (f : LensChannel → LensChannel) (n : Fin 12) :
    (s.mapLens m f).lens[n] = if n = m then f s.lens[n] else s.lens[n] := by
  by_cases h : n = m
  · subst h; simp [State.mapLens]
  · have apart : m.val ≠ n.val := fun e => h (Fin.ext e.symm)
    simp [State.mapLens, h, Vector.getElem_set_ne _ _ apart]

theorem State.mapAllLens_at (s : State) (f : Fin 12 → LensChannel → LensChannel) (n : Fin 12) :
    (s.mapAllLens f).lens[n] = f n s.lens[n] := by simp [State.mapAllLens]

/-! ## What the tests on a channel say -/

theorem Channel.used_iff (c : Channel) : c.used = true ↔ c.desc.cls ≠ .unused := by simp [Channel.used]

theorem Channel.isLens_iff (c : Channel) : c.isLens = true ↔ c.desc.cls = .lens := by simp [Channel.isLens]

theorem Channel.onTake_iff (c : Channel) : c.onTake = true ↔ c.source = .take ∨ c.source = .takeTrim := by
  simp [Channel.onTake]

theorem holdFromOutput_eq (c : Channel) (l : LensChannel) :
    holdFromOutput c l = if c.desc.cls = .lens then engOf l c.outPos else c.outPos := by
  simp only [holdFromOutput, Channel.isLens_iff]

theorem LensChannel.calibrating_iff (l : LensChannel) : l.calibrating = true ↔ l.cal = .seekLow ∨ l.cal = .seekHigh := by
  simp [LensChannel.calibrating]

theorem Playback.active_iff (p : Playback) :
    p.active = true ↔ p.state = .cueing ∨ p.state = .cued ∨ p.state = .running := by
  simp [Playback.active, or_assoc]

theorem Recording.active_iff (r : Recording) : r.active = true ↔ r.state ≠ .idle := by simp [Recording.active]

/-! ## Snapshots and the Capture Unit -/

theorem snapshotNow_eq (s : State) : snapshotNow s = snapshotOf s := rfl

theorem latestTimecode_eq (s : State) : latestTimecode s = consoleTimecode s := by
  unfold latestTimecode consoleTimecode; cases s.link.lastGood <;> rfl

/-- What the Capture Unit reads of a state when it trips. -/
theorem trip_congr (c : Condition) (met : MetValue) (part timecode : Word) {s t : State} (cond : t.cond = s.cond)
    (geo : t.geo = s.geo) (scale : t.zone.scale = s.zone.scale) (take : t.take = s.take)
    (capture : t.capture = s.capture) :
    (trip c met part timecode t).capture = (trip c met part timecode s).capture := by
  simp [trip, snapshotOf, cond, geo, scale, take, capture]

theorem trip_capture (c : Condition) (met : MetValue) (part timecode : Word) (s : State) :
    (trip c met part timecode s).capture = trippedBy c met part timecode s := by
  simp only [trip, State.setCapture_capture, trippedBy, snapshotNow_eq, takeActivity]
  cases s.take.recording.state <;> rfl

theorem scopeAllows_iff (scope : Scope) (play : PlayState) :
    scopeAllows scope play = true ↔ (scope = .liveOnly → play ≠ .running) ∧ (scope = .playbackOnly → play = .running) := by
  cases scope <;> simp [scopeAllows]

/-- A test opportunity changes nothing but the Capture Unit. -/
theorem testCapture_eq (kind : CaptureKind) (play : PlayState) (met : Condition → Option MetValue)
    (part timecode : Word) (s : State) :
    testCapture kind play met part timecode s =
      s.setCapture (testCapture kind play met part timecode s).capture := by
  apply State.eq_of_blocks <;> simp

/-- A test opportunity trips the unit exactly where it awaits the condition and the condition is met (R158 to R161). -/
theorem testCapture_cases (kind : CaptureKind) (play : PlayState) (met : Condition → Option MetValue)
    (part timecode : Word) (s : State) :
    (∃ c m, awaits s.capture kind play c ∧ met c = some m ∧
      testCapture kind play met part timecode s = trip c m part timecode s) ∨
    ((∀ c m, awaits s.capture kind play c → met c ≠ some m) ∧ testCapture kind play met part timecode s = s) := by
  unfold testCapture
  split
  case h_1 c armed condition =>
    by_cases allowed : c.kind = kind ∧ scopeAllows c.scope play = true
    · rw [if_pos allowed]
      have waiting : awaits s.capture kind play c := ⟨armed, condition, allowed.1, (scopeAllows_iff _ _).1 allowed.2⟩
      cases h : met c with
      | some m => exact .inl ⟨c, m, waiting, h, rfl⟩
      | none =>
        refine .inr ⟨fun d m hd => ?_, rfl⟩
        have same : d = c := Option.some.inj (hd.2.1.symm.trans condition)
        rw [same, h]; exact nofun
    · rw [if_neg allowed]
      refine .inr ⟨fun d m hd _ => allowed ?_, rfl⟩
      obtain ⟨_, hc, hk, hs⟩ := hd
      obtain rfl : d = c := Option.some.inj (hc.symm.trans condition)
      exact ⟨hk, (scopeAllows_iff _ _).2 hs⟩
  case h_2 idle => exact .inr ⟨fun d _ hd _ => idle d hd.1 hd.2.1, rfl⟩

theorem awaits_unique {u : CaptureUnit} {kind : CaptureKind} {play : PlayState} {c d : Condition}
    (hc : awaits u kind play c) (hd : awaits u kind play d) : c = d :=
  Option.some.inj (hc.2.1.symm.trans hd.2.1)

theorem testCapture_testedFor (kind : CaptureKind) (play : PlayState) (met : Condition → Option MetValue)
    (part timecode : Word) (s : State) :
    testedFor kind play met part timecode s (testCapture kind play met part timecode s).capture := by
  rcases testCapture_cases kind play met part timecode s with ⟨c, m, waits, hm, e⟩ | ⟨unmet, e⟩
  · refine ⟨fun d k hd hk => ?_, fun unmet => absurd hm (unmet c m waits)⟩
    obtain rfl := awaits_unique waits hd
    obtain rfl : m = k := Option.some.inj (hm.symm.trans hk)
    rw [e, trip_capture]
  · exact ⟨fun d k hd hk => absurd hk (unmet d k hd), fun _ => by rw [e]⟩

/-- What a test opportunity reads of a state. -/
theorem testCapture_congr (kind : CaptureKind) (play : PlayState) (met : Condition → Option MetValue)
    (part timecode : Word) {s t : State} (cond : t.cond = s.cond) (geo : t.geo = s.geo)
    (scale : t.zone.scale = s.zone.scale) (take : t.take = s.take) (capture : t.capture = s.capture) :
    (testCapture kind play met part timecode t).capture = (testCapture kind play met part timecode s).capture := by
  unfold testCapture
  rw [capture]
  split
  · split
    · split
      · exact trip_congr _ _ _ _ cond geo scale take capture
      · exact capture
    · exact capture
  · exact capture

/-! ## A recording ended -/

/-- The store of an active recording that ends INTERRUPTED (R139). -/
def interruptedStore (r : Recording) (st : TakeStore) : TakeStore :=
  if r.active = true then endEntry r.entry (st.mapEntry r.entry fun e => { e with interrupted := true }) else st

/-- The record state after an interruption. -/
def interruptedRecording (r : Recording) : Recording := if r.active = true then idleRecording else r

theorem interruptRecording_eq (s : State) :
    interruptRecording s =
      (s.setStore (interruptedStore s.take.recording s.store)).setTake
        { s.take with recording := interruptedRecording s.take.recording } := by
  unfold interruptRecording interruptedStore interruptedRecording
  cases h : s.take.recording.active <;> rfl

theorem interruptedRecording_eq (r : Recording) :
    interruptedRecording r = if r.state = .idle then r else idleRecording := by
  unfold interruptedRecording
  simp only [Recording.active_iff, ne_eq, ite_not]

@[simp] theorem interruptedRecording_state (r : Recording) : (interruptedRecording r).state = .idle := by
  rw [interruptedRecording_eq]; split
  · assumption
  · rfl

theorem closeLast_reading (e : DirEntry) (next : Nat) (st : TakeStore) (x : Option ReadReq) :
    closeLast e next { st with reading := x } = { closeLast e next st with reading := x } := by
  unfold closeLast
  cases e.blocks.getLast? with
  | none => rfl
  | some b => cases h : st.heldWord <;> simp only <;> rfl

theorem endEntry_reading (i : Fin 32) (st : TakeStore) (x : Option ReadReq) :
    endEntry i { st with reading := x } = { endEntry i st with reading := x } := by
  have close := closeLast_reading st.dir[i] noNextBlock st x
  unfold endEntry
  exact congrArg (fun u : TakeStore => u.mapEntry i fun e =>
    { e with state := .complete, marks := e.marks.filter fun m => decide (m < e.length) }) close

/-- The read in progress takes no part in the end of a recording. -/
theorem interruptedStore_reading (r : Recording) (st : TakeStore) (x : Option ReadReq) :
    interruptedStore r { st with reading := x } = { interruptedStore r st with reading := x } := by
  unfold interruptedStore
  split
  · exact endEntry_reading r.entry (st.mapEntry r.entry fun e => { e with interrupted := true }) x
  · rfl

/-- Nor does the end of a recording touch it. -/
theorem interruptedStore_keeps (r : Recording) (st : TakeStore) : (interruptedStore r st).reading = st.reading := by
  have h := congrArg TakeStore.reading (interruptedStore_reading r st st.reading)
  exact h

theorem byteAt_eq_getElem {bs : List Byte} {k : Nat} (h : k < bs.length) : byteAt bs k = bs[k] :=
  List.getD_eq_getElem _ _ h

/-- A string written into the memory: its own bytes inside, the memory's outside. -/
theorem memRead_memWriteBytes (m : List Host.Cell) (a x : Nat) (bs : List Byte) :
    memRead (memWriteBytes m a bs) x =
      if a ≤ x ∧ x < a + bs.length then some (byteAt bs (x - a)) else memRead m x := by
  split
  case isTrue h =>
    have inside : x - a < bs.length := by omega
    have read := memRead_memWriteBytes_at bs m a (x - a) inside
    rwa [show a + (x - a) = x by omega, ← byteAt_eq_getElem inside] at read
  case isFalse h => exact memRead_memWriteBytes_other _ _ _ _ (by omega)

/-- Check bits written beside words: their own inside, the memory's outside. -/
theorem memRead_writeChecks (check : List Host.Cell) (w n x : Nat) (bs : List Byte) :
    memRead (writeChecks check w bs n) x =
      if w ≤ x ∧ x < w + n then some (Config.checkBits (wordOf ((bs.drop (8 * (x - w))).take 8)))
      else memRead check x := by
  split
  case isTrue h =>
    have read := memRead_writeChecks_at check w n (x - w) bs (by omega)
    rwa [show w + (x - w) = x by omega] at read
  case isFalse h => exact memRead_writeChecks_other _ _ _ _ _ (by omega)

/-- The word the Store holds, filled up and written (R122). -/
def flushHeld (st : TakeStore) : TakeStore :=
  match st.heldWord with
  | none => st
  | some (a, bytes) => writeWords a (bytes ++ List.replicate (8 - bytes.length) 0) st

theorem writeWords_eq (a : Nat) (bs : List Byte) (st : TakeStore) :
    writeWords a bs st =
      { st with
        mem := memWriteBytes st.mem a bs
        check := writeChecks st.check (a / 8) bs (bs.length / 8) } := rfl

theorem closeLast_block {e : DirEntry} {b : Nat} (next : Nat) (st : TakeStore) (h : e.blocks.getLast? = some b) :
    closeLast e next st =
      { writeWords (b * blockBytes)
          (blockHeader e.take (e.blocks.length - 1) (blockRecords e (e.blocks.length - 1)) next) (flushHeld st) with
        heldWord := none } := by
  unfold closeLast flushHeld
  cases st.heldWord <;> simp only [h]

theorem blockRecords_last {e : DirEntry} (h : e.blocks ≠ []) :
    blockRecords e (e.blocks.length - 1) = e.length - (e.blocks.length - 1) * e.perBlock := by
  have nonempty : 0 < e.blocks.length := List.length_pos_iff.2 h
  rw [blockRecords, if_pos (by omega)]

/-- What closing a take's last block makes of the memory, as R122 says it. -/
theorem lastBlockClosed_closeLast (e : DirEntry) (next : Nat) (st : TakeStore) :
    lastBlockClosed next e st (closeLast e next st) := by
  refine ⟨(closeLast_frame e next st).2.2.2.2, fun empty => ?_, fun b last => ?_⟩
  · unfold closeLast; rw [empty]; exact ⟨rfl, rfl⟩
  · have blocks : e.blocks ≠ [] := by rintro h; rw [h] at last; cases last
    rw [closeLast_block next st last, blockRecords_last blocks]
    set header := blockHeader e.take (e.blocks.length - 1)
      (e.length - (e.blocks.length - 1) * e.perBlock) next with hdr
    have size : header.length = 16 := rfl
    have bytes (a : Nat) : memRead (writeWords (b * blockBytes) header (flushHeld st)).mem a =
        if b * 16384 ≤ a ∧ a < b * 16384 + 16 then some (byteAt header (a - b * 16384))
        else memRead (flushHeld st).mem a := memRead_memWriteBytes _ _ _ _
    have checks (w : Nat) : memRead (writeWords (b * blockBytes) header (flushHeld st)).check w =
        if b * 2048 ≤ w ∧ w < b * 2048 + 2 then
          some (Config.checkBits (wordOf ((header.drop (8 * (w - b * 2048))).take 8)))
        else memRead (flushHeld st).check w := by
      have words : b * blockBytes / 8 = b * 2048 := by unfold blockBytes; omega
      rw [writeWords_eq, size, words]
      exact memRead_writeChecks _ _ 2 _ _
    refine ⟨fun k hk => ?_, fun k hk => ?_, fun a ha => ?_, fun w hw => ?_⟩
    · rw [bytes, if_pos (by omega), show b * 16384 + k - b * 16384 = k by omega]; rfl
    · rw [checks, if_pos (by omega), show b * 2048 + k - b * 2048 = k by omega]; rfl
    · rw [bytes, if_neg (by omega)]
      unfold flushHeld
      cases held : st.heldWord with
      | none => simp
      | some w => exact memRead_memWriteBytes _ _ _ _
    · rw [checks, if_neg (by omega)]
      unfold flushHeld
      cases held : st.heldWord with
      | none => simp
      | some w => exact memRead_writeChecks _ _ _ _ _

/-- Which items of an entry the close of its last block reads. -/
theorem closeLast_congr {e f : DirEntry} (next : Nat) (st : TakeStore) (blocks : f.blocks = e.blocks)
    (take : f.take = e.take) (length : f.length = e.length) (perBlock : f.perBlock = e.perBlock) :
    closeLast f next st = closeLast e next st := by
  unfold closeLast blockRecords; rw [blocks, take, length, perBlock]

/-- Closing a block writes words and drops the held one, nothing else. -/
theorem closeLast_shape (e : DirEntry) (next : Nat) (st : TakeStore) :
    ∃ mem check, closeLast e next st = { st with mem := mem, check := check, heldWord := none } := by
  unfold closeLast
  cases e.blocks.getLast? with
  | none => exact ⟨_, _, rfl⟩
  | some b =>
    cases st.heldWord <;> (simp only [writeWords_eq]; exact ⟨_, _, rfl⟩)

/-- The directory takes no part in the close of a block. -/
theorem closeLast_dir (e : DirEntry) (next : Nat) (st : TakeStore) (d : Vector DirEntry 32) :
    closeLast e next { st with dir := d } = { closeLast e next st with dir := d } := by
  unfold closeLast
  cases e.blocks.getLast? with
  | none => rfl
  | some b => cases h : st.heldWord <;> simp only <;> rfl

/-- A recording ended, INTERRUPTED or not, as R120 and R137 say it. -/
theorem recordingEnded_endEntry (i : Fin 32) (interrupted : Bool) (st : TakeStore) :
    recordingEnded i interrupted st
      (endEntry i (st.mapEntry i fun e => { e with interrupted := interrupted })) := by
  have entry : (st.mapEntry i fun e => { e with interrupted := interrupted }).dir[i] =
      { st.dir[i] with interrupted := interrupted } := by simp [TakeStore.mapEntry]
  have closed := lastBlockClosed_closeLast st.dir[i] noNextBlock st
  have close : closeLast (st.mapEntry i fun e => { e with interrupted := interrupted }).dir[i] noNextBlock
      (st.mapEntry i fun e => { e with interrupted := interrupted }) =
      { closeLast st.dir[i] noNextBlock st with
        dir := (st.mapEntry i fun e => { e with interrupted := interrupted }).dir } := by
    rw [closeLast_congr (e := st.dir[i]) _ _ (by rw [entry]) (by rw [entry]) (by rw [entry]) (by rw [entry])]
    exact closeLast_dir _ _ _ _
  obtain ⟨mem, check, shape⟩ := closeLast_shape st.dir[i] noNextBlock st
  unfold endEntry
  dsimp only
  rw [close]
  rw [shape] at closed ⊢
  exact ⟨by simp [TakeStore.mapEntry, withEntry], closed⟩

theorem interruptedStore_idle {r : Recording} (st : TakeStore) (h : r.state = .idle) : interruptedStore r st = st := by
  unfold interruptedStore; rw [if_neg (fun a => (Recording.active_iff r).1 a h)]

theorem interruptedStore_ended {r : Recording} (st : TakeStore) (h : r.state ≠ .idle) :
    recordingEnded r.entry true st (interruptedStore r st) := by
  unfold interruptedStore; rw [if_pos ((Recording.active_iff r).2 h)]
  exact recordingEnded_endEntry r.entry true st

/-! ## A playback aborted -/

/-- The playback once it is aborted at its index, with a reason (R149). -/
def abortedPlay (reason : AbortReason) (p : Playback) : Playback :=
  { p with state := .aborted, abort := some (p.index, reason), queue := [], lineTrigger := false, firstFrame := false }

/-- A channel once a playback has been aborted: the take hold of one on a take source is set from its output (R15). -/
def heldTake (c : Channel) (l : LensChannel) : Channel :=
  if c.onTake = true then { c with takeHold := holdFromOutput c l } else c

theorem heldTake_eq (c : Channel) (l : LensChannel) :
    heldTake c l = { c with takeHold :=
      if c.source = .take ∨ c.source = .takeTrim then if c.desc.cls = .lens then engOf l c.outPos else c.outPos
      else c.takeHold } := by
  unfold heldTake
  simp only [Channel.onTake_iff, holdFromOutput_eq]
  split <;> rfl

/-- The Take Store once the read in progress is no longer wanted (R147). -/
def unwanted (st : TakeStore) : TakeStore :=
  { st with reading := st.reading.map fun r => { r with wanted := false } }

theorem abortPlay_take (reason : AbortReason) (s : State) :
    (abortPlay reason s).take = { s.take with play := abortedPlay reason s.take.play } := rfl

theorem abortPlay_store (reason : AbortReason) (s : State) : (abortPlay reason s).store = unwanted s.store := rfl

theorem abortPlay_at (reason : AbortReason) (s : State) (n : Fin 12) :
    (abortPlay reason s).cond.chans[n] = heldTake s.cond.chans[n] s.lens[n] := State.mapChans_at _ _ n

@[simp] theorem abortPlay_resumeCatch (reason : AbortReason) (s : State) :
    (abortPlay reason s).cond.resumeCatch = s.cond.resumeCatch := rfl

end Sys2Proof.Machine
end

section
/-! PROOFS. A cause taken (sections 4.1 and 4.2): the fault record, the stop that begins, the drives dropped, an arming
ended. -/

namespace Sys2Proof.Machine
open Sys2Proof.Claims

/-! ## The fault record -/

theorem enterCause_eq (c : Cause) (s : State) :
    enterCause c s = s.setStop { s.stop with fault := some (faultEntered c s) } := by
  unfold enterCause faultEntered
  rw [latestTimecode_eq]
  cases s.stop.fault <;> rfl

theorem handCause_eq (c : Cause) (s : State) : handCause c s = s.setCapture (handCause c s).capture :=
  testCapture_eq _ _ _ _ _ _

theorem handCause_testedFor (c : Cause) (s : State) :
    testedFor .anyStop s.take.play.state (fun _ => some (.cause c.name c.name.cls)) s.link.part (latestTimecode s) s
      (handCause c s).capture := by
  rw [latestTimecode_eq]; exact testCapture_testedFor _ _ _ _ _ _

/-- A cause entered in the fault record and handed to the Capture Unit, before it acts (R65, R85). -/
def causeNoted (c : Cause) (s : State) : State :=
  (s.setStop { s.stop with fault := some (faultEntered c s) }).setCapture (handCause c s).capture

theorem handCause_enterCause (c : Cause) (s : State) : handCause c (enterCause c s) = causeNoted c s := by
  rw [handCause_eq, enterCause_eq]
  exact congrArg _ (testCapture_congr _ _ _ _ _ rfl rfl rfl rfl rfl)

theorem takeCause_parked (c : Cause) {s : State} (h : s.mode.mode = .parked) : takeCause c s = s := by
  unfold takeCause; rw [h]

theorem takeCause_arming (c : Cause) {s : State} (h : s.mode.mode = .arming) :
    takeCause c s = abortByCause c (causeNoted c s) := by
  unfold takeCause; rw [h, ← handCause_enterCause]

theorem takeCause_live (c : Cause) {s : State} (h : s.mode.mode = .live) :
    takeCause c s = actLive c.name (causeNoted c s) := by
  unfold takeCause; rw [h, ← handCause_enterCause]

/-! ## A stop begins -/

/-- The playback once a stop has begun, or an ABORT_PLAY come: aborted where it was active (R149). -/
def abortedIfActive (reason : AbortReason) (p : Playback) : Playback :=
  if p.active = true then abortedPlay reason p else p

theorem abortedIfActive_inactive (reason : AbortReason) (p : Playback) : (abortedIfActive reason p).active = false := by
  unfold abortedIfActive
  split
  · rfl
  · exact Bool.eq_false_iff.2 ‹_›

theorem abortActive_take (reason : AbortReason) (s : State) :
    (abortActive reason s).take = { s.take with play := abortedIfActive reason s.take.play } := by
  unfold abortActive abortedIfActive; split <;> rfl

theorem abortActive_store (reason : AbortReason) (s : State) :
    (abortActive reason s).store = if s.take.play.active = true then unwanted s.store else s.store := by
  unfold abortActive; split <;> rfl

theorem abortActive_at (reason : AbortReason) (s : State) (n : Fin 12) :
    (abortActive reason s).cond.chans[n] =
      if s.take.play.active = true then heldTake s.cond.chans[n] s.lens[n] else s.cond.chans[n] := by
  unfold abortActive; split
  · exact abortPlay_at _ _ _
  · rfl

@[simp] theorem abortActive_resumeCatch (reason : AbortReason) (s : State) :
    (abortActive reason s).cond.resumeCatch = s.cond.resumeCatch := by
  unfold abortActive; split <;> rfl

theorem stopBegins_take (s : State) :
    (stopBegins s).take =
      { s.take with
        play := abortedIfActive .stop s.take.play, recording := interruptedRecording s.take.recording } := by
  unfold stopBegins; rw [interruptRecording_eq]; simp [abortActive_take]

theorem stopBegins_store (s : State) :
    (stopBegins s).store =
      if s.take.play.active = true then unwanted (interruptedStore s.take.recording s.store)
      else interruptedStore s.take.recording s.store := by
  unfold stopBegins
  rw [interruptRecording_eq]
  simp only [State.setTake_store, State.setStore_store, abortActive_store, abortActive_take]
  split
  · exact (interruptedStore_reading s.take.recording s.store _).trans (by rw [unwanted, interruptedStore_keeps])
  · rfl

theorem stopBegins_cond (s : State) : (stopBegins s).cond = (abortActive .stop s).cond := by
  unfold stopBegins; rw [interruptRecording_eq]; rfl

theorem stopBegins_at (s : State) (n : Fin 12) :
    (stopBegins s).cond.chans[n] =
      if s.take.play.active = true then heldTake s.cond.chans[n] s.lens[n] else s.cond.chans[n] := by
  rw [stopBegins_cond]; exact abortActive_at _ _ _

@[simp] theorem stopBegins_resumeCatch (s : State) : (stopBegins s).cond.resumeCatch = s.cond.resumeCatch := by
  rw [stopBegins_cond]; exact abortActive_resumeCatch _ _

/-- What the beginning of a stop reads of a state. -/
theorem stopBegins_congr {s t : State} (take : t.take = s.take) (store : t.store = s.store) (cond : t.cond = s.cond)
    (lens : t.lens = s.lens) :
    (stopBegins t).cond = (stopBegins s).cond ∧ (stopBegins t).take = (stopBegins s).take ∧
    (stopBegins t).store = (stopBegins s).store := by
  refine ⟨Conditioner.ext_at (fun n => ?_) ?_, ?_, ?_⟩
  · rw [stopBegins_at, stopBegins_at, take, cond, lens]
  · rw [stopBegins_resumeCatch, stopBegins_resumeCatch, cond]
  · rw [stopBegins_take, stopBegins_take, take]
  · rw [stopBegins_store, stopBegins_store, take, store]

/-! ## The drives dropped -/

theorem calibrationFailed_eq (reason : CalFailure) (l : LensChannel) :
    failCalibration reason l = calibrationFailed reason l := by
  unfold failCalibration calibrationFailed
  simp only [LensChannel.calibrating_iff]

theorem calibrationFailed_stopped (reason : CalFailure) (l : LensChannel) :
    (calibrationFailed reason l).calibrating = false := by
  unfold calibrationFailed
  split
  · rfl
  · exact Bool.eq_false_iff.2 fun h => ‹¬ _› ((LensChannel.calibrating_iff _).1 h)

theorem failCalibrations_at (reason : CalFailure) (s : State) (n : Fin 12) :
    (failCalibrations reason s).lens[n] = calibrationFailed reason s.lens[n] := by
  rw [← calibrationFailed_eq]; exact State.mapAllLens_at _ _ _

theorem enterStopping_stop (n : CauseName) (s : State) :
    (enterStopping n s).stop =
      { s.stop with safety := .stopping, stopTimer := 0, softStop := n == .gripReleased } := by
  simp [enterStopping]

theorem enterDropped_stop (s : State) :
    (enterDropped s).stop = { s.stop with safety := .dropped, softStop := false } := by
  unfold enterDropped; dsimp only; split <;> simp

theorem enterDropped_pins (s : State) :
    (enterDropped s).pins = { s.pins with estopOutClosed := false, brakeReleased := false } := by
  unfold enterDropped; dsimp only; split <;> simp [openChain]

theorem enterDropped_lens (s : State) (n : Fin 12) :
    (enterDropped s).lens[n] = calibrationFailed .dropped s.lens[n] := by
  unfold enterDropped
  refine (failCalibrations_at _ _ _).trans ?_
  dsimp only; split <;> simp

theorem enterDropped_quiet {s : State} (h : s.stop.safety ≠ .normal) :
    (enterDropped s).cond = s.cond ∧ (enterDropped s).take = s.take ∧ (enterDropped s).store = s.store := by
  unfold enterDropped
  have stopped : (s.stop.safety == .normal) = false := by simpa using h
  simp [stopped]

/-! ## A cause acts on a LIVE crane -/

theorem actLive_controlled {n : CauseName} {s : State} (hn : n.cls = .c) (hs : s.stop.safety = .normal) :
    actLive n s = enterStopping n s := by unfold actLive; rw [hn, hs]

theorem actLive_later {n : CauseName} {s : State} (hn : n.cls = .c)
    (hs : s.stop.safety = .stopping ∨ s.stop.safety = .held) : actLive n s = laterSoft n s := by
  unfold actLive; rw [hn]; rcases hs with hs | hs <;> rw [hs]

theorem actLive_immediate {n : CauseName} {s : State} (hn : n.cls = .i) (hs : s.stop.safety ≠ .dropped) :
    actLive n s = enterDropped s := by
  unfold actLive; rw [hn]
  cases h : s.stop.safety <;> simp_all

theorem actLive_dropped (n : CauseName) {s : State} (hs : s.stop.safety = .dropped) : actLive n s = s := by
  unfold actLive; rw [hs]; cases n.cls <;> rfl

theorem laterSoft_stop (n : CauseName) (s : State) :
    (laterSoft n s).stop = { s.stop with softStop := s.stop.softStop && decide (n = .gripReleased) } := by
  unfold laterSoft; split <;> simp [*]

/-- What a cause does to a crane in each safety state (R67 to R69). -/
theorem actLive_cases (n : CauseName) (s : State) :
    (n.cls = .c ∧ s.stop.safety = .normal ∧ actLive n s = enterStopping n s) ∨
    (n.cls = .c ∧ (s.stop.safety = .stopping ∨ s.stop.safety = .held) ∧ actLive n s = laterSoft n s) ∨
    (n.cls = .i ∧ s.stop.safety ≠ .dropped ∧ actLive n s = enterDropped s) ∨
    (s.stop.safety = .dropped ∧ actLive n s = s) := by
  cases hn : n.cls
  · cases hs : s.stop.safety
    · exact .inl ⟨rfl, rfl, actLive_controlled hn hs⟩
    · exact .inr (.inl ⟨rfl, .inl rfl, actLive_later hn (.inl hs)⟩)
    · exact .inr (.inl ⟨rfl, .inr rfl, actLive_later hn (.inr hs)⟩)
    · exact .inr (.inr (.inr ⟨rfl, actLive_dropped n hs⟩))
  · by_cases hs : s.stop.safety = .dropped
    · exact .inr (.inr (.inr ⟨hs, actLive_dropped n hs⟩))
    · exact .inr (.inr (.inl ⟨rfl, hs, actLive_immediate hn hs⟩))

/-- A stop or a drop that begins in NORMAL begins its stop (R67, R68). -/
theorem actLive_fromNormal (n : CauseName) {s : State} (hs : s.stop.safety = .normal) :
    (actLive n s).cond = (stopBegins s).cond ∧ (actLive n s).take = (stopBegins s).take ∧
    (actLive n s).store = (stopBegins s).store := by
  cases hn : n.cls
  · rw [actLive_controlled hn hs]
    exact stopBegins_congr rfl rfl rfl rfl
  · rw [actLive_immediate hn (by rw [hs]; decide)]
    unfold enterDropped
    rw [hs]
    exact stopBegins_congr rfl rfl rfl rfl

theorem actLive_quiet (n : CauseName) {s : State} (hs : s.stop.safety ≠ .normal) :
    (actLive n s).cond = s.cond ∧ (actLive n s).take = s.take ∧ (actLive n s).store = s.store := by
  rcases actLive_cases n s with ⟨_, h, _⟩ | ⟨_, _, e⟩ | ⟨_, _, e⟩ | ⟨_, e⟩
  · exact absurd h hs
  · rw [e]; simp
  · rw [e]; exact enterDropped_quiet hs
  · rw [e]; exact ⟨rfl, rfl, rfl⟩

/-! ## A cause taken in LIVE -/

theorem takeCause_controlled {c : Cause} {s : State} (live : s.mode.mode = .live) (controlled : c.name.cls = .c)
    (normal : s.stop.safety = .normal) : takeCause c s = enterStopping c.name (causeNoted c s) :=
  (takeCause_live c live).trans (actLive_controlled (s := causeNoted c s) controlled normal)

theorem takeCause_later {c : Cause} {s : State} (live : s.mode.mode = .live) (controlled : c.name.cls = .c)
    (later : s.stop.safety = .stopping ∨ s.stop.safety = .held) :
    takeCause c s = laterSoft c.name (causeNoted c s) :=
  (takeCause_live c live).trans (actLive_later (s := causeNoted c s) controlled later)

theorem takeCause_immediate {c : Cause} {s : State} (live : s.mode.mode = .live) (immediate : c.name.cls = .i)
    (up : s.stop.safety ≠ .dropped) : takeCause c s = enterDropped (causeNoted c s) :=
  (takeCause_live c live).trans (actLive_immediate (s := causeNoted c s) immediate up)

theorem takeCause_dropped (c : Cause) {s : State} (live : s.mode.mode = .live) (dropped : s.stop.safety = .dropped) :
    takeCause c s = causeNoted c s :=
  (takeCause_live c live).trans (actLive_dropped c.name (s := causeNoted c s) dropped)

/-! ## An arming ended -/

theorem settledChecks_eq (c : Checks) : c.dropPending = settledChecks c := by
  have mark (m : CheckMark) : Machine.dropPending m = if m = .pending then .notRun else m := by cases m <;> rfl
  simp [Checks.dropPending, settledChecks, mark]

theorem abortArming_eq (result : CheckResult) (event : AbortEvent) (mark : Checks → Checks)
    (detail : Option CheckDetail) (s : State) :
    abortArming result event mark detail s =
      armingEnded s result event (mark s.mode.check.checks) (detail.or s.mode.check.detail) := by
  unfold abortArming armingEnded
  simp only [settledChecks_eq]
  cases detail <;> rfl

theorem drivesDetail_or (c : Cause) (s : State) :
    (drivesDetail c s).or s.mode.check.detail =
      match c.channel with
      | none => s.mode.check.detail
      | some n => some { channel := some n, item := (s.cond.chans[n]).status.toNat } := by
  unfold drivesDetail; cases c.channel <;> rfl

end Sys2Proof.Machine

namespace Sys2Proof.Proofs
open Sys2Proof.Machine Sys2Proof.Claims

theorem noted_capture (c : Cause) {s : State} (h : s.mode.mode ≠ .parked) :
    (takeCause c s).capture = (handCause c s).capture := by
  cases hm : s.mode.mode with
  | parked => exact absurd hm h
  | arming => rw [takeCause_arming c hm]; simp [causeNoted]
  | live => rw [takeCause_live c hm]; simp [causeNoted]

theorem actLive_fault (n : CauseName) (s : State) : (actLive n s).stop.fault = s.stop.fault := by
  rcases actLive_cases n s with ⟨_, _, e⟩ | ⟨_, _, e⟩ | ⟨_, _, e⟩ | ⟨_, e⟩ <;> rw [e]
  · rw [enterStopping_stop]
  · rw [laterSoft_stop]
  · rw [enterDropped_stop]

theorem noted_fault (c : Cause) {s : State} (h : s.mode.mode ≠ .parked) :
    (takeCause c s).stop.fault = some (faultEntered c s) := by
  cases hm : s.mode.mode with
  | parked => exact absurd hm h
  | arming => rw [takeCause_arming c hm]; simp [causeNoted]
  | live => rw [takeCause_live c hm, actLive_fault]; rfl

/-- What a cause that finds a LIVE crane in NORMAL does to the channels, the playback and the recording (R67, R68). -/
theorem live_fromNormal (c : Cause) {s : State} (live : s.mode.mode = .live) (normal : s.stop.safety = .normal) :
    (takeCause c s).cond = (stopBegins s).cond ∧ (takeCause c s).take = (stopBegins s).take ∧
    (takeCause c s).store = (stopBegins s).store := by
  rw [takeCause_live c live]
  have acts := actLive_fromNormal c.name (s := causeNoted c s) normal
  have begins := stopBegins_congr (s := s) (t := causeNoted c s) rfl rfl rfl rfl
  exact ⟨acts.1.trans begins.1, acts.2.1.trans begins.2.1, acts.2.2.trans begins.2.2⟩

/-- Elsewhere it leaves them as they are. -/
theorem live_elsewhere (c : Cause) {s : State} (live : s.mode.mode = .live) (h : s.stop.safety ≠ .normal) :
    (takeCause c s).cond = s.cond ∧ (takeCause c s).take = s.take ∧ (takeCause c s).store = s.store := by
  rw [takeCause_live c live]; exact actLive_quiet c.name (s := causeNoted c s) h

/-- Settles O27: by the crane mode the cause finds, and in LIVE by its class and the safety state. -/
theorem causesActByClass : Obligations.CausesActByClass := by
  intro c s
  refine ⟨takeCause_parked c, fun used => ⟨noted_fault c used, ?_⟩, fun arming => ?_, fun live => ?_⟩
  · rw [noted_capture c used]; exact handCause_testedFor c s
  · have detail := drivesDetail_or c (causeNoted c s)
    rw [noted_capture c (by rw [arming]; decide), takeCause_arming c arming, abortByCause]
    cases c.name <;> simp only [abortArming_eq, detail, Option.none_or] <;> rfl
  have notParked : s.mode.mode ≠ .parked := by rw [live]; decide
  refine ⟨?_, fun imm => ?_, fun imm up => ?_, fun ctl normal => ?_, fun normal => ?_, live_elsewhere c live,
    fun imm up n => ?_, fun dropped => ?_, fun ctl later => ?_, fun ctl notNormal => ?_⟩
  · apply State.eq_of_blocks <;> simp [takeCause_live c live, causeNoted]
  · by_cases up : s.stop.safety = .dropped
    · rw [takeCause_dropped c live up]; exact up
    · rw [takeCause_immediate live imm up, enterDropped_stop]
  · rw [takeCause_immediate live imm up, enterDropped_stop, enterDropped_pins]
    refine ⟨rfl, rfl, rfl, rfl, fun n => ?_⟩
    rw [enterDropped_lens]; exact calibrationFailed_stopped _ _
  · rw [takeCause_controlled live ctl normal, enterStopping_stop]
    simp [causeNoted]
  · obtain ⟨cond, take, store⟩ := live_fromNormal c live normal
    rw [cond, take, store, stopBegins_take]
    refine ⟨by simp, abortedIfActive_inactive _ _, interruptedStore s.take.recording s.store,
      interruptedStore_idle _, interruptedStore_ended _, ?_, ?_, stopBegins_resumeCatch s, fun n => ?_⟩
    · rw [stopBegins_store, unwanted, interruptedStore_keeps]
      simp only [Playback.active_iff]
    · rw [interruptedRecording_eq]
      simp only [abortedIfActive, Playback.active_iff, abortedPlay]
    · rw [stopBegins_at, heldTake_eq]
      by_cases active : s.take.play.active = true
      · simp only [(Playback.active_iff _).1 active, true_and, active, if_true]
      · simp only [mt (Playback.active_iff _).2 active, false_and, active, if_false, Bool.false_eq_true]
  · rw [takeCause_immediate live imm up]
    exact enterDropped_lens _ n
  · rw [noted_capture c notParked, takeCause_dropped c live dropped]; rfl
  · rw [noted_capture c notParked, takeCause_later live ctl later]
    apply State.eq_of_blocks <;> simp [laterSoft_stop, causeNoted]
  · obtain ⟨cond, take, _⟩ := live_elsewhere c live notNormal
    rw [cond, take]
    by_cases dropped : s.stop.safety = .dropped
    · rw [takeCause_dropped c live dropped]; exact ⟨rfl, rfl, rfl, rfl, rfl, rfl⟩
    · have later : s.stop.safety = .stopping ∨ s.stop.safety = .held := by
        cases h : s.stop.safety <;> simp_all
      rw [takeCause_later live ctl later, laterSoft_stop]
      simp [causeNoted]

end Sys2Proof.Proofs
end

section
/-! PROOFS. Requests that leave one part of the machine changed: GO and ABORT_PLAY, SET_CHANNEL, SET_SOURCE, and the reset
values. -/

namespace Sys2Proof.Machine
open Sys2Proof.Claims

/-! ## How a request is answered -/

/-- A request that runs and answers with a result alone. -/
theorem request_replied {tag code : Byte} {body : Body} {s t : State} {r : Result} (tagged : tag ≠ 0)
    (accepted : s.mode.mode ≠ .arming ∨ armingAccepts code = true) (effect : body s = (t, plain r)) :
    Host.Outcome.next (request tag code body s) = replied tag code r t := by
  rw [request_runs body tagged accepted, effect]; rfl

/-- A request refused in ARMING. -/
theorem request_refusedInArming {tag code : Byte} (body : Body) {s : State} (tagged : tag ≠ 0)
    (arming : s.mode.mode = .arming) (refused : armingAccepts code = false) :
    Host.Outcome.next (request tag code body s) = replied tag code .refusedBusy s := by
  rw [request_arming body tagged arming refused]; rfl

/-! ## GO and ABORT_PLAY -/

theorem goBody_refused {s : State} (h : s.mode.mode = .parked ∨ s.take.play.state ≠ .cued) :
    goBody s = (s, plain .refusedMode) := if_pos h

theorem goBody_cued {s : State} (used : s.mode.mode ≠ .parked) (cued : s.take.play.state = .cued) :
    goBody s = if s.pins.supplyWarn = true then (s, plain .refusedSupply) else (startPlay s, plain .ok) :=
  if_neg (by rintro (h | h); exacts [used h, h cued])

end Sys2Proof.Machine

namespace Sys2Proof.Proofs
open Sys2Proof.Machine Sys2Proof.Claims

/-- Settles O46: GO by its three refusals, ABORT_PLAY by whether the playback is active. -/
theorem goAndAbortTaken : Obligations.GoAndAbortTaken := by
  rintro tag s ⟨tagged, notArming⟩
  have runs (code : Byte) : s.mode.mode ≠ .arming ∨ armingAccepts code = true := .inl notArming
  have used (live : s.mode.mode = .live) : s.mode.mode ≠ .parked := by rw [live]; decide
  refine ⟨fun h => request_replied tagged (runs _) (goBody_refused h), fun live cued warn => ?_,
    fun live cued quiet => ?_, fun inactive => ?_, fun active => ?_⟩
  · exact request_replied tagged (runs _) ((goBody_cued (used live) cued).trans (if_pos warn))
  · exact request_replied tagged (runs _) ((goBody_cued (used live) cued).trans (if_neg (by rw [quiet]; decide)))
  · have still : s.take.play.active = false := by rcases inactive with h | h | h <;> rw [Playback.active, h] <;> rfl
    refine request_replied tagged (runs _) (?_ : (abortActive .request s, plain .ok) = _)
    rw [abortActive, if_neg (by rw [still]; decide)]
  · refine ⟨(abortPlay .request s).cond.chans, request_replied tagged (runs _) ?_, fun n => ?_⟩
    · exact congrArg (·, plain .ok) (if_pos ((Playback.active_iff _).2 active))
    · rw [abortPlay_at, heldTake]
      simp only [Channel.onTake_iff, holdFromOutput_eq]

theorem reset_chan (n : Fin 12) : State.reset.cond.chans[n] = resetChannel := Vector.getElem_replicate _

theorem reset_lens (n : Fin 12) : State.reset.lens[n] = resetLens := Vector.getElem_replicate _

theorem reset_entry (i : Fin 32) : State.reset.store.dir[i] = emptyEntry := Vector.getElem_replicate _

theorem reset_crew (k : Fin 4) : State.reset.zone.crew[k] = { active := false, count := 0 } :=
  Vector.getElem_replicate _

/-- The reset tables, table by table. -/
theorem reset_tables : resetTables State.reset := by
  refine ⟨fun n => ?_, ?_, ⟨?_, rfl, rfl, reset_crew, ?_⟩, ?_, ⟨rfl, rfl, rfl, rfl, fun i => ?_, ?_⟩, ?_, ?_,
    ⟨?_, ?_⟩, ?_, ?_⟩
  · rw [reset_chan, reset_lens]; decide
  · decide
  · intro id; cases id <;> rfl
  · decide
  · decide
  · rw [reset_entry]; decide
  · decide
  · decide
  · decide
  · intro p; cases p <;> decide
  · decide
  · exact ⟨rfl, rfl⟩
  · decide

/-- Settles O55: a pin reset is the reset state but for what R201 leaves, and the reset state is that of the tables. -/
theorem pinResetRestores : Obligations.PinResetRestores := fun _ _ =>
  ⟨fun short => congrArg Host.Outcome.next (if_neg (Nat.not_le.2 short)),
    fun long => congrArg Host.Outcome.next (if_pos long), reset_tables⟩

theorem reset_blocksConserved : blocksConserved State.reset := by
  refine ⟨nofun, fun _ => ⟨rfl, rfl, fun i => ?_⟩, fun i _ => ?_, fun h => absurd rfl h, nofun⟩ <;>
    rw [reset_entry] <;> rfl

theorem reset_shaped : shaped State.reset := by
  refine ⟨List.length_replicate, fun m n _ _ => .inl ?_, Nat.zero_le 4, Nat.zero_le 255, Nat.zero_le 65535,
    reset_memory_wf⟩
  rw [reset_chan]; rfl

/-- Settles O60: every clause of the invariants is about one block at its reset values. -/
theorem resetMeetsInvariants : Obligations.ResetMeetsInvariants :=
  ⟨fun _ => rfl, ⟨rfl, rfl⟩, fun _ => ⟨rfl, rfl⟩, nofun, reset_blocksConserved,
    ⟨Nat.le_refl 256, fun h => absurd rfl h⟩, reset_shaped⟩

end Sys2Proof.Proofs
end

section
/-! PROOFS. SET_CHANNEL (R3, R4) and SET_SOURCE (R19): the coded operands, the nine checks as one condition, the entries
written. -/

namespace Sys2Proof.Machine
open Sys2Proof.Claims

/-! ## Coded operands -/

theorem clsOf?_eq_some (b : Byte) (c : ChClass) : clsOf? b = some c ↔ b.toNat = clsCode c := by
  constructor
  · intro h; unfold clsOf? at h
    split at h <;> cases h <;> assumption
  · intro h; unfold clsOf?; rw [h]; cases c <;> rfl

theorem roleOf?_eq_some (b : Byte) (r : Role) : roleOf? b = some r ↔ b.toNat = roleCode r := by
  constructor
  · intro h; unfold roleOf? at h
    split at h <;> cases h <;> assumption
  · intro h; unfold roleOf?; rw [h]; cases r <;> rfl

theorem axisKindOf?_eq_some (b : Byte) (k : AxisKind) : axisKindOf? b = some k ↔ b.toNat = axisKindCode k := by
  constructor
  · intro h; unfold axisKindOf? at h
    split at h <;> cases h <;> assumption
  · intro h; unfold axisKindOf?; rw [h]; cases k <;> rfl

theorem sourceOf?_eq_some (b : Byte) (x : Source) : sourceOf? b = some x ↔ b.toNat = sourceCode x := by
  constructor
  · intro h; unfold sourceOf? at h
    split at h <;> cases h <;> assumption
  · intro h; unfold sourceOf?; rw [h]; cases x <;> rfl

theorem clsCode_le (c : ChClass) : clsCode c ≤ 2 := by cases c <;> decide

theorem roleCode_le (r : Role) : roleCode r ≤ 12 := by cases r <;> decide

theorem sourceCode_le (x : Source) : sourceCode x ≤ 3 := by cases x <;> decide

theorem roleCode_injective : Function.Injective roleCode := by
  intro a b same
  have coded : (BitVec.ofNat 8 (roleCode a)).toNat = roleCode a := by
    rw [BitVec.toNat_ofNat]; exact Nat.mod_eq_of_lt (by have := roleCode_le a; omega)
  exact Option.some.inj (((roleOf?_eq_some _ a).2 coded).symm.trans ((roleOf?_eq_some _ b).2 (coded.trans same)))

theorem channelOf?_val {b : Byte} {n : Fin 12} (h : b.toNat = n.val) : channelOf? b = some n := by
  rw [channelOf?, dif_pos (h ▸ n.isLt)]; exact congrArg some (Fin.ext h)

theorem channelOf?_none {b : Byte} (h : 12 ≤ b.toNat) : channelOf? b = none := dif_neg (by omega)

/-! ## Roles -/

/-- The table of R2 and the model's test say the same. -/
theorem roleAgrees_iff (c : ChClass) (r : Role) (k : AxisKind) :
    roleAgrees c r k = true ↔ roleFits (clsCode c) (roleCode r) (axisKindCode k) := by
  unfold roleFits
  cases r <;> cases c <;> cases k <;> decide

/-- The kind matters for a MOTION channel alone. -/
theorem roleFits_kind {cls role : Nat} (k j : Nat) (h : cls ≠ 1) : roleFits cls role k ↔ roleFits cls role j := by
  unfold roleFits; simp [h]

theorem single_iff (r : Role) : r.single = true ↔ r ≠ .none ∧ r ≠ .aux ∧ r ≠ .lensAux := by
  cases r <;> simp [Role.single]

theorem heldElsewhere_iff (chans : Vector Channel 12) (n : Fin 12) (r : Role) :
    heldElsewhere chans n r = true ↔ ∃ m : Fin 12, m ≠ n ∧ (chans[m]).desc.role = r := by
  simp [heldElsewhere]

/-! ## The nine checks -/

theorem fieldsInRange_iff (c : ChClass) (f : ChannelFields) :
    fieldsInRange c f = true ↔
      (f.posMin.toInt < f.posMax.toInt ∧ 1 ≤ f.velMax.toNat ∧ f.velMax.toNat ≤ 1048576 ∧ 1 ≤ f.accMax.toNat ∧
        f.followLimit.toNat ≤ 2 ^ 24 ∧ f.catchWindow.toNat ≤ 2 ^ 24 ∧ f.cueTolerance.toNat ≤ 2 ^ 20 ∧
        f.accMax.toNat ≤ f.stopAcc.toNat) ∧ (c = .lens → f.calibSpeed ≠ 0) := by
  simp only [fieldsInRange, Bool.and_eq_true, Bool.or_eq_true, decide_eq_true_eq, bne_iff_ne, ne_eq]
  constructor
  · rintro ⟨⟨⟨⟨⟨a, b, c⟩, d⟩, ⟨e, g⟩, i⟩, j⟩, k⟩
    exact ⟨⟨a, b, c, d, e, g, i, j⟩, fun l => k.resolve_left (fun x => x l)⟩
  · rintro ⟨⟨a, b, c, d, e, g, i, j⟩, k⟩
    exact ⟨⟨⟨⟨⟨a, b, c⟩, d⟩, ⟨e, g⟩, i⟩, j⟩, or_iff_not_imp_left.2 fun l => k (not_not.1 l)⟩

theorem reachFits_iff (g : Option GeoRecord) (r : Role) (lo : Int) :
    reachFits g r lo = true ↔ (r = .reach → ∀ x, g = some x → 0 ≤ (x.base : Int) + lo) := by
  cases g with
  | none => simp [reachFits]
  | some x => simp [reachFits, or_iff_not_imp_left]

/-- What the model asks of a SET_CHANNEL whose codes are named (R3). -/
def descriptorAccepted (s : State) (n : Fin 12) (c : ChClass) (r : Role) (k : AxisKind) (f : ChannelFields) : Prop :=
  roleAgrees c r k = true ∧ (r.single && heldElsewhere s.cond.chans n r) = false ∧
    (c = .unused ∨ fieldsInRange c f = true) ∧ reachFits s.geo.record r f.posMin.toInt = true

theorem kindFor_named {c : ChClass} {kind : Byte} (h : c = .motion → kind.toNat ≤ 1) :
    kindFor c kind = some (if c = .motion ∧ kind = 0 then .rotary else .linear) := by
  unfold kindFor
  by_cases m : c = .motion
  · by_cases z : kind = 0
    · simp [m, z, axisKindOf?]
    · have one : kind.toNat = 1 := by
        have : kind.toNat ≠ 0 := fun e => z (BitVec.eq_of_toNat_eq e)
        have := h m; omega
      simp only [m, z, and_false, if_true, if_false]
      exact (axisKindOf?_eq_some _ _).2 one
  · simp [m]

theorem kindFor_code {c : ChClass} {kind : Byte} {k : AxisKind} (h : kindFor c kind = some k) (m : c = .motion) :
    kind.toNat = axisKindCode k := by
  rw [kindFor, if_pos m] at h; exact (axisKindOf?_eq_some _ _).1 h

/-- Checks 2 to 9 of R3 over the codes, and over what they name. -/
theorem descriptorFits_iff {s : State} {n : Fin 12} {cls role kind : Byte} {f : ChannelFields} {c : ChClass} {r : Role}
    {k : AxisKind} (hc : clsOf? cls = some c) (hr : roleOf? role = some r) (hk : kindFor c kind = some k) :
    descriptorFits s n cls role kind f ↔ descriptorAccepted s n c r k f := by
  rw [clsOf?_eq_some] at hc
  rw [roleOf?_eq_some] at hr
  have motion : clsCode c = 1 ↔ c = .motion := by cases c <;> decide
  have unused : clsCode c = 0 ↔ c = .unused := by cases c <;> decide
  have lens : clsCode c = 2 ↔ c = .lens := by cases c <;> decide
  have code (x : Role) : roleCode r = roleCode x ↔ r = x := roleCode_injective.eq_iff
  have kindOk : c = .motion → kind.toNat ≤ 1 := fun m => by
    rw [kindFor_code hk m]; cases k <;> decide
  have fits : roleFits (clsCode c) (roleCode r) kind.toNat ↔ roleAgrees c r k = true := by
    rw [roleAgrees_iff]
    by_cases m : c = .motion
    · rw [kindFor_code hk m]
    · exact roleFits_kind _ _ (fun e => m (motion.1 e))
  have single : (roleCode r ≠ 0 ∧ roleCode r ≠ 8 ∧ roleCode r ≠ 12 →
        ∀ m : Fin 12, m ≠ n → roleCode (s.cond.chans[m]).desc.role ≠ roleCode r) ↔
      (r.single && heldElsewhere s.cond.chans n r) = false := by
    have free : (roleCode r ≠ 0 ∧ roleCode r ≠ 8 ∧ roleCode r ≠ 12) ↔ r.single = true := by
      rw [single_iff]
      exact and_congr (not_congr (code .none)) (and_congr (not_congr (code .aux)) (not_congr (code .lensAux)))
    have elsewhere : (∀ m : Fin 12, m ≠ n → roleCode (s.cond.chans[m]).desc.role ≠ roleCode r) ↔
        ¬ heldElsewhere s.cond.chans n r = true := by
      rw [heldElsewhere_iff]
      simp only [ne_eq, roleCode_injective.eq_iff, not_exists, not_and]
    rw [free, elsewhere, ← Bool.not_eq_true, Bool.and_eq_true, not_and]
  unfold descriptorFits descriptorAccepted
  have reach : roleCode r = 3 ↔ r = .reach := code .reach
  rw [hc, hr, single, fits, fieldsInRange_iff, reachFits_iff, motion, lens, reach, ne_eq, unused]
  refine ⟨fun ⟨_, _, _, agrees, free, used, calib, arm⟩ => ⟨agrees, free, ?_, arm⟩,
    fun ⟨agrees, free, ranges, arm⟩ =>
      ⟨clsCode_le c, roleCode_le r, kindOk, agrees, free, fun u => (ranges.resolve_left u).1, fun l => ?_, arm⟩⟩
  · exact or_iff_not_imp_left.2 fun u => ⟨used u, calib⟩
  · exact (ranges.resolve_left (by rw [l]; decide)).2 l

theorem checkedDescriptor_named {s : State} {n : Fin 12} {cls role kind : Byte} {f : ChannelFields} {c : ChClass}
    {r : Role} {k : AxisKind} (hc : clsOf? cls = some c) (hr : roleOf? role = some r) (hk : kindFor c kind = some k)
    (fits : descriptorFits s n cls role kind f) :
    checkedDescriptor s n cls role kind f = some (storedDescriptor c r k f) := by
  unfold checkedDescriptor
  simp only [hc, hr, hk]
  exact if_pos ((descriptorFits_iff hc hr hk).1 fits)

/-- A SET_CHANNEL that fails one of the checks names no descriptor. -/
theorem checkedDescriptor_unfit {s : State} {n : Fin 12} {cls role kind : Byte} {f : ChannelFields}
    (unfit : ¬ descriptorFits s n cls role kind f) : checkedDescriptor s n cls role kind f = none := by
  unfold checkedDescriptor
  cases hc : clsOf? cls with
  | none => rfl
  | some c =>
    cases hr : roleOf? role with
    | none => rfl
    | some r =>
      cases hk : kindFor c kind with
      | none => simp only [hk]
      | some k =>
        simp only [hk]
        exact if_neg fun accepted => unfit ((descriptorFits_iff hc hr hk).2 accepted)

theorem descriptorFits_kind {s : State} {n : Fin 12} {cls role kind : Byte} {f : ChannelFields} {c : ChClass}
    (hc : clsOf? cls = some c) (fits : descriptorFits s n cls role kind f) :
    kindFor c kind = some (if c = .motion ∧ kind = 0 then .rotary else .linear) := by
  obtain ⟨_, _, kindOk, _⟩ := fits
  refine kindFor_named fun m => kindOk ?_
  rw [(clsOf?_eq_some _ _).1 hc, m]; rfl

theorem storedDescriptor_eq (c : ChClass) (r : Role) (k : AxisKind) (f : ChannelFields) :
    storedDescriptor c r k f =
      if c = .unused then resetDescriptor
      else
        { cls := c, role := r, kind := if c = .lens then .linear else k
          posMin := f.posMin.toInt, posMax := f.posMax.toInt, velMax := f.velMax.toNat, accMax := f.accMax.toNat
          stopAcc := f.stopAcc.toNat, followLimit := f.followLimit.toNat, catchWindow := f.catchWindow.toNat
          cueTolerance := f.cueTolerance.toNat
          calibSpeed := if c = .lens then min f.calibSpeed.toNat f.velMax.toNat else 0 } := by
  cases c <;> rfl

@[simp] theorem storedDescriptor_cls (c : ChClass) (r : Role) (k : AxisKind) (f : ChannelFields) :
    (storedDescriptor c r k f).cls = c := by cases c <;> rfl

/-! ## The two rules -/

theorem setChannelBody_live {channel cls role kind : Byte} {f : ChannelFields} {s : State} (h : s.mode.mode = .live) :
    setChannelBody channel cls role kind f s = (s, plain .refusedMode) := if_pos h

theorem setChannelBody_unnamed {channel cls role kind : Byte} {f : ChannelFields} {s : State}
    (h : s.mode.mode ≠ .live) (hn : channelOf? channel = none) :
    setChannelBody channel cls role kind f s = (s, plain .badParam) := by
  simp only [setChannelBody, if_neg h, hn]; rfl

theorem setChannelBody_unfit {channel cls role kind : Byte} {f : ChannelFields} {s : State} {n : Fin 12}
    (h : s.mode.mode ≠ .live) (hn : channelOf? channel = some n) (hd : checkedDescriptor s n cls role kind f = none) :
    setChannelBody channel cls role kind f s = (s, plain .badParam) := by
  simp only [setChannelBody, if_neg h, hn, hd]; rfl

theorem setChannelBody_writes {channel cls role kind : Byte} {f : ChannelFields} {s : State} {n : Fin 12}
    {d : Descriptor} (h : s.mode.mode ≠ .live) (hn : channelOf? channel = some n)
    (hd : checkedDescriptor s n cls role kind f = some d) :
    setChannelBody channel cls role kind f s = (writeDescriptor n d s, plain .ok) := by
  simp only [setChannelBody, if_neg h, hn, hd]

theorem setSourceBody_refused {mask : Half} {source : Byte} {s : State}
    (h : s.mode.mode = .parked ∨ s.stop.safety = .dropped) :
    setSourceBody mask source s = (s, plain .refusedMode) := if_pos h

theorem setSourceBody_badParam {mask : Half} {source : Byte} {s : State}
    (h : ¬ (s.mode.mode = .parked ∨ s.stop.safety = .dropped)) (bad : 3 < source.toNat ∨ 4096 ≤ mask.toNat) :
    setSourceBody mask source s = (s, plain .badParam) := by
  unfold setSourceBody; rw [if_neg h]
  cases hs : sourceOf? source with
  | none => rfl
  | some x =>
    have code : source.toNat ≤ 3 := (sourceOf?_eq_some _ _).1 hs ▸ sourceCode_le x
    have wide : maskTooWide mask = true := decide_eq_true (by omega)
    simp only [wide, if_true]; rfl

theorem setSourceBody_stores {mask : Half} {source : Byte} {s : State} {src : Source}
    (h : ¬ (s.mode.mode = .parked ∨ s.stop.safety = .dropped)) (hs : sourceOf? source = some src)
    (narrow : mask.toNat < 4096) :
    setSourceBody mask source s =
      (s.mapChans fun n c => if inMask (maskOf mask) n && c.used then requestSource src c else c, plain .ok) := by
  have fits : maskTooWide mask = false := decide_eq_false (by omega)
  simp only [setSourceBody, if_neg h, hs, fits, Bool.false_eq_true, if_false]

end Sys2Proof.Machine

namespace Sys2Proof.Proofs
open Sys2Proof.Machine Sys2Proof.Claims

/-- Settles O9: by mode, then by the channel number and the nine checks as one condition. -/
theorem setChannelTaken : Obligations.SetChannelTaken := by
  intro tag channel cls role kind f s tagged
  refine ⟨fun arming => request_refusedInArming _ tagged arming rfl,
    fun live => request_replied tagged (.inl (by rw [live]; decide)) (setChannelBody_live live),
    fun parked unnamed => ?_, fun parked n named => ?_⟩
  all_goals
    have notLive : s.mode.mode ≠ .live := by rw [parked]; decide
    have runs : s.mode.mode ≠ .arming ∨ armingAccepts 0x10 = true := .inl (by rw [parked]; decide)
  · exact request_replied tagged runs (setChannelBody_unnamed notLive (channelOf?_none unnamed))
  · have chan := channelOf?_val named
    refine ⟨fun unfit => ?_, fun fits c r hc hr => ?_⟩
    · exact request_replied tagged runs (setChannelBody_unfit notLive chan (checkedDescriptor_unfit unfit))
    · have found := checkedDescriptor_named hc hr (descriptorFits_kind hc fits) fits
      refine (request_replied tagged runs (setChannelBody_writes notLive chan found)).trans (congrArg _ ?_)
      unfold writeDescriptor
      simp only [Channel.isLens_iff, storedDescriptor_cls]
      cases c <;> rfl

/-- Settles O10: by mode and safety state, then by the two parameters. -/
theorem setSourceTaken : Obligations.SetSourceTaken := by
  intro tag mask source s tagged
  refine ⟨fun arming => request_refusedInArming _ tagged arming rfl, fun shut => ?_, fun live up => ?_⟩
  · refine request_replied tagged (.inl ?_) (setSourceBody_refused (shut.imp_right And.right))
    rcases shut with h | ⟨h, _⟩ <;> rw [h] <;> decide
  have runs : s.mode.mode ≠ .arming ∨ armingAccepts 0x11 = true := .inl (by rw [live]; decide)
  have served : ¬ (s.mode.mode = .parked ∨ s.stop.safety = .dropped) := by simp [live, up]
  refine ⟨fun bad => request_replied tagged runs (setSourceBody_badParam served bad),
    fun narrow src named => ⟨_, request_replied tagged runs (setSourceBody_stores served named narrow), fun n => ?_⟩⟩
  refine (State.mapChans_at s
    (fun n c => if inMask (maskOf mask) n && c.used then requestSource src c else c) n).trans ?_
  have bit : inMask (maskOf mask) n = mask.getLsbD n.val := by
    rw [inMask, maskOf, BitVec.getLsbD_setWidth, decide_eq_true n.isLt, Bool.true_and]
  have current (c : Channel) : c.pendingSource.getD c.source =
      match c.pendingSource with
      | none => c.source
      | some p => p := by cases c.pendingSource <;> rfl
  simp only [bit, Bool.and_eq_true, Channel.used_iff, requestSource, current, ite_and, ne_eq,
    ite_not] <;> rfl

end Sys2Proof.Proofs
end

section
/-! PROOFS. What almost every operation leaves as it is, for the invariants: the axes of the MOTION channels, the
descriptors, the speed scale, the bounds of the link and the form of the take memory. -/

namespace Sys2Proof.Machine
open Sys2Proof.Claims

/-! ## Channels that keep everything but the take hold -/

/-- A channel entry that differs from another in its take hold alone. -/
def holdOnly (c d : Channel) : Prop := d = { c with takeHold := d.takeHold }

theorem holdOnly_refl (c : Channel) : holdOnly c c := rfl

theorem holdOnly_trans {a b c : Channel} (h : holdOnly a b) (g : holdOnly b c) : holdOnly a c := by
  unfold holdOnly at *; rw [g, h]

theorem holdOnly_heldTake (c : Channel) (l : LensChannel) : holdOnly c (heldTake c l) := by
  unfold heldTake; split <;> rfl

theorem stopBegins_holdOnly (s : State) (n : Fin 12) : holdOnly s.cond.chans[n] (stopBegins s).cond.chans[n] := by
  rw [stopBegins_at]; split
  · exact holdOnly_heldTake _ _
  · exact holdOnly_refl _

/-- A cause changes no channel but in its take hold (R15). -/
theorem takeCause_holdOnly (c : Cause) (s : State) (n : Fin 12) :
    holdOnly s.cond.chans[n] (takeCause c s).cond.chans[n] := by
  cases hm : s.mode.mode with
  | parked => rw [takeCause_parked c hm]; exact holdOnly_refl _
  | arming => rw [takeCause_arming c hm]; simp [causeNoted, holdOnly_refl]
  | live =>
    by_cases normal : s.stop.safety = .normal
    · rw [(Proofs.live_fromNormal c hm normal).1]; exact stopBegins_holdOnly s n
    · rw [(Proofs.live_elsewhere c hm normal).1]; exact holdOnly_refl _

theorem interruptedStore_wf (r : Recording) (st : TakeStore) (h : st.wf) : (interruptedStore r st).wf := by
  unfold interruptedStore; split
  · exact endEntry_wf _ _ h
  · exact h

theorem stopBegins_wf (s : State) (h : s.store.wf) : (stopBegins s).store.wf := by
  rw [stopBegins_store]; split <;> exact interruptedStore_wf _ _ h

theorem takeCause_wf (c : Cause) (s : State) (h : s.store.wf) : (takeCause c s).store.wf := by
  cases hm : s.mode.mode with
  | parked => rwa [takeCause_parked c hm]
  | arming => rw [takeCause_arming c hm]; simpa [causeNoted] using h
  | live =>
    by_cases normal : s.stop.safety = .normal
    · rw [(Proofs.live_fromNormal c hm normal).2.2]; exact stopBegins_wf s h
    · rwa [(Proofs.live_elsewhere c hm normal).2.2]

/-! ## Steady operations -/

/-- The bounds of the Link Unit that `shaped` states (R173, R176). -/
def linkBounded (l : Link) : Prop := l.inFlight.length ≤ 4 ∧ l.lossCount ≤ 255 ∧ l.totalLost ≤ 65535

/-- What an operation that concerns neither the axes nor the shape of the state leaves as it is: a parked crane stays
parked, the descriptors stand, a MOTION channel's output and velocity stand, and so do the speed scale and the length of
the staging buffer; the link stays in its bounds and the take memory in its form. -/
structure Steady (s t : State) : Prop where
  parked : s.mode.mode = .parked → t.mode.mode = .parked
  desc : ∀ n : Fin 12, (t.cond.chans[n]).desc = (s.cond.chans[n]).desc
  axis : ∀ n : Fin 12, (s.cond.chans[n]).desc.cls = .motion →
    (t.cond.chans[n]).outPos = (s.cond.chans[n]).outPos ∧ (t.cond.chans[n]).outVel = (s.cond.chans[n]).outVel
  scale : t.zone.scale = s.zone.scale
  staging : t.service.staging.length = s.service.staging.length
  link : linkBounded s.link → linkBounded t.link
  store : s.store.wf → t.store.wf

theorem Steady.refl (s : State) : Steady s s :=
  ⟨id, fun _ => rfl, fun _ _ => ⟨rfl, rfl⟩, rfl, rfl, id, id⟩

theorem Steady.trans {s t u : State} (h : Steady s t) (g : Steady t u) : Steady s u where
  parked := g.parked ∘ h.parked
  desc n := (g.desc n).trans (h.desc n)
  axis n m := by
    obtain ⟨p, v⟩ := h.axis n m
    obtain ⟨q, w⟩ := g.axis n (h.desc n ▸ m)
    exact ⟨q.trans p, w.trans v⟩
  scale := g.scale.trans h.scale
  staging := g.staging.trans h.staging
  link := g.link ∘ h.link
  store := g.store ∘ h.store

/-- An operation on other blocks. -/
theorem Steady.of_blocks {s t : State} (mode : t.mode.mode = s.mode.mode := by simp) (cond : t.cond = s.cond := by simp)
    (scale : t.zone.scale = s.zone.scale := by simp) (service : t.service.staging = s.service.staging := by simp)
    (link : t.link = s.link := by simp) (mem : t.store.mem = s.store.mem := by simp)
    (check : t.store.check = s.store.check := by simp) : Steady s t :=
  ⟨fun h => mode.trans h, fun _ => by rw [cond], fun _ _ => by rw [cond]; exact ⟨rfl, rfl⟩, scale, by rw [service],
    fun h => link ▸ h, fun h => by rw [TakeStore.wf, mem, check]; exact h⟩

/-- An operation that changes channels in other items. -/
theorem Steady.of_axes {s t : State} (axes : ∀ n : Fin 12, (t.cond.chans[n]).desc = (s.cond.chans[n]).desc ∧
      (t.cond.chans[n]).outPos = (s.cond.chans[n]).outPos ∧ (t.cond.chans[n]).outVel = (s.cond.chans[n]).outVel)
    (mode : s.mode.mode = .parked → t.mode.mode = .parked := by simp) (scale : t.zone.scale = s.zone.scale := by simp)
    (service : t.service.staging = s.service.staging := by simp)
    (link : linkBounded s.link → linkBounded t.link := by simp) (store : s.store.wf → t.store.wf := by simp) :
    Steady s t :=
  ⟨mode, fun n => (axes n).1, fun n _ => (axes n).2, scale, by rw [service], link, store⟩

theorem holdOnly_axes {c d : Channel} (h : holdOnly c d) : d.desc = c.desc ∧ d.outPos = c.outPos ∧ d.outVel = c.outVel := by
  rw [h]; exact ⟨rfl, rfl, rfl⟩

/-- An operation on the link. -/
theorem Steady.of_link {s : State} (x : Link) (h : linkBounded s.link → linkBounded x) : Steady s (s.setLink x) :=
  ⟨id, fun _ => rfl, fun _ _ => ⟨rfl, rfl⟩, rfl, rfl, h, id⟩

/-- An operation on the take store. -/
theorem Steady.of_store {s : State} (x : TakeStore) (h : s.store.wf → x.wf) : Steady s (s.setStore x) :=
  ⟨id, fun _ => rfl, fun _ _ => ⟨rfl, rfl⟩, rfl, rfl, id, h⟩

/-- What a steady operation, or a step made of several, does for the two invariants. -/
def Keeps (s t : State) : Prop := (motionInside s → motionInside t) ∧ (shaped s → shaped t)

theorem Keeps.refl (s : State) : Keeps s s := ⟨id, id⟩

theorem Keeps.trans {s t u : State} (h : Keeps s t) (g : Keeps t u) : Keeps s u := ⟨g.1 ∘ h.1, g.2 ∘ h.2⟩

theorem Steady.keeps {s t : State} (h : Steady s t) : Keeps s t := by
  constructor
  · rintro ⟨scale, inside⟩
    refine ⟨h.scale ▸ scale, fun used n motion => ?_⟩
    rw [h.desc n] at motion ⊢
    obtain ⟨p, v⟩ := h.axis n motion
    rw [p, v]
    exact inside (fun parked => used (h.parked parked)) n motion
  · rintro ⟨staging, roles, list, loss, total, mem, check⟩
    obtain ⟨list, loss, total⟩ := h.link ⟨list, loss, total⟩
    exact ⟨h.staging ▸ staging, fun m n => by rw [h.desc m, h.desc n]; exact roles m n, list, loss, total,
      h.store ⟨mem, check⟩⟩

/-! ## The stop controller and the arming -/

theorem takeCause_parkedMode (c : Cause) {s : State} (h : s.mode.mode = .parked) :
    (takeCause c s).mode.mode = .parked := by rw [takeCause_parked c h]; exact h

theorem takeCause_steady (c : Cause) (s : State) : Steady s (takeCause c s) :=
  .of_axes (fun n => holdOnly_axes (takeCause_holdOnly c s n)) (takeCause_parkedMode c) (store := takeCause_wf c s)

theorem takeCauses_steady (cs : List Cause) (s : State) : Steady s (takeCauses cs s) := by
  induction cs generalizing s with
  | nil => exact .refl s
  | cons c cs ih => exact (takeCause_steady c s).trans (ih _)

theorem abortArming_steady (r : CheckResult) (e : AbortEvent) (m : Checks → Checks) (d : Option CheckDetail) (s : State) :
    Steady s (abortArming r e m d s) :=
  .of_axes (fun _ => ⟨rfl, rfl, rfl⟩) (fun _ => rfl) (store := id)

theorem abortPlay_steady (r : AbortReason) (s : State) : Steady s (abortPlay r s) :=
  .of_axes (fun n => by rw [abortPlay_at]; exact holdOnly_axes (holdOnly_heldTake _ _)) (store := id)

theorem abortActive_steady (r : AbortReason) (s : State) : Steady s (abortActive r s) := by
  unfold abortActive; split
  · exact abortPlay_steady r s
  · exact .refl s

theorem endRecording_steady (s : State) : Steady s (endRecording s) :=
  .of_axes (fun _ => by simp) (store := fun h => endEntry_wf _ _ h)

theorem enterLiveChannel_axes (c : Channel) (l : LensChannel) :
    (enterLiveChannel c l).desc = c.desc ∧ (enterLiveChannel c l).outPos = c.outPos ∧
    (enterLiveChannel c l).outVel = c.outVel := by
  unfold enterLiveChannel; split <;> exact ⟨rfl, rfl, rfl⟩

theorem enterLive_at (s : State) (n : Fin 12) :
    (enterLive s).cond.chans[n] = enterLiveChannel s.cond.chans[n] s.lens[n] := State.mapChans_at _ _ n

/-- The self-check record as the decision leaves it (R196, R198). -/
def decidedRecord (s : State) : SelfCheck :=
  { s.mode.check with
    result := if (decidedChecks s).allPass then .passed else .failed
    checks := decidedChecks s
    detail := if (decidedChecks s).drives = .fail then notReady s else s.mode.check.detail
    advisory := s.pins.supplyWarn, endedAt := some s.link.part, periods := s.mode.count }

theorem decideArming_eq (s : State) :
    decideArming s =
      if (decidedChecks s).allPass = true then enterLive (s.setMode { s.mode with check := decidedRecord s })
      else leaveArming (s.setMode { s.mode with check := decidedRecord s }) := rfl

theorem decideArming_axes (s : State) (n : Fin 12) :
    ((decideArming s).cond.chans[n]).desc = (s.cond.chans[n]).desc ∧
    ((decideArming s).cond.chans[n]).outPos = (s.cond.chans[n]).outPos ∧
    ((decideArming s).cond.chans[n]).outVel = (s.cond.chans[n]).outVel := by
  rw [decideArming_eq]; split
  · rw [enterLive_at]; exact enterLiveChannel_axes _ _
  · exact ⟨rfl, rfl, rfl⟩

theorem settleDecision_steady (s : State) : Steady s (settleDecision s) := by
  unfold settleDecision; split
  · exact .of_axes (decideArming_axes s) (fun parked => by simp_all)
  · exact .refl s

end Sys2Proof.Machine
end

section
/-! PROOFS. One channel of an outbound frame conditioned (sections 1.4 to 1.10, R101, R103 to R105), step by step. -/

namespace Sys2Proof.Machine
open Sys2Proof.Claims

/-! ## Sources -/

theorem LensChannel.seeking_false_iff (l : LensChannel) :
    l.seeking = false ↔ l.cal ≠ .seekLow ∧ l.cal ≠ .seekHigh ∧ l.apply = none := by
  simp [LensChannel.seeking, LensChannel.calibrating, and_assoc]

theorem sourceDue_iff (x : CondContext) (c : Channel) (l : LensChannel) :
    sourceDue x c l = true ↔
      c.pendingNew = false ∧ l.cal ≠ .seekLow ∧ l.cal ≠ .seekHigh ∧ l.apply = none ∧
      (x.safety = .normal ∨ (c.desc.cls = .lens ∧ (x.safety = .stopping ∨ x.safety = .held))) := by
  simp only [sourceDue, Bool.and_eq_true, Bool.not_eq_true', LensChannel.seeking_false_iff, Bool.or_eq_true, beq_iff_eq,
    Channel.isLens_iff, and_assoc]

/-- What a source change leaves as it was (R17). -/
theorem changeSource_frame (src : Source) (c : Channel) (l : LensChannel) :
    (changeSource src c l).desc = c.desc ∧ (changeSource src c l).outPos = c.outPos ∧
    (changeSource src c l).outVel = c.outVel ∧ (changeSource src c l).source = src ∧
    (changeSource src c l).feedback = c.feedback := by
  cases src <;> exact ⟨rfl, rfl, rfl, rfl, rfl⟩

theorem mapDiffers_iff (recorded : Nat) (l : LensChannel) :
    mapDiffers recorded l = true ↔ ∀ m, l.active = some m → m.mapId ≠ recorded := by
  unfold mapDiffers; cases l.active <;> simp

/-- A source change that starts a map-mismatch fallback (R16, R143). -/
abbrev fallsBack (x : CondContext) (n : Fin 12) (src : Source) (c : Channel) (l : LensChannel) : Prop :=
  c.desc.cls = .lens ∧ (src = .take ∨ src = .takeTrim) ∧ inMask x.mask n = true ∧
    (x.play = .cueing ∨ x.play = .cued ∨ x.play = .running) ∧ mapDiffers x.mapIds[n] l = true

theorem applySource_none (x : CondContext) (n : Fin 12) {c : Channel} (l : LensChannel) (h : c.pendingSource = none) :
    applySource x n c l = (c, false) := by simp only [applySource, h]

theorem applySource_later (x : CondContext) (n : Fin 12) {c : Channel} {l : LensChannel} {src : Source}
    (h : c.pendingSource = some src) (later : ¬ sourceDue x c l = true) : applySource x n c l = (c, false) := by
  simp only [applySource, h, if_neg later]

theorem applySource_same (x : CondContext) (n : Fin 12) {c : Channel} {l : LensChannel} {src : Source}
    (h : c.pendingSource = some src) (due : sourceDue x c l = true) (same : src = c.source) :
    applySource x n c l = ({ c with pendingSource := none }, false) := by
  simp only [applySource, h, if_pos due, if_pos same]

theorem applySource_change (x : CondContext) (n : Fin 12) {c : Channel} {l : LensChannel} {src : Source}
    (h : c.pendingSource = some src) (due : sourceDue x c l = true) (other : src ≠ c.source) :
    applySource x n c l =
      if fallsBack x n src c l then (beginFallback (changeSource src c l), true) else (changeSource src c l, false) := by
  obtain ⟨desc, -, -, source, -⟩ := changeSource_frame src c l
  simp only [applySource, h, if_pos due, if_neg other, Channel.isLens_iff, Channel.onTake_iff, desc, source]

/-- Step 2 of R12, by its cases. -/
theorem applySource_cases (x : CondContext) (n : Fin 12) (c : Channel) (l : LensChannel) :
    (applySource x n c l = (c, false) ∧ ∀ src, c.pendingSource = some src → ¬ sourceDue x c l = true) ∨
    (∃ src, c.pendingSource = some src ∧ sourceDue x c l = true ∧ src = c.source ∧
      applySource x n c l = ({ c with pendingSource := none }, false)) ∨
    (∃ src, c.pendingSource = some src ∧ sourceDue x c l = true ∧ src ≠ c.source ∧ fallsBack x n src c l ∧
      applySource x n c l = (beginFallback (changeSource src c l), true)) ∨
    (∃ src, c.pendingSource = some src ∧ sourceDue x c l = true ∧ src ≠ c.source ∧ ¬ fallsBack x n src c l ∧
      applySource x n c l = (changeSource src c l, false)) := by
  cases h : c.pendingSource with
  | none => exact .inl ⟨applySource_none x n l h, nofun⟩
  | some src =>
    by_cases due : sourceDue x c l = true
    · by_cases same : src = c.source
      · exact .inr (.inl ⟨src, rfl, due, same, applySource_same x n h due same⟩)
      · by_cases falls : fallsBack x n src c l
        · exact .inr (.inr (.inl ⟨src, rfl, due, same, falls,
            (applySource_change x n h due same).trans (if_pos falls)⟩))
        · exact .inr (.inr (.inr ⟨src, rfl, due, same, falls,
            (applySource_change x n h due same).trans (if_neg falls)⟩))
    · exact .inl ⟨applySource_later x n h due, fun _ _ => due⟩

theorem applySource_frame (x : CondContext) (n : Fin 12) (c : Channel) (l : LensChannel) :
    (applySource x n c l).1.desc = c.desc ∧ (applySource x n c l).1.outPos = c.outPos ∧
    (applySource x n c l).1.outVel = c.outVel ∧ (applySource x n c l).1.feedback = c.feedback := by
  rcases applySource_cases x n c l with ⟨e, _⟩ | ⟨_, _, _, _, e⟩ | ⟨src, _, _, _, _, e⟩ | ⟨src, _, _, _, _, e⟩ <;> rw [e]
  · exact ⟨rfl, rfl, rfl, rfl⟩
  · exact ⟨rfl, rfl, rfl, rfl⟩
  all_goals
    obtain ⟨desc, pos, vel, -, feedback⟩ := changeSource_frame src c l
    exact ⟨desc, pos, vel, feedback⟩

/-- A channel once its flags are cleared, its due source applied and a Resume's catch has come: steps 1 and 2 of R12. -/
def prepared (x : CondContext) (n : Fin 12) (c : Channel) (l : LensChannel) : Channel :=
  resumeCatch x (applySource x n { c with flags := noFlags } l).1

theorem resumeCatch_frame (x : CondContext) (c : Channel) :
    (resumeCatch x c).desc = c.desc ∧ (resumeCatch x c).outPos = c.outPos ∧ (resumeCatch x c).outVel = c.outVel ∧
    (resumeCatch x c).feedback = c.feedback := by
  unfold resumeCatch; split <;> exact ⟨rfl, rfl, rfl, rfl⟩

theorem prepared_frame (x : CondContext) (n : Fin 12) (c : Channel) (l : LensChannel) :
    (prepared x n c l).desc = c.desc ∧ (prepared x n c l).outPos = c.outPos ∧ (prepared x n c l).outVel = c.outVel ∧
    (prepared x n c l).feedback = c.feedback := by
  obtain ⟨d, p, v, f⟩ := applySource_frame x n { c with flags := noFlags } l
  obtain ⟨d', p', v', f'⟩ := resumeCatch_frame x (applySource x n { c with flags := noFlags } l).1
  exact ⟨d'.trans d, p'.trans p, v'.trans v, f'.trans f⟩

/-- A source change with its effects written out (R15 to R17, R143). -/
theorem changeSource_effects (x : CondContext) (n : Fin 12) (src : Source) (c : Channel) (l : LensChannel) :
    (if fallsBack x n src c l then beginFallback (changeSource src c l) else changeSource src c l) =
      let e : Channel := { c with pendingSource := none, fallback := false, source := src }
      match src with
      | .live => { e with caughtState := .waiting }
      | .hold => { e with holdValue := c.outPos }
      | _ =>
        let e : Channel := { e with takeHold := if c.desc.cls = .lens then engOf l c.outPos else c.outPos }
        if c.desc.cls = .lens ∧ x.mask.getLsbD n.val = true ∧ (x.play = .cueing ∨ x.play = .cued ∨ x.play = .running) ∧
            mapDiffers x.mapIds[n] l = true then
          { e with fallback := true, caughtState := .waiting }
        else e := by
  cases src <;> simp [fallsBack, changeSource, holdFromOutput_eq, beginFallback, inMask]

/-- Step 2 of R12 with its effects written out. -/
theorem applySource_eq (x : CondContext) (n : Fin 12) (c : Channel) (l : LensChannel) :
    (applySource x n c l).1 =
      match c.pendingSource with
      | none => c
      | some src =>
        if ¬ sourceDue x c l = true then c
        else if src = c.source then { c with pendingSource := none }
        else if fallsBack x n src c l then beginFallback (changeSource src c l) else changeSource src c l := by
  rcases applySource_cases x n c l with ⟨e, later⟩ | ⟨src, h, due, same, e⟩ | ⟨src, h, due, other, falls, e⟩ |
      ⟨src, h, due, other, stays, e⟩ <;> rw [e]
  · cases h : c.pendingSource with
    | none => rfl
    | some src => simp [later src h]
  · simp [h, due, same]
  · simp only [h, due, other, not_true_eq_false, if_false, if_pos falls]
  · simp only [h, due, other, not_true_eq_false, if_false, if_neg stays]

/-- The preparation of a channel as the statements write it. -/
theorem sourced_eq (x : CondContext) (n : Fin 12) (c : Channel) (l : LensChannel) : sourced x n c l = prepared x n c l := by
  refine congrArg (resumeCatch x) ((applySource_eq x n { c with flags := noFlags } l).trans ?_).symm
  simp only [sourceDue_iff, changeSource_effects] <;> rfl

/-! ## Targets -/

theorem catches_iff (c : Channel) (v : Int) : catches c v = true ↔ caughtBy c v := by
  simp [catches, or_assoc]

theorem takeSupply_eq (c : Channel) (v : Option Int) : takeSupply c v = suppliedWith v c := by
  unfold takeSupply suppliedWith
  cases v <;> simp only [Channel.onTake_iff]

theorem motionTarget_eq (c : Channel) (console : Int) : motionTarget c console = motionAim c console := by
  unfold motionTarget motionAim
  cases c.source <;> simp only [catches_iff]

theorem lensTarget_eq (safety : Safety) (m : LensMap) (c : Channel) (console : Int) :
    lensTarget safety m c console = lensAim safety m c console := by
  have acting : c.acting = if c.fallback = true then Source.live else c.source := rfl
  unfold lensTarget lensAim
  rw [← acting]
  cases c.acting <;> simp only [catches_iff, mapTarget, countTarget]

theorem suppliedWith_frame (v : Option Int) (c : Channel) :
    (suppliedWith v c).desc = c.desc ∧ (suppliedWith v c).outPos = c.outPos ∧ (suppliedWith v c).outVel = c.outVel ∧
    (suppliedWith v c).source = c.source := by
  unfold suppliedWith; cases v with
  | none => exact ⟨rfl, rfl, rfl, rfl⟩
  | some v => dsimp only; split <;> exact ⟨rfl, rfl, rfl, rfl⟩

theorem motionAim_frame (c : Channel) (console : Int) :
    (motionAim c console).1.desc = c.desc ∧ (motionAim c console).1.outPos = c.outPos ∧
    (motionAim c console).1.outVel = c.outVel := by
  unfold motionAim; split
  · split <;> exact ⟨rfl, rfl, rfl⟩
  all_goals exact ⟨rfl, rfl, rfl⟩

theorem lensAim_frame (safety : Safety) (m : LensMap) (c : Channel) (console : Int) :
    (lensAim safety m c console).1.desc = c.desc ∧ (lensAim safety m c console).1.outPos = c.outPos := by
  unfold lensAim; dsimp only; split
  · split <;> exact ⟨rfl, rfl⟩
  all_goals exact ⟨rfl, rfl⟩

/-! ## Calibration -/

theorem seekStep_eq (lo hi : Int) (low : Bool) (limit : Int) (c : Channel) :
    seekStep lo hi low limit c = seekTo lo hi low limit c := by
  have wish : sgn (limit - c.outPos) * (min (limit - c.outPos).natAbs c.desc.calibSpeed : Nat) =
      if limit - c.outPos < 0 then
        -(if (limit - c.outPos).natAbs < c.desc.calibSpeed then ((limit - c.outPos).natAbs : Int) else c.desc.calibSpeed)
      else if (limit - c.outPos).natAbs < c.desc.calibSpeed then ((limit - c.outPos).natAbs : Int)
        else c.desc.calibSpeed := by
    rw [sgn_mul _ _ (by omega)]; split <;> split <;> omega
  have held (p : Int) : (if low = true then max limit p else min limit p) =
      if (low = true ∧ p < limit) ∨ (low = false ∧ limit < p) then limit else p := by
    cases low <;> simp <;> split <;> omega
  unfold seekStep seekTo
  simp only [wish, held, bne_eq_decide]
  rfl

theorem calibrating_seeking {l : LensChannel} (h : l.calibrating = true) : l.seeking = true := by
  simp [LensChannel.seeking, h]

theorem calibrate_found {lo hi : Int} {part : Word} {c : Channel} {l : LensChannel} {p : Int} (h : l.apply = some p) :
    calibrate lo hi part c l =
      let k : LensChannel := { l with apply := none, count := min (l.count + 1) 30001 }
      let e : Channel := { c with outPos := p, outVel := 0, eng := engOf l p }
      if l.calibrating = true then (e, { k with phaseFrom := some (l.phaseFrom.getD part) })
      else ({ e with caughtState := .waiting }, k) := by
  have same : LensChannel.calibrating { l with apply := none, count := calCount l } = l.calibrating := rfl
  unfold calibrate
  simp only [h, same]
  split <;> rfl

theorem calibrate_seeks {lo hi : Int} {part : Word} {c : Channel} {l : LensChannel} (h : l.apply = none)
    (short : l.count < 30000) :
    calibrate lo hi part c l =
      let e := seekTo lo hi (decide (l.cal = .seekLow)) (if l.cal = .seekLow then l.seekLow else l.seekHigh) c
      ({ e with eng := engOf l e.outPos }, { l with count := l.count + 1, phaseFrom := some (l.phaseFrom.getD part) }) := by
  have count : calCount l = l.count + 1 := by unfold calCount; omega
  have low : (l.cal == .seekLow) = decide (l.cal = .seekLow) := rfl
  unfold calibrate
  rw [h, count]
  simp only [if_neg (show ¬ 30000 < l.count + 1 by omega), seekStep_eq, low, decide_eq_true_eq]
  rfl

theorem calibrate_timesOut {lo hi : Int} {part : Word} {c : Channel} {l : LensChannel} (h : l.apply = none)
    (runs : l.calibrating = true) (long : 30000 ≤ l.count) :
    calibrate lo hi part c l =
      let p := clamp lo hi c.feedback
      ({ c with outPos := p, outVel := 0, caughtState := .waiting, eng := engOf l p },
        { l with
          cal := .failed, failure := some .timeLimit, foundMin := none, window := [], phaseFrom := none
          count := 30001 }) := by
  have count : calCount l = 30001 := by unfold calCount; omega
  unfold calibrate
  rw [h, count]
  simp only [if_pos (show 30000 < 30001 by omega), timeLimit, failCalibration, if_pos runs, count]
  rfl

theorem seekTo_inside {lo hi : Int} (low : Bool) (limit : Int) (c : Channel) (h : lo ≤ hi) :
    lo ≤ (seekTo lo hi low limit c).outPos ∧ (seekTo lo hi low limit c).outPos ≤ hi := clamp_bounds h _

/-! ## One channel of one frame -/

section
variable {x : CondContext} {part : Word} {n : Fin 12} {console : Int} {v : Option Int} {c : Channel} {l : LensChannel}

theorem conditionChannel_unused (h : c.desc.cls = .unused) :
    conditionChannel x part n console v c l =
      { chan := c, lens := l, hit := false, mapChanged := false, calibrated := false } :=
  if_neg (by rw [Channel.used_iff]; exact fun u => u h)

theorem conditionChannel_still (h : c.desc.cls ≠ .unused) (still : x.mode ≠ .live ∨ x.safety = .dropped) :
    conditionChannel x part n console v c l =
      { chan := { c with outVel := 0, flags := noFlags }, lens := l, hit := false, mapChanged := false
        calibrated := l.calibrating } := by
  unfold conditionChannel
  rw [if_pos ((Channel.used_iff c).2 h), if_neg (fun live => still.elim (· live.1) live.2)]
  rfl

theorem conditionChannel_live (h : c.desc.cls ≠ .unused) (live : x.mode = .live) (up : x.safety ≠ .dropped) :
    conditionChannel x part n console v c l = conditionLive x part n console v c l := by
  unfold conditionChannel; rw [if_pos ((Channel.used_iff c).2 h), if_pos ⟨live, up⟩]

theorem prepared_limits : effMin (prepared x n c l) l = effMin c l ∧ effMax (prepared x n c l) l = effMax c l := by
  obtain ⟨desc, -⟩ := prepared_frame x n c l
  unfold effMin effMax; rw [desc]; exact ⟨rfl, rfl⟩

theorem conditionLive_motion (h : c.desc.cls = .motion) :
    conditionLive x part n console v c l =
      let r := conditionMotion x n console v (prepared x n c l) l
      { chan := r.1, lens := l, hit := r.2, mapChanged := false, calibrated := false } := by
  obtain ⟨desc, -⟩ := prepared_frame x n c l
  have notLens : ¬ (prepared x n c l).isLens = true := by rw [Channel.isLens_iff, desc, h]; decide
  unfold conditionLive; exact if_neg notLens

theorem conditionLive_lens (h : c.desc.cls = .lens) :
    conditionLive x part n console v c l =
      if l.seeking = true then
        let r := calibrate (effMin c l) (effMax c l) part (prepared x n c l) l
        { chan := r.1, lens := r.2, hit := false, mapChanged := (applySource x n { c with flags := noFlags } l).2
          calibrated := true }
      else
        let r := conditionLens x.safety console v (prepared x n c l) l
        { chan := r.1, lens := l, hit := r.2, mapChanged := (applySource x n { c with flags := noFlags } l).2
          calibrated := false } := by
  obtain ⟨desc, -⟩ := prepared_frame x n c l
  obtain ⟨low, high⟩ := prepared_limits (x := x) (n := n) (c := c) (l := l)
  have lens : (prepared x n c l).isLens = true := by rw [Channel.isLens_iff, desc, h]
  rw [← low, ← high]
  unfold conditionLive; exact if_pos lens

theorem conditionMotion_normal (normal : x.safety = .normal) :
    conditionMotion x n console v c l =
      let a := motionAim (suppliedWith v c) console
      limiter (effMin c l) (effMax c l)
        (if (c.source = .take ∨ c.source = .takeTrim) ∧ x.mask.getLsbD n.val = true ∧ x.play = .cueing then
          min x.scale x.cueScale
        else x.scale) a.2 a.1 := by
  obtain ⟨-, -, -, source⟩ := suppliedWith_frame v c
  unfold conditionMotion
  rw [normal]
  simp only [takeSupply_eq, motionTarget_eq, motionScale, Channel.onTake_iff, source, inMask]

theorem conditionLens_noMap {safety : Safety} (h : l.active = none) :
    conditionLens safety console v c l = ({ c with outVel := 0, target := c.outPos }, false) := by
  simp only [conditionLens, h]

theorem conditionLens_map {safety : Safety} {m : LensMap} (h : l.active = some m) :
    conditionLens safety console v c l =
      let a := lensAim safety m (suppliedWith v c) console
      limiter (effMin c l) (effMax c l) 256 a.2 a.1 := by
  simp only [conditionLens, h, takeSupply_eq, lensTarget_eq]

/-- MAP_CHANGED is set exactly where a source change starts a fallback (R16). -/
theorem applySource_changed_iff :
    (applySource x n c l).2 = true ↔
      ∃ src, c.pendingSource = some src ∧ sourceDue x c l = true ∧ src ≠ c.source ∧ fallsBack x n src c l := by
  rcases applySource_cases x n c l with ⟨e, later⟩ | ⟨src, h, due, same, e⟩ | ⟨src, h, due, other, falls, e⟩ |
      ⟨src, h, due, other, stays, e⟩ <;> rw [e]
  · exact ⟨nofun, fun ⟨src, h, due, _⟩ => absurd due (later src h)⟩
  · exact ⟨nofun, fun ⟨s, hs, _, other, _⟩ => absurd (Option.some.inj (hs.symm.trans h) ▸ same) other⟩
  · exact ⟨fun _ => ⟨src, h, due, other, falls⟩, fun _ => rfl⟩
  · exact ⟨nofun, fun ⟨s, hs, _, _, falls⟩ => absurd (Option.some.inj (hs.symm.trans h) ▸ falls) stays⟩

theorem conditionChannel_mapChanged_iff :
    (conditionChannel x part n console v c l).mapChanged = true ↔
      x.mode = .live ∧ x.safety ≠ .dropped ∧ c.desc.cls = .lens ∧
        (applySource x n { c with flags := noFlags } l).2 = true := by
  by_cases unused : c.desc.cls = .unused
  · rw [conditionChannel_unused unused, unused]; simp
  by_cases live : x.mode = .live ∧ x.safety ≠ .dropped
  · rw [conditionChannel_live unused live.1 live.2]
    by_cases lens : c.desc.cls = .lens
    · rw [conditionLive_lens lens]
      simp only [live, lens, true_and, ne_eq, not_false_eq_true]
      split <;> rfl
    · have motion : c.desc.cls = .motion := by cases h : c.desc.cls <;> simp_all
      rw [conditionLive_motion motion]; simp [lens]
  · have still : x.mode ≠ .live ∨ x.safety = .dropped := by
      by_cases m : x.mode = .live
      · exact .inr (not_not.1 fun d => live ⟨m, d⟩)
      · exact .inl m
    rw [conditionChannel_still unused still]
    exact ⟨nofun, fun ⟨m, d, _⟩ => absurd ⟨m, d⟩ live⟩

/-- A channel under calibration stays within the limits (R101, R103 to R105). -/
theorem calibrate_inside {lo hi : Int} (seeking : l.seeking = true) (inside : lo ≤ hi)
    (found : ∀ p, l.apply = some p → lo ≤ p ∧ p ≤ hi) :
    lo ≤ (calibrate lo hi part c l).1.outPos ∧ (calibrate lo hi part c l).1.outPos ≤ hi := by
  rcases Option.eq_none_or_eq_some l.apply with none_ | ⟨p, some_⟩
  · by_cases short : l.count < 30000
    · rw [calibrate_seeks none_ short]; exact seekTo_inside _ _ c inside
    · have runs : l.calibrating = true := by simpa [LensChannel.seeking, none_] using seeking
      rw [calibrate_timesOut none_ runs (by omega)]; exact clamp_bounds inside c.feedback
  · have here := found p some_
    rw [calibrate_found some_]; dsimp only; split <;> exact here

/-- A LENS channel that no calibration holds stays within its limits (R21 to R25). -/
theorem conditionLens_inside {safety : Safety} (low : effMin c l ≤ c.outPos) (high : c.outPos ≤ effMax c l) :
    effMin c l ≤ (conditionLens safety console v c l).1.outPos ∧
    (conditionLens safety console v c l).1.outPos ≤ effMax c l := by
  rcases Option.eq_none_or_eq_some l.active with none_ | ⟨m, some_⟩
  · rw [conditionLens_noMap none_]; exact ⟨low, high⟩
  · obtain ⟨-, aimed⟩ := lensAim_frame safety m (suppliedWith v c) console
    obtain ⟨-, supplied, -⟩ := suppliedWith_frame v c
    have stands := aimed.trans supplied
    rw [conditionLens_map some_]
    obtain ⟨a, b, -⟩ := limiter_inside 256 (lensAim safety m (suppliedWith v c) console).2 (lo := effMin c l)
      (hi := effMax c l) (c := (lensAim safety m (suppliedWith v c) console).1) (stands ▸ low) (stands ▸ high)
    exact ⟨a, b⟩

/-- A MOTION channel stays within its limits, and its velocity within vel_max (R22 to R25). -/
theorem conditionMotion_inside (up : x.safety ≠ .dropped) (low : effMin c l ≤ c.outPos) (high : c.outPos ≤ effMax c l) :
    effMin c l ≤ (conditionMotion x n console v c l).1.outPos ∧
    (conditionMotion x n console v c l).1.outPos ≤ effMax c l ∧
    (x.scale ≤ 256 → c.outVel.natAbs ≤ c.desc.velMax →
      (conditionMotion x n console v c l).1.outVel.natAbs ≤ c.desc.velMax) := by
  cases safety : x.safety with
  | normal =>
    obtain ⟨desc, pos, vel⟩ := motionAim_frame (suppliedWith v c) console
    obtain ⟨desc', pos', vel', -⟩ := suppliedWith_frame v c
    rw [conditionMotion_normal safety]
    generalize scaled : (if (c.source = .take ∨ c.source = .takeTrim) ∧ x.mask.getLsbD n.val = true ∧ x.play = .cueing then
      min x.scale x.cueScale else x.scale) = scale
    have scale_le : scale ≤ x.scale := by rw [← scaled]; split <;> omega
    obtain ⟨a, b, -, slow⟩ := limiter_inside scale (motionAim (suppliedWith v c) console).2 (lo := effMin c l)
      (hi := effMax c l) (c := (motionAim (suppliedWith v c) console).1) (pos.trans pos' ▸ low) (pos.trans pos' ▸ high)
    refine ⟨a, b, fun hs hv => ?_⟩
    rw [vel.trans vel', desc.trans desc'] at slow
    exact slow (Nat.le_trans scale_le hs) hv
  | stopping =>
    obtain ⟨a, b, -, slow, -⟩ := ramp_inside low high
    unfold conditionMotion; rw [safety]
    exact ⟨a, b, fun _ hv => Nat.le_trans slow (Nat.le_trans (Nat.sub_le _ _) hv)⟩
  | held =>
    unfold conditionMotion; rw [safety]
    exact ⟨low, high, fun _ _ => Nat.zero_le _⟩
  | dropped => exact absurd safety up

/-- The output of a conditioned channel lies within its effective limits where it did, and where a found value that waits
does (R27, R101). -/
theorem conditionChannel_inside (used : c.desc.cls ≠ .unused) (low : effMin c l ≤ c.outPos) (high : c.outPos ≤ effMax c l)
    (found : ∀ p, l.apply = some p → effMin c l ≤ p ∧ p ≤ effMax c l) :
    effMin c l ≤ (conditionChannel x part n console v c l).chan.outPos ∧
    (conditionChannel x part n console v c l).chan.outPos ≤ effMax c l := by
  obtain ⟨desc, pos, -⟩ := prepared_frame x n c l
  obtain ⟨lo, hi⟩ := prepared_limits (x := x) (n := n) (c := c) (l := l)
  by_cases still : x.mode ≠ .live ∨ x.safety = .dropped
  · rw [conditionChannel_still used still]; exact ⟨low, high⟩
  obtain ⟨live, up⟩ := not_or.1 still
  rw [conditionChannel_live used (not_not.1 live) up]
  by_cases lens : c.desc.cls = .lens
  · rw [conditionLive_lens lens]
    split
    case isTrue seeking => exact calibrate_inside seeking (Int.le_trans low high) found
    case isFalse =>
      have inside := conditionLens_inside (safety := x.safety) (console := console) (v := v)
        (c := prepared x n c l) (l := l) (lo.symm ▸ pos.symm ▸ low) (hi.symm ▸ pos.symm ▸ high)
      rwa [lo, hi] at inside
  · have motion : c.desc.cls = .motion := by cases h : c.desc.cls <;> simp_all
    rw [conditionLive_motion motion]
    obtain ⟨a, b, -⟩ := conditionMotion_inside (x := x) (n := n) (console := console) (v := v)
        (c := prepared x n c l) (l := l) up (lo.symm ▸ pos.symm ▸ low) (hi.symm ▸ pos.symm ▸ high)
    rw [lo] at a; rw [hi] at b
    exact ⟨a, b⟩

theorem conditionMotion_desc : (conditionMotion x n console v c l).1.desc = c.desc := by
  cases safety : x.safety with
  | normal =>
    obtain ⟨desc, -⟩ := motionAim_frame (suppliedWith v c) console
    obtain ⟨desc', -⟩ := suppliedWith_frame v c
    rw [conditionMotion_normal safety]; exact desc.trans desc'
  | stopping | held | dropped => simp [conditionMotion, safety]

theorem conditionLens_desc {safety : Safety} : (conditionLens safety console v c l).1.desc = c.desc := by
  rcases Option.eq_none_or_eq_some l.active with none_ | ⟨m, some_⟩
  · rw [conditionLens_noMap none_]
  · obtain ⟨desc, -⟩ := lensAim_frame safety m (suppliedWith v c) console
    obtain ⟨desc', -⟩ := suppliedWith_frame v c
    rw [conditionLens_map some_]; exact desc.trans desc'

theorem calibrate_desc {lo hi : Int} : (calibrate lo hi part c l).1.desc = c.desc := by
  unfold calibrate; dsimp only
  split <;> split <;> rfl

/-- Conditioning leaves every descriptor as it is. -/
theorem conditionChannel_desc : (conditionChannel x part n console v c l).chan.desc = c.desc := by
  obtain ⟨desc, -⟩ := prepared_frame x n c l
  by_cases unused : c.desc.cls = .unused
  · rw [conditionChannel_unused unused]
  by_cases still : x.mode ≠ .live ∨ x.safety = .dropped
  · rw [conditionChannel_still unused still]
  obtain ⟨live, up⟩ := not_or.1 still
  rw [conditionChannel_live unused (not_not.1 live) up]
  by_cases lens : c.desc.cls = .lens
  · rw [conditionLive_lens lens]; split
    · exact calibrate_desc.trans desc
    · exact conditionLens_desc.trans desc
  · have motion : c.desc.cls = .motion := by cases h : c.desc.cls <;> simp_all
    rw [conditionLive_motion motion]; exact conditionMotion_desc.trans desc

/-- A MOTION channel stays within its soft stops, and its velocity within vel_max (R22 to R25). -/
theorem conditionChannel_motion (motion : c.desc.cls = .motion) (scale : x.scale ≤ 256) (low : effMin c l ≤ c.outPos)
    (high : c.outPos ≤ effMax c l) (slow : c.outVel.natAbs ≤ c.desc.velMax) :
    effMin c l ≤ (conditionChannel x part n console v c l).chan.outPos ∧
    (conditionChannel x part n console v c l).chan.outPos ≤ effMax c l ∧
    (conditionChannel x part n console v c l).chan.outVel.natAbs ≤ c.desc.velMax := by
  have used : c.desc.cls ≠ .unused := by rw [motion]; decide
  obtain ⟨desc, pos, vel, -⟩ := prepared_frame x n c l
  obtain ⟨lo, hi⟩ := prepared_limits (x := x) (n := n) (c := c) (l := l)
  by_cases still : x.mode ≠ .live ∨ x.safety = .dropped
  · rw [conditionChannel_still used still]; exact ⟨low, high, Nat.zero_le _⟩
  obtain ⟨live, up⟩ := not_or.1 still
  rw [conditionChannel_live used (not_not.1 live) up, conditionLive_motion motion]
  obtain ⟨a, b, kept⟩ := conditionMotion_inside (x := x) (n := n) (console := console) (v := v)
    (c := prepared x n c l) (l := l) up (lo.symm ▸ pos.symm ▸ low) (hi.symm ▸ pos.symm ▸ high)
  rw [vel, desc] at kept; rw [lo] at a; rw [hi] at b
  exact ⟨a, b, kept scale slow⟩

end

end Sys2Proof.Machine
end

section
/-! PROOFS. What the operations of every block keep of the axes and of the shape of the state. -/

namespace Sys2Proof.Machine
open Sys2Proof.Claims

/-! ## The take engine and the capture unit -/

theorem testCapture_steady (k : CaptureKind) (p : PlayState) (m : Condition → Option MetValue) (w u : Word) (s : State) :
    Steady s (testCapture k p m w u s) := .of_blocks

theorem placeFrame_steady (s : State) : Steady s (placeFrame s).1 :=
  .of_blocks (mem := by unfold placeFrame placeNext handSlip; dsimp only; (repeat' split) <;> rfl)
    (check := by unfold placeFrame placeNext handSlip; dsimp only; (repeat' split) <;> rfl)

theorem placeAhead_steady (s : State) : Steady s (placeAhead s) :=
  .of_blocks (mem := by unfold placeAhead placeNext handSlip; dsimp only; (repeat' split) <;> rfl)
    (check := by unfold placeAhead placeNext handSlip; dsimp only; (repeat' split) <;> rfl)

theorem frameStarts_steady (w : Word) (s : State) : Steady s (frameStarts w s) := .of_blocks

theorem placeOutbound_steady (r : State → State) (w : Word) (s : State) : Steady s (placeOutbound r w s).1 := by
  unfold placeOutbound; dsimp only; split
  · exact placeFrame_steady s
  · exact (placeFrame_steady s).trans ((frameStarts_steady w _).trans (testCapture_steady _ _ _ _ _ _))

theorem startRead_steady (s : State) : Steady s (startRead s) :=
  .of_blocks (mem := by unfold startRead; dsimp only; split <;> rfl)
    (check := by unfold startRead; dsimp only; split <;> rfl)

theorem playFrame_steady (s : State) : Steady s (playFrame s) := by
  unfold playFrame; dsimp only
  have begun := (Steady.of_blocks (s := s)
    (t := s.setTake { s.take with play := useRecord (advancePlay s.take.play) })).trans (startRead_steady _)
  split
  · exact begun.trans (takeCause_steady _ _)
  · exact begun

theorem supply_steady (s : State) : Steady s (supply s).1 := by
  unfold supply; dsimp only; split
  · exact playFrame_steady s
  · split <;> exact .of_blocks
  · split <;> exact .of_blocks
  · exact .refl s

theorem takePart_steady (s : State) : Steady s (takePart s) :=
  .of_axes (fun n => by unfold takePart; rw [State.mapChans_at]; dsimp only; split <;> exact ⟨rfl, rfl, rfl⟩)
    (fun h => by unfold takePart; simp [h]) (service := by unfold takePart; dsimp only; split <;> rfl)
    (link := fun h => by unfold takePart; dsimp only; split <;> exact h)

/-! ## The link -/

theorem linkBounded_putPort {l : Link} (p : PortId) (x : Port) (h : linkBounded l) : linkBounded (l.putPort p x) := by
  cases p <;> exact h

theorem setRx_steady (p : PortId) (r : Receiver) (s : State) : Steady s (setRx p r s) :=
  .of_link _ (linkBounded_putPort _ _)

theorem portError_steady (p : PortId) (k : ErrKind) (s : State) : Steady s (portError p k s) := by
  unfold portError; dsimp only
  split
  · split
    · exact (Steady.of_link _ (linkBounded_putPort _ _)).trans (takeCause_steady _ _)
    · exact .of_link _ (linkBounded_putPort _ _)
  · exact .refl s

theorem sendConstructed_steady (e : InFlight) (s : State) : Steady s (sendConstructed e s) := .of_link _ id

theorem forwardReturn_steady (e : InFlight) (f : Frame) (s : State) : Steady s (forwardReturn e f s) := .of_link _ id

theorem mapAllLens_steady (f : Fin 12 → LensChannel → LensChannel) (s : State) : Steady s (s.mapAllLens f) := .of_blocks

/-- The losses in a row counted (R176). -/
def lossCounted (l : Link) : Link :=
  { l with lossCount := satSucc 255 l.lossCount, feedbackLost := l.feedbackLost || decide (l.lossCount + 1 = 3) }

/-- A loss noted for the arming and in the total (R176, R196). -/
def lossNoted (l : Link) : Link := { l with totalLost := satSucc 65535 l.totalLost, armingLoss := true }

/-- A loss counted, with FEEDBACK_LOST at the third (R176). -/
def lossTaken (s : State) : State :=
  if s.link.lossCount + 1 = 3 then takeCause (plainCause .feedbackLost) (s.setLink (lossCounted s.link))
  else s.setLink (lossCounted s.link)

theorem afterLoss_eq (e : InFlight) (s : State) :
    afterLoss e s = sendConstructed e
      (((lossTaken s).setLink (lossNoted (lossTaken s).link)).mapAllLens fun _ l => emptyWindow l) := by
  unfold afterLoss lossTaken; dsimp only; split <;> rfl

theorem lossTaken_steady (s : State) : Steady s (lossTaken s) := by
  have counted : Steady s (s.setLink (lossCounted s.link)) :=
    .of_link (lossCounted s.link) fun h => ⟨h.1, satSucc_le.1, h.2.2⟩
  unfold lossTaken; split
  · exact counted.trans (takeCause_steady _ _)
  · exact counted

theorem afterLoss_steady (e : InFlight) (s : State) : Steady s (afterLoss e s) := by
  have noted (s : State) : Steady s (s.setLink (lossNoted s.link)) :=
    .of_link (lossNoted s.link) fun h => ⟨h.1, h.2.1, satSucc_le.1⟩
  rw [afterLoss_eq]
  exact (lossTaken_steady s).trans ((noted _).trans ((mapAllLens_steady _ _).trans (sendConstructed_steady _ _)))

theorem loseOldest_steady (s : State) : Steady s (loseOldest s) := by
  unfold loseOldest; split
  case h_1 => exact .refl s
  case h_2 e rest list =>
    have removed : Steady s (s.setLink { s.link with inFlight := rest }) :=
      .of_link { s.link with inFlight := rest } fun h => ⟨by
        have := h.1; rw [list, List.length_cons] at this; exact Nat.le_of_succ_le this, h.2⟩
    exact removed.trans (afterLoss_steady _ _)

theorem loseEntries_steady (n : Nat) (s : State) : Steady s (loseEntries n s) := by
  induction n generalizing s with
  | zero => exact .refl s
  | succ n ih => exact (loseOldest_steady s).trans (ih _)

theorem expireEntries_steady (s : State) : Steady s (expireEntries s) := loseEntries_steady _ _

theorem afterLoss_inFlight (e : InFlight) (s : State) : (afterLoss e s).link.inFlight = s.link.inFlight := by
  rw [afterLoss_eq]; unfold lossTaken; split <;> simp [sendConstructed, sendC, lossNoted, lossCounted]

theorem loseOldest_inFlight (s : State) : (loseOldest s).link.inFlight = s.link.inFlight.tail := by
  unfold loseOldest; split
  case h_1 list => rw [list]; rfl
  case h_2 e rest list => rw [afterLoss_inFlight, list]; rfl

theorem sendNext_steady (s : State) : Steady s (sendNext s) := by
  unfold sendNext; split
  case h_1 => exact .refl s
  case h_2 o rest _ =>
    dsimp only
    set sent := s.setLink { s.link with readyD := rest, sentD := s.link.sentD ++ [o.frame] } with hsent
    have steady : Steady s sent := .of_link _ id
    split
    case isTrue full =>
      have lost := steady.trans (loseOldest_steady sent)
      refine ⟨lost.parked, lost.desc, lost.axis, lost.scale, lost.staging, fun h => ?_, lost.store⟩
      refine ⟨?_, (lost.link h).2⟩
      have := h.1
      simp [loseOldest_inFlight, hsent]; omega
    case isFalse room =>
      refine ⟨steady.parked, steady.desc, steady.axis, steady.scale, steady.staging, fun h => ?_, steady.store⟩
      refine ⟨?_, (steady.link h).2⟩
      simp at room ⊢; omega

/-! ## The stop controller -/

theorem takeFlags_steady (b : Byte) (s : State) : Steady s (takeFlags b s) := by
  have stopReq (s : State) : Steady s (stopReqArrives b s) := by
    unfold stopReqArrives; split
    · exact takeCause_steady _ _
    · exact .refl s
  have grip (s : State) : Steady s (gripArrives b s) := by
    unfold gripArrives; split
    · exact takeCause_steady _ _
    · exact .refl s
  have auto (s : State) : Steady s (autoResume b s) := by
    unfold autoResume; split
    · exact .of_axes (fun _ => ⟨rfl, rfl, rfl⟩) id (store := id)
    · exact .refl s
  unfold takeFlags
  exact (stopReq s).trans ((grip _).trans (Steady.trans .of_blocks (auto _)))

theorem stopTick_steady (s : State) : Steady s (stopTick s) := by
  unfold stopTick; dsimp only; split
  · exact .of_blocks
  · split
    · exact (Steady.of_blocks).trans (takeCause_steady _ _)
    · exact .of_blocks

/-! ## The hand-on of a frame -/

theorem setTake_steady (s : State) (x : TakeEngine) : Steady s (s.setTake x) := .of_blocks

theorem mapEntry_steady (i : Fin 32) (f : DirEntry → DirEntry) (s : State) :
    Steady s (s.setStore (s.store.mapEntry i f)) := .of_store (s.store.mapEntry i f) id

theorem appendFrame_steady (cut : Bool) (pl : Placement) (w : Word) (s : State) : Steady s (appendFrame cut pl w s) := by
  have appended (s : State) (st : TakeStore) (h : s.store.wf → st.wf) : Steady s (s.setStore st) := .of_store st h
  unfold appendFrame; dsimp only
  (repeat' split)
  · exact .refl s
  · exact (appended s _ (appendRecord_wf _ _ _ _)).trans ((setTake_steady _ _).trans (endRecording_steady _))
  · exact (appended s _ (appendRecord_wf _ _ _ _)).trans (setTake_steady _ _)
  · exact (appended s _ (appendRecord_wf _ _ _ _)).trans (((mapEntry_steady _ _ _)).trans (endRecording_steady _))
  · exact .refl s

theorem outputTests_steady (i : Option Nat) (w : Word) (s : State) : Steady s (outputTests i w s) := .of_blocks

theorem playHandOn_steady (s : State) : Steady s (playHandOn s) := by
  unfold playHandOn; dsimp only; split
  · split
    · exact .of_blocks
    · exact .refl s
  · split
    · exact .of_blocks (mem := rfl) (check := rfl)
    · exact .refl s
  · exact .refl s

theorem swapMaps_steady (s : State) : Steady s (swapMaps s) := mapAllLens_steady _ _

theorem handOn_steady (pl : Placement) (w : Word) (b : Bool) (r : Vector Conditioned 12) (s : State) :
    Steady s (handOn pl w b r s) := by
  unfold handOn; dsimp only
  have handed (i : Option Nat) :
      Steady s (takeCauses (limitHits r) (swapMaps (playHandOn (outputTests i w (appendFrame (cutByLimit r s) pl w s))))) :=
    (appendFrame_steady (cutByLimit r s) pl w s).trans ((outputTests_steady i w _).trans
      ((playHandOn_steady _).trans ((swapMaps_steady _).trans (takeCauses_steady (limitHits r) _))))
  split
  · exact (handed _).trans (stopTick_steady _)
  · exact handed _

end Sys2Proof.Machine
end

section
/-! PROOFS. The outbound work and the returns keep every MOTION channel inside its limits and the state in its shape. -/

namespace Sys2Proof.Machine
open Sys2Proof.Claims

/-- An operation that moves axes and leaves the shape of the state. -/
theorem Keeps.of_shape {s t : State} (inside : motionInside s → motionInside t)
    (desc : ∀ n : Fin 12, (t.cond.chans[n]).desc = (s.cond.chans[n]).desc)
    (staging : t.service.staging.length = s.service.staging.length := by simp)
    (link : t.link = s.link := by simp) (store : t.store = s.store := by simp) : Keeps s t :=
  ⟨inside, fun ⟨l, roles, rest⟩ => ⟨staging.trans l, fun m n => by rw [desc m, desc n]; exact roles m n, by
    unfold ListBounded; rw [link, store]; exact rest⟩⟩

/-! ## The outbound work -/

theorem effMin_motion {c : Channel} (l : LensChannel) (h : c.desc.cls = .motion) : effMin c l = c.desc.posMin := by
  unfold effMin; rw [h]

theorem effMax_motion {c : Channel} (l : LensChannel) (h : c.desc.cls = .motion) : effMax c l = c.desc.posMax := by
  unfold effMax; rw [h]

theorem conditionAll_at (values : Option (List Int)) (s : State) (n : Fin 12) :
    (conditionAll values s)[n] =
      conditionChannel (condContext s) s.link.part n (consoleValue s n) (valueFor s.take.play.mask values n)
        s.cond.chans[n] s.lens[n] := Vector.getElem_ofFn _

theorem storeConditioned_at (r : Vector Conditioned 12) (s : State) (n : Fin 12) :
    (storeConditioned r s).cond.chans[n] = (r[n]).chan ∧ (storeConditioned r s).lens[n] = (r[n]).lens := by
  have stored : (storeConditioned r s).cond.chans = r.map Conditioned.chan ∧
      (storeConditioned r s).lens = r.map Conditioned.lens := by
    unfold storeConditioned; dsimp only; split <;> exact ⟨rfl, rfl⟩
  rw [stored.1, stored.2]
  exact ⟨Vector.getElem_map _ _, Vector.getElem_map _ _⟩

/-- The conditioning of a frame (R22 to R27). -/
theorem storeConditioned_keeps (values : Option (List Int)) (s : State) :
    Keeps s (storeConditioned (conditionAll values s) s) := by
  have desc (n : Fin 12) : ((storeConditioned (conditionAll values s) s).cond.chans[n]).desc = (s.cond.chans[n]).desc := by
    rw [(storeConditioned_at _ s n).1, conditionAll_at]; exact conditionChannel_desc
  refine .of_shape ?_ desc
  rintro ⟨scale, inside⟩
  refine ⟨by simpa using scale, fun used n motion => ?_⟩
  rw [desc n] at motion ⊢
  obtain ⟨low, high, slow⟩ := inside (by simpa using used) n motion
  rw [(storeConditioned_at _ s n).1, conditionAll_at]
  rw [← effMin_motion s.lens[n] motion] at low ⊢
  rw [← effMax_motion s.lens[n] motion] at high ⊢
  exact conditionChannel_motion motion scale low high slow

theorem queueD_steady (f : OutFrame) (s : State) : Steady s (queueD f s) :=
  .of_link { s.link with readyD := s.link.readyD ++ [f] } id

theorem finishOutbound_keeps (o : Outbound) (pl : Placement) (s : State) : Keeps s (finishOutbound o pl s) := by
  unfold finishOutbound; dsimp only
  exact (supply_steady s).keeps.trans ((storeConditioned_keeps _ _).trans
    ((handOn_steady _ _ _ _ _).keeps.trans (queueD_steady _ _).keeps))

theorem originateSubst_keeps (s : State) : Keeps s (originateSubst s) := by
  unfold originateSubst; dsimp only
  have noted : Steady s (s.setLink { s.link with lastSubst := s.timer }) := .of_link { s.link with lastSubst := s.timer } id
  exact ((noted.trans (takePart_steady _)).trans (placeOutbound_steady _ _ _)).keeps.trans (finishOutbound_keeps _ _ _)

theorem goSilent_keeps (s : State) : Keeps s (goSilent s) := by
  unfold goSilent; dsimp only
  have absent : Steady s (s.setLink { s.link with consoleAbsent := true }) :=
    .of_link { s.link with consoleAbsent := true } id
  exact (absent.trans (takeCause_steady _ _)).keeps.trans (originateSubst_keeps _)

/-! ## Returns -/

theorem deliverFeedback_keeps (f : Frame) (s : State) : Keeps s (deliverFeedback f s) := by
  have stored (n : Fin 12) :
      (deliverFeedback f s).cond.chans[n] = storeFeedback s.mode.mode f.slots[n] s.cond.chans[n] :=
    State.mapChans_at s _ n
  have desc (m : CraneMode) (x : Slot) (c : Channel) : (storeFeedback m x c).desc = c.desc := by
    unfold storeFeedback; dsimp only; split <;> rfl
  refine .of_shape ?_ fun n => by rw [stored n]; exact desc _ _ _
  rintro ⟨scale, inside⟩
  refine ⟨by simpa using scale, fun used n motion => ?_⟩
  have away : s.mode.mode ≠ .parked := by simpa using used
  rw [stored n, storeFeedback, if_neg fun h => away h.1] at motion ⊢
  exact inside away n motion

theorem scaleOf_le (available : Bool) (zs : List (Nat × ZoneRec)) (fs : List Finding) : scaleOf available zs fs ≤ 256 := by
  have least (fs : List Finding) (a : Nat) (h : a ≤ 256) : fs.foldl (fun s f => min s f.share) a ≤ 256 := by
    induction fs generalizing a with
    | nil => exact h
    | cons f fs ih => exact ih _ (Nat.le_trans (Nat.min_le_left _ _) h)
  unfold scaleOf; split
  · exact least fs 256 (Nat.le_refl _)
  · split <;> omega

theorem setZone_keeps (z : ZoneMonitor) (s : State) (h : s.zone.scale ≤ 256 → z.scale ≤ 256) : Keeps s (s.setZone z) :=
  .of_shape (fun ⟨scale, inside⟩ => ⟨h scale, inside⟩) fun _ => rfl

theorem passEnd_steady (part : Word) (s : State) : Steady s (s.setZone (verifyStep part s.zone)) :=
  .of_blocks (scale := by unfold verifyStep; rw [State.setZone_zone]; split <;> rfl)

theorem afterPass_steady (r : Option PassResult) (s : State) : Steady s (afterPass r s) := by
  unfold afterPass; split
  · exact .of_blocks
  · exact takeCause_steady _ _
  · exact .refl s

theorem evaluateZones_keeps (part : Word) (s : State) : Keeps s (evaluateZones part s) := by
  unfold evaluateZones; dsimp only
  exact (setZone_keeps _ s fun _ => scaleOf_le _ _ _).trans ((testCapture_steady _ _ _ _ _ _).trans
    ((takeCauses_steady _ _).trans ((passEnd_steady part _).trans (afterPass_steady _ _)))).keeps

theorem testCrossing_steady (k : CaptureKind) (p : PlayState) (f : Fin 12 → Int) (w u : Word) (s : State) :
    Steady s (testCrossing k p f w u s) := .of_blocks

theorem matchedReturn_keeps (e : InFlight) (f : Frame) (s : State) : Keeps s (matchedReturn e f s) := by
  have ended : Steady s (endLosses s) :=
    .of_link { s.link with lossCount := 0, feedbackLost := false } fun h => ⟨h.1, Nat.zero_le _, h.2.2⟩
  have head (s : State) (g : Geometry) : Steady s (s.setGeo g) := .of_blocks
  unfold matchedReturn; dsimp only
  exact ((ended.trans (takeCauses_steady _ _)).trans (head _ _)).keeps.trans ((evaluateZones_keeps _ _).trans
    ((mapAllLens_steady _ _).trans ((testCrossing_steady _ _ _ _ _ _).trans (forwardReturn_steady _ _ _))).keeps)

theorem goodReturn_keeps (f : Frame) (s : State) : Keeps s (goodReturn f s) := by
  unfold goodReturn; split
  case h_1 => exact (portError_steady _ _ _).keeps
  case h_2 k _ =>
    dsimp only
    have passed := (deliverFeedback_keeps f s).trans (loseEntries_steady k _).keeps
    split
    case h_1 => exact passed
    case h_2 e rest list =>
      refine passed.trans (Keeps.trans (Steady.of_link { (loseEntries k (deliverFeedback f s)).link with
        inFlight := rest } fun h => ⟨?_, h.2⟩).keeps ?_)
      · have := h.1; rw [list, List.length_cons] at this; exact Nat.le_of_succ_le this
      · refine Keeps.trans ?_ (matchedReturn_keeps e f _)
        split
        · exact .refl _
        · exact (portError_steady _ _ _).keeps

theorem takeIn_steady (p : PortId) (k : FrameClass) (clean : Bool) (s : State) : Steady s (takeIn p k clean s) := by
  unfold takeIn; dsimp only
  refine Steady.trans ?_ (setRx_steady _ _ _)
  cases k with
  | bad =>
    dsimp only; split
    · exact portError_steady _ _ _
    · exact .refl s
  | wrongKind => exact portError_steady _ _ _
  | good => exact .refl s

theorem returnFrame_keeps (clean : Bool) (bytes : List Byte) (s : State) : Keeps s (returnFrame clean bytes s) := by
  unfold returnFrame; dsimp only; split
  · exact (takeIn_steady _ _ _ _).keeps.trans (goodReturn_keeps _ _)
  · exact (takeIn_steady _ _ _ _).keeps

end Sys2Proof.Machine
end

section
/-! PROOFS. The Mode Controller (chapter 11): ARM and its channel check, the arming decision, PARK and SOFT_RESET. -/

namespace Sys2Proof.Machine
open Sys2Proof.Claims

/-! ## The channel check -/

/-- The lowest index that passes a test. -/
theorem find?_finRange_eq_some {k : Nat} {p : Fin k → Bool} {n : Fin k} :
    (List.finRange k).find? p = some n ↔ p n = true ∧ ∀ m, m < n → p m = false := by
  rw [List.find?_eq_some_iff_getElem]
  refine and_congr_right fun _ => ⟨?_, fun h => ⟨n.val, by simp, by simp, fun j hj => ?_⟩⟩
  · rintro ⟨i, hi, at_i, before⟩ m hm
    simp only [List.getElem_finRange] at at_i before
    have := before m.val (by rw [← at_i] at hm; exact hm)
    simpa using this
  · simp only [List.getElem_finRange, Fin.cast_mk]
    rw [h ⟨j, by omega⟩ (by exact hj)]; rfl

theorem failsItem_iff (s : State) (item : Nat) (n : Fin 12) :
    failsItem s item n = true ↔ (s.cond.chans[n]).desc.cls ≠ .unused ∧
      ((item = 2 ∧
          (¬ roleFits (clsCode (s.cond.chans[n]).desc.cls) (roleCode (s.cond.chans[n]).desc.role)
              (axisKindCode (s.cond.chans[n]).desc.kind) ∨
            ((s.cond.chans[n]).desc.role ≠ .aux ∧ (s.cond.chans[n]).desc.role ≠ .lensAux ∧
              ∃ m : Fin 12, m ≠ n ∧ (s.cond.chans[m]).desc.role = (s.cond.chans[n]).desc.role))) ∨
        (item = 3 ∧ ((s.cond.chans[n]).feedback < effMin s.cond.chans[n] s.lens[n] ∨
          effMax s.cond.chans[n] s.lens[n] < (s.cond.chans[n]).feedback)) ∨
        (item = 4 ∧ (s.cond.chans[n]).desc.cls = .lens ∧ (s.lens[n]).active = none)) := by
  unfold failsItem
  dsimp only [State.chan, State.lensOf]
  rw [Bool.and_eq_true, Channel.used_iff]
  refine and_congr_right fun used => ?_
  split
  case h_1 =>
    simp only [Bool.or_eq_true, Bool.not_eq_true', Bool.and_eq_true, single_iff, heldElsewhere_iff, ← Bool.not_eq_true,
      roleAgrees_iff]
    simp only [true_and, Nat.reduceEqDiff, false_and, or_false]
    refine or_congr_right' fun fits => ?_
    have named : (s.cond.chans[n]).desc.role ≠ .none := by
      intro none_; rw [not_not] at fits
      rw [← roleAgrees_iff, none_, roleAgrees, beq_iff_eq] at fits
      exact used fits
    simp only [named, ne_eq, not_false_eq_true, true_and, and_assoc]
  case h_2 => simp
  case h_3 => simp [Channel.isLens_iff]
  case h_4 two three four =>
    refine iff_of_false nofun ?_
    rintro (⟨rfl, -⟩ | ⟨rfl, -⟩ | ⟨rfl, -⟩)
    exacts [two rfl, three rfl, four rfl]

/-- What `channelCheck` finds: the first item that a used channel fails, with the lowest channel that fails it. -/
def foundFirst (s : State) (item : Nat) (n : Fin 12) : Prop :=
  failsItem s item n = true ∧ (∀ m, m < n → ¬ failsItem s item m = true) ∧
    ∀ j m, j < item → ¬ failsItem s j m = true

theorem foundFirst_unique {s : State} {i j : Nat} {m n : Fin 12} (h : foundFirst s i m) (g : foundFirst s j n) :
    i = j ∧ m = n := by
  obtain ⟨hf, hlow, hfirst⟩ := h
  obtain ⟨gf, glow, gfirst⟩ := g
  rcases Nat.lt_trichotomy i j with lt | rfl | lt
  · exact absurd hf (gfirst i m lt)
  · rcases lt_trichotomy m n with lt | rfl | lt
    · exact absurd hf (glow m lt)
    · exact ⟨rfl, rfl⟩
    · exact absurd gf (hlow n lt)
  · exact absurd gf (hfirst j n lt)

theorem firstFailing_cases (s : State) (item : Nat) :
    (firstFailing s item = none ∧ ∀ n, ¬ failsItem s item n = true) ∨
    ∃ n, firstFailing s item = some { channel := some n, item := item } ∧ failsItem s item n = true ∧
      ∀ m, m < n → ¬ failsItem s item m = true := by
  unfold firstFailing
  cases h : (List.finRange 12).find? (failsItem s item) with
  | none => exact .inl ⟨rfl, fun n => by simpa using List.find?_eq_none.1 h n (List.mem_finRange n)⟩
  | some n =>
    obtain ⟨fails, low⟩ := find?_finRange_eq_some.1 h
    exact .inr ⟨n, rfl, fails, fun m hm => by simp [low m hm]⟩

theorem noneUsed_iff (s : State) :
    ((List.finRange 12).all fun n => !(s.chan n).used) = true ↔ ∀ n : Fin 12, (s.cond.chans[n]).desc.cls = .unused := by
  simp [State.chan, Channel.used]

theorem failsItem_item {s : State} {item : Nat} {n : Fin 12} (h : failsItem s item n = true) :
    item = 2 ∨ item = 3 ∨ item = 4 := by
  obtain ⟨-, h⟩ := (failsItem_iff s item n).1 h
  rcases h with ⟨rfl, -⟩ | ⟨rfl, -⟩ | ⟨rfl, -⟩ <;> simp

/-- What the channel check finds (R194). -/
theorem channelCheck_cases (s : State) :
    (∃ item n, channelCheck s = some { channel := some n, item := item } ∧ foundFirst s item n) ∨
    ((channelCheck s = none ∧ (∃ n : Fin 12, (s.cond.chans[n]).desc.cls ≠ .unused) ∨
        channelCheck s = some { channel := none, item := 1 } ∧ ∀ n : Fin 12, (s.cond.chans[n]).desc.cls = .unused) ∧
      ∀ item n, ¬ failsItem s item n = true) := by
  unfold channelCheck
  split
  case isTrue unused =>
    have unused := (noneUsed_iff s).1 unused
    exact .inr ⟨.inr ⟨rfl, unused⟩, fun item n h => ((failsItem_iff s item n).1 h).1 (unused n)⟩
  case isFalse used =>
    rw [noneUsed_iff, not_forall] at used
    have below {item j : Nat} {m : Fin 12} (lt : j < item) (h : failsItem s j m = true) :
        j = 2 ∧ 2 < item ∨ j = 3 ∧ 3 < item ∨ j = 4 ∧ 4 < item := by
      have := failsItem_item h; omega
    rcases firstFailing_cases s 2 with ⟨none2, pass2⟩ | ⟨n, found, fails, low⟩
    · rcases firstFailing_cases s 3 with ⟨none3, pass3⟩ | ⟨n, found, fails, low⟩
      · rcases firstFailing_cases s 4 with ⟨none4, pass4⟩ | ⟨n, found, fails, low⟩
        · refine .inr ⟨.inl ⟨by rw [none2, none3, none4]; rfl, used⟩, fun item n h => ?_⟩
          rcases failsItem_item h with rfl | rfl | rfl
          exacts [pass2 n h, pass3 n h, pass4 n h]
        · refine .inl ⟨4, n, by rw [none2, none3, found]; rfl, fails, low, fun j m lt h => ?_⟩
          rcases below lt h with ⟨rfl, -⟩ | ⟨rfl, -⟩ | ⟨-, lt⟩
          exacts [pass2 m h, pass3 m h, absurd lt (by omega)]
      · refine .inl ⟨3, n, by rw [none2, found]; rfl, fails, low, fun j m lt h => ?_⟩
        rcases below lt h with ⟨rfl, -⟩ | ⟨-, lt⟩ | ⟨-, lt⟩
        exacts [pass2 m h, absurd lt (by omega), absurd lt (by omega)]
    · refine .inl ⟨2, n, by rw [found]; rfl, fails, low, fun j m lt h => ?_⟩
      have := below lt h; omega

theorem channelCheck_none_iff (s : State) :
    channelCheck s = none ↔
      (∃ n : Fin 12, (s.cond.chans[n]).desc.cls ≠ .unused) ∧ ∀ item n, ¬ failsItem s item n = true := by
  rcases channelCheck_cases s with ⟨item, n, found, fails, -⟩ | ⟨⟨found, used⟩ | ⟨found, unused⟩, passes⟩ <;> rw [found]
  · exact ⟨nofun, fun ⟨_, pass⟩ => absurd fails (pass item n)⟩
  · exact ⟨fun _ => ⟨used, passes⟩, fun _ => rfl⟩
  · exact ⟨nofun, fun ⟨⟨n, used⟩, _⟩ => absurd (unused n) used⟩

theorem channelCheck_some_iff (s : State) (item : Nat) (n : Fin 12) :
    channelCheck s = some { channel := some n, item := item } ↔ foundFirst s item n := by
  rcases channelCheck_cases s with ⟨i, m, found, first⟩ | ⟨found, passes⟩
  · rw [found]
    refine ⟨fun h => ?_, fun h => ?_⟩
    · cases h; exact first
    · obtain ⟨rfl, rfl⟩ := foundFirst_unique first h; rfl
  · refine ⟨fun h => ?_, fun h => absurd h.1 (passes item n)⟩
    rcases found with ⟨found, -⟩ | ⟨found, -⟩ <;> rw [found] at h <;> cases h

/-! ## ARM -/

theorem freezeOutputs_at (s : State) (n : Fin 12) :
    (freezeOutputs s).cond.chans[n] =
      if (s.cond.chans[n]).desc.cls = .unused then s.cond.chans[n]
      else { s.cond.chans[n] with outPos := (s.cond.chans[n]).feedback, outVel := 0 } := by
  refine (State.mapChans_at s _ n).trans ?_
  simp only [Channel.used_iff]
  exact ite_not _ _ _

theorem beginArming_at (s : State) (n : Fin 12) :
    (beginArming s).cond.chans[n] =
      if (s.cond.chans[n]).desc.cls = .unused then s.cond.chans[n]
      else { s.cond.chans[n] with outPos := (s.cond.chans[n]).feedback, outVel := 0 } := freezeOutputs_at _ n

theorem armBody_parked {s : State} (h : s.mode.mode = .parked) : armBody s = (armParked s, plain .accepted) := by
  unfold armBody; rw [h]

theorem armBody_used {s : State} (h : s.mode.mode ≠ .parked) : armBody s = (s, plain .ok) := by
  unfold armBody; cases m : s.mode.mode <;> simp_all [refuse]

/-! ## The arming decision -/

/-- A used channel whose latest status is READY, or an UNUSED one (R196). -/
def driveReady (s : State) (n : Fin 12) : Bool :=
  (s.cond.chans[n]).desc.cls == .unused || (s.cond.chans[n]).status == 1

theorem notReady_eq (s : State) :
    notReady s = ((List.finRange 12).find? fun n => !driveReady s n).map fun n =>
      { channel := some n, item := (s.cond.chans[n]).status.toNat } := by
  unfold notReady driveReady
  simp only [State.chan, Channel.used, Bool.not_or, bne, statusReady]

theorem notReady_isNone (s : State) : (notReady s).isNone = (List.finRange 12).all (driveReady s) := by
  rw [notReady_eq, Bool.eq_iff_iff]
  simp

theorem notReady_lowest {s : State} {n : Fin 12} (unready : driveReady s n = false)
    (below : ∀ m, m < n → driveReady s m = true) :
    notReady s = some { channel := some n, item := (s.cond.chans[n]).status.toNat } := by
  rw [notReady_eq, find?_finRange_eq_some.2 ⟨by rw [unready]; rfl, fun m hm => by rw [below m hm]; rfl⟩]; rfl

theorem allPass_eq (c : Checks) :
    c.allPass = [c.channel, c.geometry, c.zones, c.link, c.drives, c.estop, c.supply, c.sync].all (· == .pass) := by
  simp [Checks.allPass, Bool.and_assoc]

theorem geometryPasses_eq (s : State) :
    geometryPasses s = ((s.zone.activeOne.zones.all fun z => !z.enabled) || s.geo.head.isSome) := by
  rw [geometryPasses, List.not_any_eq_all_not]

theorem isEmpty_eq_beq_nil {α : Type} [BEq α] (l : List α) : l.isEmpty = (l == []) := by cases l <;> rfl

/-- The checks of the decision, as R196 lists them. -/
theorem decidedChecks_eq (s : State) :
    decidedChecks s =
      { channel := s.mode.check.checks.channel
        geometry := markOf ((s.zone.activeOne.zones.all fun z => !z.enabled) || s.geo.head.isSome)
        zones := markOf (s.mode.verified && s.zone.pass == .pass && s.zone.stopSet == [])
        link := markOf (s.link.portC.rx.sync == .framed && s.link.portD.rx.sync == .framed && !s.link.armingLoss &&
          !s.link.consoleAbsent)
        drives := markOf ((List.finRange 12).all (driveReady s))
        estop := markOf s.pins.estopInClosed
        supply := markOf (!s.pins.supplyFail)
        sync := markOf (!s.take.ref.required || s.take.ref.sync == .locked) } := by
  rw [decidedChecks, geometryPasses_eq, zonesPass, isEmpty_eq_beq_nil, linkPasses, notReady_isNone]

theorem decidedRecord_ready {s : State} (ready : (List.finRange 12).all (driveReady s) = true) :
    (decidedRecord s).detail = s.mode.check.detail := by
  refine if_neg ?_
  rw [decidedChecks_eq, ready]; nofun

theorem decidedRecord_unready {s : State} {n : Fin 12} (unready : driveReady s n = false)
    (below : ∀ m, m < n → driveReady s m = true) :
    (decidedRecord s).detail = some { channel := some n, item := (s.cond.chans[n]).status.toNat } := by
  have fails : (List.finRange 12).all (driveReady s) = false :=
    List.all_eq_false.2 ⟨n, List.mem_finRange n, by rw [unready]; decide⟩
  refine (if_pos ?_).trans (notReady_lowest unready below)
  rw [decidedChecks_eq, fails]; rfl

/-- The record of the decision at the 250th arming period. -/
theorem decidedRecord_eq {s : State} (due : s.mode.count = 250) :
    decidedRecord s =
      { s.mode.check with
        result := if (decidedChecks s).allPass then .passed else .failed
        checks := decidedChecks s, detail := (decidedRecord s).detail, advisory := s.pins.supplyWarn
        endedAt := some s.link.part, periods := 250 } := by
  rw [decidedRecord, due]

theorem decideArming_passed {s : State} (h : (decidedChecks s).allPass = true) :
    decideArming s = enterLive (s.setMode { s.mode with check := decidedRecord s }) := (decideArming_eq s).trans (if_pos h)

theorem decideArming_failed {s : State} (h : (decidedChecks s).allPass = false) :
    decideArming s = leaveArming (s.setMode { s.mode with check := decidedRecord s }) :=
  (decideArming_eq s).trans (if_neg (by rw [h]; decide))

theorem enterLiveChannel_eq (c : Channel) (l : LensChannel) :
    enterLiveChannel c l = if c.desc.cls = .unused then c else
      { c with
        source := .live, pendingSource := none, pendingNew := false, caughtState := .waiting, fallback := false
        takeHold := if c.desc.cls = .lens then engOf l c.outPos else c.outPos } := by
  unfold enterLiveChannel
  simp only [Channel.used_iff, holdFromOutput_eq]
  exact ite_not _ _ _

/-! ## PARK -/

theorem motionAtRest_iff (s : State) :
    motionAtRest s = true ↔
      ¬ ∃ n : Fin 12, (s.cond.chans[n]).desc.cls = .motion ∧ (s.cond.chans[n]).outVel ≠ 0 := by
  simp only [motionAtRest, State.chan, List.all_eq_true, List.mem_finRange, Bool.or_eq_true, Bool.not_eq_true',
    Channel.isMotion, beq_eq_false_iff_ne, beq_iff_eq, forall_const, not_exists, not_and, not_not, or_iff_not_imp_left]

theorem discardPending_at (s : State) (n : Fin 12) :
    (discardPending s).cond.chans[n] = { s.cond.chans[n] with pendingSource := none, pendingNew := false } :=
  State.mapChans_at s _ n

/-- What PARK and SOFT_RESET do alike, block by block (R199, R200). -/
theorem leaveLive_eq (s : State) :
    leaveLive s = { s with
      mode := { s.mode with mode := .parked, granted := false }
      stop := { s.stop with safety := .normal, stopTimer := 0, softStop := false }
      pins := { s.pins with estopOutClosed := false, brakeReleased := false }
      cond := { chans := (leaveLive s).cond.chans, resumeCatch := false }
      store := interruptedStore s.take.recording s.store
      take := { s.take with recording := interruptedRecording s.take.recording } } := by
  simp only [leaveLive, interruptRecording_eq]; rfl

theorem leaveLive_at (s : State) (n : Fin 12) :
    (leaveLive s).cond.chans[n] = { s.cond.chans[n] with pendingSource := none, pendingNew := false } := by
  simp only [leaveLive, interruptRecording_eq]
  exact discardPending_at _ n

/-- A playback that PARK aborts: an active one, or one that has ENDED (R199). -/
abbrev parkAborts (p : Playback) : Prop :=
  p.state = .cueing ∨ p.state = .cued ∨ p.state = .running ∨ p.state = .ended

theorem parkLive_eq (s : State) :
    parkLive s =
      failCalibrations .parked (leaveLive (if parkAborts s.take.play then abortPlay .park s else s)) := by
  unfold parkLive; simp only [Playback.active_iff, or_assoc]

theorem parkAborted_at (s : State) (n : Fin 12) :
    (if parkAborts s.take.play then abortPlay .park s else s).cond.chans[n] =
      { s.cond.chans[n] with
        takeHold :=
          if parkAborts s.take.play ∧ ((s.cond.chans[n]).source = .take ∨ (s.cond.chans[n]).source = .takeTrim) then
            if (s.cond.chans[n]).desc.cls = .lens then engOf s.lens[n] (s.cond.chans[n]).outPos
            else (s.cond.chans[n]).outPos
          else (s.cond.chans[n]).takeHold } := by
  by_cases aborts : parkAborts s.take.play
  · simp only [aborts, true_and, if_true]; rw [abortPlay_at, heldTake_eq]
  · simp only [aborts, false_and, if_false]

/-- The store that PARK leaves: the recording ended, the read in progress no longer wanted where a playback was
aborted. -/
theorem parkLive_store (s : State) :
    (parkLive s).store =
      if parkAborts s.take.play then
        { interruptedStore s.take.recording s.store with reading := s.store.reading.map fun x => { x with wanted := false } }
      else interruptedStore s.take.recording s.store := by
  rw [parkLive_eq, ← interruptedStore_reading]
  refine (congrArg State.store (leaveLive_eq _)).trans ?_
  split <;> rfl

theorem parkLive_take (s : State) :
    (parkLive s).take =
      { s.take with
        recording := interruptedRecording s.take.recording
        play := if parkAborts s.take.play then abortedPlay .park s.take.play else s.take.play } := by
  rw [parkLive_eq]
  refine (congrArg State.take (leaveLive_eq _)).trans ?_
  split <;> rfl

theorem parkLive_at (s : State) (n : Fin 12) :
    (parkLive s).cond.chans[n] = { s.cond.chans[n] with
      pendingSource := none, pendingNew := false
      takeHold :=
        if parkAborts s.take.play ∧ ((s.cond.chans[n]).source = .take ∨ (s.cond.chans[n]).source = .takeTrim) then
          if (s.cond.chans[n]).desc.cls = .lens then engOf s.lens[n] (s.cond.chans[n]).outPos
          else (s.cond.chans[n]).outPos
        else (s.cond.chans[n]).takeHold } := by
  rw [parkLive_eq]
  refine (leaveLive_at _ n).trans ?_
  rw [parkAborted_at]

/-- What PARK leaves in every block. -/
theorem parkLive_blocks (s : State) :
    parkLive s = { s with
      mode := { s.mode with mode := .parked, granted := false }
      stop := { s.stop with safety := .normal, stopTimer := 0, softStop := false }
      pins := { s.pins with estopOutClosed := false, brakeReleased := false }
      cond := { chans := (parkLive s).cond.chans, resumeCatch := false }
      lens := (parkLive s).lens, store := (parkLive s).store, take := (parkLive s).take } := by
  rw [parkLive_eq]
  rw [leaveLive_eq]
  split <;> rfl

theorem parkLive_lens (s : State) (n : Fin 12) : (parkLive s).lens[n] = calibrationFailed .parked s.lens[n] := by
  rw [parkLive_eq, failCalibrations_at, leaveLive_eq]; split <;> rfl

/-! ## SOFT_RESET -/

theorem endEntry_shape (i : Fin 32) (st : TakeStore) :
    ∃ dir mem check, endEntry i st = { st with dir := dir, mem := mem, check := check, heldWord := none } := by
  obtain ⟨mem, check, closed⟩ := closeLast_shape st.dir[i] noNextBlock st
  unfold endEntry; dsimp only; rw [closed]
  exact ⟨_, _, _, rfl⟩

theorem interruptedStore_shape (r : Recording) (st : TakeStore) :
    ∃ dir mem check held,
      interruptedStore r st = { st with dir := dir, mem := mem, check := check, heldWord := held } := by
  unfold interruptedStore; split
  · obtain ⟨dir, mem, check, ended⟩ := endEntry_shape r.entry (st.mapEntry r.entry fun e => { e with interrupted := true })
    rw [ended]; exact ⟨_, _, _, _, rfl⟩
  · exact ⟨_, _, _, _, rfl⟩

theorem endFormat_eq (st : TakeStore) :
    endFormat st = { st with
      state := if st.state = .formatting then .unformatted else st.state
      progress := if st.state = .formatting then 0 else st.progress
      formatFailed := if st.state = .formatting then [] else st.formatFailed
      free := if st.state = .formatting then [] else st.free
      bad := if st.state = .formatting then [] else st.bad } := by
  unfold endFormat; split <;> rfl

/-- A LIVE crane left has no recording to interrupt. -/
theorem leaveLive_interrupted (s : State) : interruptRecording (leaveLive s) = leaveLive s := by
  unfold interruptRecording
  rw [if_neg]
  rw [leaveLive_eq]
  simp [Recording.active]

/-- A SOFT_RESET once the mode has been left and the recording ended (R197, R200). -/
def resetBegun (s : State) : State := interruptRecording (softResetMode s)

theorem resetBegun_cases (s : State) :
    (s.mode.mode = .arming ∧ resetBegun s =
        interruptRecording (armingEnded s .aborted .softReset s.mode.check.checks s.mode.check.detail)) ∨
    (s.mode.mode ≠ .arming ∧ resetBegun s = leaveLive s) := by
  unfold resetBegun softResetMode
  cases mode : s.mode.mode with
  | arming => exact .inl ⟨rfl, congrArg _ (abortArming_eq _ _ _ _ _)⟩
  | parked | live =>
    refine .inr ⟨nofun, ?_⟩
    exact leaveLive_interrupted s

theorem resetBegun_store (s : State) : (resetBegun s).store = interruptedStore s.take.recording s.store := by
  rcases resetBegun_cases s with ⟨-, h⟩ | ⟨-, h⟩ <;> rw [h]
  · rw [interruptRecording_eq]; rfl
  · rw [leaveLive_eq]

theorem resetBegun_take (s : State) :
    (resetBegun s).take = { s.take with recording := interruptedRecording s.take.recording } := by
  rcases resetBegun_cases s with ⟨-, h⟩ | ⟨-, h⟩ <;> rw [h]
  · rw [interruptRecording_eq]; rfl
  · rw [leaveLive_eq]

theorem softReset_at (s : State) (n : Fin 12) :
    (softReset s).cond.chans[n] = softResetChannel s.cond.chans[n] := by
  have begun : softResetChannel (resetBegun s).cond.chans[n] = softResetChannel s.cond.chans[n] := by
    rcases resetBegun_cases s with ⟨-, h⟩ | ⟨-, h⟩ <;> rw [h]
    · rw [interruptRecording_eq]; rfl
    · rw [leaveLive_at]; rfl
  rw [← begun]
  exact Vector.getElem_map _ _

theorem resetBegun_lens (s : State) : (resetBegun s).lens = s.lens := by
  rcases resetBegun_cases s with ⟨-, h⟩ | ⟨-, h⟩ <;> rw [h]
  · rw [interruptRecording_eq]; rfl
  · rw [leaveLive_eq]

theorem softReset_lens (s : State) (n : Fin 12) :
    (softReset s).lens[n] = { calibrationFailed .softReset s.lens[n] with window := [], foundMin := none } := by
  rw [← calibrationFailed_eq, ← resetBegun_lens s]
  exact Vector.getElem_map _ _

theorem softReset_store (s : State) :
    (softReset s).store = { interruptedStore s.take.recording s.store with
      reading := s.store.reading.map fun x => { x with wanted := false }
      state := if s.store.state = .formatting then .unformatted else s.store.state
      progress := if s.store.state = .formatting then 0 else s.store.progress
      formatFailed := if s.store.state = .formatting then [] else s.store.formatFailed
      free := if s.store.state = .formatting then [] else s.store.free
      bad := if s.store.state = .formatting then [] else s.store.bad } := by
  have ended : (softReset s).store = endFormat (unwanted (resetBegun s).store) := rfl
  obtain ⟨dir, mem, check, held, shape⟩ := interruptedStore_shape s.take.recording s.store
  rw [ended, endFormat_eq, resetBegun_store, shape]; rfl

/-- What stands of the other blocks when the mode has been left and the recording ended. -/
theorem resetBegun_blocks (s : State) :
    resetBegun s = { s with
      mode := { (if s.mode.mode = .arming then
          (armingEnded s .aborted .softReset s.mode.check.checks s.mode.check.detail).mode else s.mode) with
        mode := .parked, granted := false }
      stop := (resetBegun s).stop, pins := (resetBegun s).pins, cond := (resetBegun s).cond
      store := (resetBegun s).store, take := (resetBegun s).take } := by
  rcases resetBegun_cases s with ⟨arming, h⟩ | ⟨away, h⟩ <;> rw [h]
  · rw [if_pos arming, interruptRecording_eq]; rfl
  · rw [if_neg away, leaveLive_eq]

theorem resetBegun_stop (s : State) :
    { (resetBegun s).stop with safety := .normal, stopTimer := 0, softStop := false } =
      { s.stop with safety := .normal, stopTimer := 0, softStop := false } := by
  rcases resetBegun_cases s with ⟨-, h⟩ | ⟨-, h⟩ <;> rw [h]
  · rw [interruptRecording_eq]; rfl
  · rw [leaveLive_eq]

theorem resetBegun_pins (s : State) :
    { (resetBegun s).pins with estopOutClosed := false, brakeReleased := false } =
      { s.pins with estopOutClosed := false, brakeReleased := false } := by
  rcases resetBegun_cases s with ⟨-, h⟩ | ⟨-, h⟩ <;> rw [h]
  · rw [interruptRecording_eq]; rfl
  · rw [leaveLive_eq]

/-- What follows the end of the recording (R200). -/
theorem softReset_finishes (s : State) :
    softReset s = { resetBegun s with
      stop := { (resetBegun s).stop with safety := .normal, stopTimer := 0, softStop := false }
      pins := { (resetBegun s).pins with estopOutClosed := false, brakeReleased := false }
      service := { (resetBegun s).service with staging := List.replicate 1024 0 }
      geo := softResetGeometry (resetBegun s).geo
      cond := { chans := (resetBegun s).cond.chans.map softResetChannel, resumeCatch := false }
      lens := (resetBegun s).lens.map softResetLens
      store := endFormat (unwanted (resetBegun s).store)
      take := { (resetBegun s).take with play := idlePlayback }
      capture := softResetCapture (resetBegun s).capture } := by
  unfold softReset resetBegun
  generalize interruptRecording (softResetMode s) = t
  cases t; rfl

/-- What SOFT_RESET leaves in every block. -/
theorem softReset_blocks (s : State) :
    softReset s = { s with
      mode := { (if s.mode.mode = .arming then
          (armingEnded s .aborted .softReset s.mode.check.checks s.mode.check.detail).mode else s.mode) with
        mode := .parked, granted := false }
      stop := { s.stop with safety := .normal, stopTimer := 0, softStop := false }
      pins := { s.pins with estopOutClosed := false, brakeReleased := false }
      service := { s.service with staging := List.replicate 1024 0 }
      geo := { s.geo with headSpeed := 0, reference := none }
      cond := { chans := (softReset s).cond.chans, resumeCatch := false }
      lens := (softReset s).lens, store := (softReset s).store
      take := { s.take with recording := interruptedRecording s.take.recording, play := idlePlayback }
      capture := if s.capture.state = .tripped then s.capture else
        { s.capture with state := .idle, condition := none, previous := none } } := by
  have begun := resetBegun_blocks s
  have stop := resetBegun_stop s
  have pins := resetBegun_pins s
  have take := resetBegun_take s
  rw [softReset_finishes s, stop, pins, take]
  generalize resetBegun s = t at *
  have pending := congrArg State.pending begun
  have timer := congrArg State.timer begun
  have link := congrArg State.link begun
  have service := congrArg State.service begun
  have mode := congrArg State.mode begun
  have geo := congrArg State.geo begun
  have zone := congrArg State.zone begun
  have capture := congrArg State.capture begun
  dsimp only at pending timer link service mode geo zone capture ⊢
  rw [pending, timer, link, service, mode, geo, zone, capture]; rfl

end Sys2Proof.Machine

namespace Sys2Proof.Proofs
open Sys2Proof.Machine Sys2Proof.Claims

/-- Settles O23: ARM's three cases, and the channel check by the first item and channel that fails. -/
theorem armTaken : Obligations.ArmTaken := by
  have accepted (s : State) : s.mode.mode ≠ .arming ∨ armingAccepts 0x20 = true := .inr (by decide)
  refine ⟨fun tag s tagged => ⟨fun used => ?_, fun parked d found => ?_, fun parked clear => ?_⟩, fun s => ?_⟩
  · exact request_replied tagged (accepted s) (armBody_used used)
  · refine request_replied tagged (accepted s) ((armBody_parked parked).trans ?_)
    simp only [armParked, found]; rfl
  · refine request_replied tagged (accepted s) ((armBody_parked parked).trans ?_)
    simp only [armParked, clear]
    refine congrArg (·, plain .accepted)
      (State.eq_of_blocks rfl rfl rfl rfl rfl rfl (Conditioner.ext_at (fun n => ?_) rfl) rfl rfl rfl rfl rfl rfl rfl)
    refine (beginArming_at s n).trans ?_
    simp only [Fin.getElem_fin, Vector.getElem_map]
  · dsimp only
    refine ⟨?_, fun unused => ?_, fun item n => ?_⟩
    · rw [channelCheck_none_iff]
      refine and_congr_right fun _ => ⟨fun pass n used => ?_, fun fit item n fails => ?_⟩
      · have two := pass 2 n
        have three := pass 3 n
        have four := pass 4 n
        simp only [failsItem_iff, used, ne_eq, not_false_eq_true, true_and, Nat.reduceEqDiff, false_and, or_false,
          false_or, not_or, not_not, not_and, not_exists, Int.not_lt] at two three four
        exact ⟨two.1, fun aux lensAux m other same => two.2 aux lensAux m other same, three.1, three.2, four⟩
      · obtain ⟨used, fails⟩ := (failsItem_iff s item n).1 fails
        obtain ⟨role, alone, low, high, map⟩ := fit n used
        rcases fails with ⟨-, unfit | ⟨aux, lensAux, m, other, same⟩⟩ | ⟨-, below | above⟩ | ⟨-, lens, mapless⟩
        · exact unfit role
        · exact alone aux lensAux m other same
        · exact absurd low (Int.not_le.2 below)
        · exact absurd high (Int.not_le.2 above)
        · exact map lens mapless
    · rcases channelCheck_cases s with ⟨item, n, -, fails, -⟩ | ⟨⟨-, n, used⟩ | ⟨found, -⟩, -⟩
      · exact absurd (unused n) ((failsItem_iff s item n).1 fails).1
      · exact absurd (unused n) used
      · exact found
    · rw [channelCheck_some_iff]
      simp only [foundFirst, failsItem_iff]

/-- Settles O24: the decision by whether every check passes. -/
theorem armingDecided : Obligations.ArmingDecided := by
  intro s
  refine ⟨fun early => ?_, fun arming due => ?_⟩
  · refine congrArg Host.Outcome.next (if_neg ?_)
    rintro ⟨arming, due⟩; rcases early with h | h
    exacts [h arming, h due]
  · have decides : exec .armingDecision s = .next (decideArming s) := congrArg Host.Outcome.next (if_pos ⟨arming, due⟩)
    refine ⟨(decidedRecord s).detail, decidedRecord_ready, fun n => decidedRecord_unready, fun passed => ?_,
      fun failed => ?_⟩
    all_goals
      have checks := decidedChecks_eq s
      have record := decidedRecord_eq due
      rw [allPass_eq, checks] at record
    · refine ⟨(decideArming s).cond.chans, decides.trans ?_, fun n => ?_⟩
      · rw [decideArming_passed ((allPass_eq _).trans (checks ▸ passed)), record]; rfl
      · rw [decideArming_passed ((allPass_eq _).trans (checks ▸ passed)), enterLive_at]
        exact enterLiveChannel_eq _ _
    · rw [decides, decideArming_failed ((allPass_eq _).trans (checks ▸ failed)), record]; rfl

/-- Settles O25: PARK by the mode it finds; accepted in LIVE, block by block. -/
theorem parkTaken : Obligations.ParkTaken := by
  intro tag s tagged
  have accepted : s.mode.mode ≠ .arming ∨ armingAccepts 0x21 = true := .inr (by decide)
  refine ⟨fun parked => ?_, fun live up moving => ?_, fun arming => ?_, fun live still => ?_⟩
  · exact request_replied tagged accepted (by unfold parkBody; rw [parked]; rfl)
  · refine request_replied tagged accepted ?_
    unfold parkBody; rw [live]
    exact if_neg (by rintro (h | h); exacts [up h, (motionAtRest_iff s).1 h moving])
  · refine request_replied tagged accepted ?_
    unfold parkBody; rw [arming]
    exact congrArg (·, plain .ok) (abortArming_eq _ _ _ _ _)
  · refine ⟨(parkLive s).cond.chans, (parkLive s).lens, interruptedStore s.take.recording s.store, ?_,
      interruptedStore_idle _, interruptedStore_ended _, fun n => ⟨parkLive_at s n, parkLive_lens s n⟩⟩
    have parked : parkBody s = (parkLive s, plain .ok) := by
      unfold parkBody; rw [live]
      exact if_pos (still.imp_right (motionAtRest_iff s).2)
    refine (request_replied tagged accepted parked).trans ?_
    rw [parkLive_blocks, parkLive_store, parkLive_take, interruptedRecording_eq]; rfl

/-- Settles O26: SOFT_RESET block by block. -/
theorem softResetParks : Obligations.SoftResetParks := by
  intro tag s tagged
  refine ⟨(softReset s).cond.chans, (softReset s).lens, interruptedStore s.take.recording s.store, ?_,
    interruptedStore_idle _, interruptedStore_ended _, fun n => ⟨softReset_at s n, softReset_lens s n⟩⟩
  refine (request_replied tagged (.inr (by decide)) rfl : exec (.softReset tag) s = _).trans ?_
  refine congrArg (replied tag 0x7F .ok) ?_
  rw [softReset_blocks, softReset_store, interruptedRecording_eq]

end Sys2Proof.Proofs
end

section
/-! PROOFS. Every step keeps the MOTION axes inside their limits and the state in its shape: the requests, the events and
the frames that carry requests. -/

namespace Sys2Proof.Machine
open Sys2Proof.Claims

/-! ## Operations of the requests -/

theorem answer_steady (tag code : Byte) (r : Reply) (s : State) : Steady s (answer tag code r s) :=
  .of_blocks (service := rfl)

/-- A request keeps what its own rule keeps where ARMING does not refuse it. -/
theorem request_keeps {tag code : Byte} {body : Body} {s : State}
    (h : s.mode.mode ≠ .arming ∨ armingAccepts code = true → Keeps s (body s).1) : Keeps s (request tag code body s) := by
  by_cases untagged : tag = 0
  · rw [untagged, request_zero]; exact .refl s
  · by_cases runs : s.mode.mode ≠ .arming ∨ armingAccepts code = true
    · rw [request_runs body untagged runs]; exact (h runs).trans (answer_steady _ _ _ _).keeps
    · simp only [ne_eq, not_or, not_not, Bool.not_eq_true] at runs
      rw [request_arming body untagged runs.1 runs.2]; exact (answer_steady _ _ _ _).keeps

theorem request_steady {tag code : Byte} {body : Body} {s : State} (h : Steady s (body s).1) :
    Keeps s (request tag code body s) := request_keeps fun _ => h.keeps

/-- A descriptor that the check lets through holds a role that may stand twice, or one that no other channel holds. -/
theorem checkedDescriptor_role {s : State} {n : Fin 12} {cls role kind : Byte} {f : ChannelFields} {d : Descriptor}
    (h : checkedDescriptor s n cls role kind f = some d) :
    (d.role = .none ∨ d.role = .aux ∨ d.role = .lensAux) ∨
      ∀ m : Fin 12, m ≠ n → (s.cond.chans[m]).desc.role ≠ d.role := by
  by_cases fits : descriptorFits s n cls role kind f
  case neg => rw [checkedDescriptor_unfit fits] at h; cases h
  case pos =>
    unfold checkedDescriptor at h
    split at h
    case h_2 => cases h
    case h_1 c r hc hr =>
      split at h
      case h_1 => cases h
      case h_2 k hk =>
        have accepted := (descriptorFits_iff hc hr hk).1 fits
        unfold descriptorAccepted at accepted
        obtain ⟨-, free, -⟩ := id accepted
        rw [if_pos accepted] at h
        obtain rfl := Option.some.inj h
        rw [storedDescriptor_eq]
        by_cases unused : c = .unused
        · rw [if_pos unused]; exact .inl (.inl rfl)
        · rw [if_neg unused]
          by_cases single : r.single = true
          · refine .inr fun m other same => ?_
            rw [single, Bool.true_and] at free
            exact Bool.eq_false_iff.1 free ((heldElsewhere_iff _ _ _).2 ⟨m, other, same⟩)
          · refine .inl ?_
            rw [single_iff] at single
            by_contra named
            exact single (by simpa only [not_or] using named)

theorem writeDescriptor_at (n : Fin 12) (d : Descriptor) (s : State) (m : Fin 12) :
    ((writeDescriptor n d s).cond.chans[m]).desc = if m = n then d else (s.cond.chans[m]).desc := by
  have stored : (writeDescriptor n d s).cond = (s.mapChan n (adoptDescriptor d)).cond := by
    unfold writeDescriptor; dsimp only; split <;> rfl
  rw [stored, State.mapChan_at]
  split <;> rfl

theorem writeDescriptor_keeps {s : State} {n : Fin 12} {d : Descriptor} (parked : s.mode.mode = .parked)
    (role : (d.role = .none ∨ d.role = .aux ∨ d.role = .lensAux) ∨
      ∀ m : Fin 12, m ≠ n → (s.cond.chans[m]).desc.role ≠ d.role) : Keeps s (writeDescriptor n d s) := by
  have blocks : (writeDescriptor n d s).mode = s.mode ∧ (writeDescriptor n d s).zone = s.zone ∧
      (writeDescriptor n d s).service = s.service ∧ (writeDescriptor n d s).link = s.link ∧
      (writeDescriptor n d s).store = s.store := by
    unfold writeDescriptor; dsimp only; split <;> exact ⟨rfl, rfl, rfl, rfl, rfl⟩
  obtain ⟨mode, zone, service, link, store⟩ := blocks
  constructor
  · rintro ⟨scale, -⟩
    exact ⟨zone ▸ scale, fun used => absurd (mode ▸ parked) used⟩
  · rintro ⟨staging, roles, rest⟩
    refine ⟨service ▸ staging, fun i j other same => ?_, by unfold ListBounded; rw [link, store]; exact rest⟩
    rw [writeDescriptor_at] at same ⊢
    rw [writeDescriptor_at] at same
    by_cases hi : i = n <;> by_cases hj : j = n
    · exact absurd (hi.trans hj.symm) other
    · rw [if_pos hi, if_neg hj] at same
      rw [if_pos hi]
      exact role.resolve_right fun free => free j hj same.symm
    · rw [if_neg hi, if_pos hj] at same
      rw [if_neg hi, same]
      exact role.resolve_right fun free => free i hi same
    · rw [if_neg hi, if_neg hj] at same
      rw [if_neg hi]
      exact roles i j other same

theorem setChannelBody_keeps {channel cls role kind : Byte} {f : ChannelFields} {s : State}
    (still : s.mode.mode ≠ .arming) : Keeps s (setChannelBody channel cls role kind f s).1 := by
  by_cases live : s.mode.mode = .live
  · rw [setChannelBody_live live]; exact .refl s
  have parked : s.mode.mode = .parked := by cases m : s.mode.mode <;> simp_all
  cases hn : channelOf? channel with
  | none => rw [setChannelBody_unnamed live hn]; exact .refl s
  | some n =>
    cases hd : checkedDescriptor s n cls role kind f with
    | none => rw [setChannelBody_unfit live hn hd]; exact .refl s
    | some d => rw [setChannelBody_writes live hn hd]; exact writeDescriptor_keeps parked (checkedDescriptor_role hd)

theorem setSourceBody_steady (mask : Half) (source : Byte) (s : State) : Steady s (setSourceBody mask source s).1 := by
  unfold setSourceBody
  split
  · exact .refl s
  split
  · exact .refl s
  split
  · exact .refl s
  · refine .of_axes (fun n => ?_) id (store := id)
    rw [State.mapChans_at]
    split
    · unfold requestSource; split <;> exact ⟨rfl, rfl, rfl⟩
    · exact ⟨rfl, rfl, rfl⟩

theorem stageBytes_length {staging bytes : List Byte} {offset : Nat} (h : offset + bytes.length ≤ staging.length) :
    (stageBytes staging offset bytes).length = staging.length := by
  simp only [stageBytes, List.length_append, List.length_take, List.length_drop]; omega

/-- A change of the service field. -/
theorem setService_keeps (x : ServiceUnit) (s : State)
    (h : s.service.staging.length = 1024 → x.staging.length = 1024) : Keeps s (s.setService x) :=
  ⟨id, fun ⟨staging, rest⟩ => ⟨h staging, rest⟩⟩

theorem stageWriteBody_keeps (offset : Half) (bytes : List Byte) (s : State) :
    Keeps s (stageWriteBody offset bytes s).1 := by
  unfold stageWriteBody; split
  · exact .refl s
  · exact setService_keeps _ s fun full => (stageBytes_length (by omega)).trans full

theorem armParked_keeps (s : State) : Keeps s (armParked s) := by
  unfold armParked
  split
  case h_1 => exact (Steady.of_blocks).keeps
  case h_2 clear =>
    obtain ⟨-, passes⟩ := (channelCheck_none_iff s).1 clear
    have desc (n : Fin 12) : ((beginArming s).cond.chans[n]).desc = (s.cond.chans[n]).desc := by
      rw [beginArming_at]; split <;> rfl
    refine ⟨?_, ?_⟩
    · rintro ⟨scale, -⟩
      refine ⟨by simpa using scale, fun _ n motion => ?_⟩
      rw [desc n] at motion ⊢
      have used : (s.cond.chans[n]).desc.cls ≠ .unused := by rw [motion]; decide
      have inside : effMin s.cond.chans[n] s.lens[n] ≤ (s.cond.chans[n]).feedback ∧
          (s.cond.chans[n]).feedback ≤ effMax s.cond.chans[n] s.lens[n] := by
        have three := passes 3 n
        simp only [failsItem_iff, used, ne_eq, not_false_eq_true, true_and, Nat.reduceEqDiff, false_and, or_false,
          false_or, not_or, Int.not_lt] at three
        exact three
      rw [effMin_motion _ motion, effMax_motion _ motion] at inside
      rw [beginArming_at, if_neg used]
      exact ⟨inside.1, inside.2, Nat.zero_le _⟩
    · rintro ⟨staging, roles, list, loss, total, store⟩
      exact ⟨staging, fun m n => by rw [desc m, desc n]; exact roles m n, list, loss, total, store⟩

theorem armBody_keeps (s : State) : Keeps s (armBody s).1 := by
  by_cases parked : s.mode.mode = .parked
  · rw [armBody_parked parked]; exact armParked_keeps s
  · rw [armBody_used parked]; exact .refl s

theorem leaveLive_steady (s : State) : Steady s (leaveLive s) :=
  .of_axes (fun n => by rw [leaveLive_at]; exact ⟨rfl, rfl, rfl⟩) (fun _ => by rw [leaveLive_eq])
    (scale := by rw [leaveLive_eq]) (service := by rw [leaveLive_eq]) (link := fun h => by rw [leaveLive_eq]; exact h)
    (store := fun h => by rw [leaveLive_eq]; exact interruptedStore_wf _ _ h)

theorem parkLive_steady (s : State) : Steady s (parkLive s) := by
  unfold parkLive; dsimp only
  refine Steady.trans ?_ ((leaveLive_steady _).trans (mapAllLens_steady _ _))
  split
  · exact abortPlay_steady _ _
  · exact .refl s

theorem parkBody_steady (s : State) : Steady s (parkBody s).1 := by
  unfold parkBody
  cases s.mode.mode with
  | parked => exact .refl s
  | arming => dsimp only; exact abortArming_steady _ _ _ _ s
  | live =>
    dsimp only; split
    · exact parkLive_steady s
    · exact .refl s

theorem stopBody_steady (s : State) : Steady s (stopBody s).1 := by
  unfold stopBody
  cases s.mode.mode with
  | parked => exact .refl s
  | arming => dsimp only; exact (takeCause_steady _ s).trans (abortArming_steady _ _ _ _ _)
  | live => exact takeCause_steady _ s

theorem resumed_steady (s : State) : Steady s (resumed s) := .of_axes (fun _ => ⟨rfl, rfl, rfl⟩) id (store := id)

theorem resumeBody_steady (s : State) : Steady s (resumeBody s).1 := by
  unfold resumeBody; split
  · exact .refl s
  · unfold resumeHeld; split
    · exact resumed_steady s
    · exact .refl s
  · exact .refl s

theorem expiry_keeps (x : LinkSettings) (s : State) : Keeps s (writeTimer x s) := by
  unfold writeTimer; split
  · have written : Steady s (s.setLink { s.link with silenceLimit := clampNat 1000 50000 x.timer }) :=
      .of_link { s.link with silenceLimit := clampNat 1000 50000 x.timer } id
    dsimp only; split
    · exact written.keeps.trans (goSilent_keeps _)
    · exact written.keeps
  · have written : Steady s (s.setLink { s.link with returnTimeout := clampNat 100 2000 x.timer }) :=
      .of_link { s.link with returnTimeout := clampNat 100 2000 x.timer } id
    exact (written.trans (expireEntries_steady _)).keeps

theorem putPort_steady (p : PortId) (x : Port) (s : State) : Steady s (s.setLink (s.link.putPort p x)) :=
  .of_link _ (linkBounded_putPort p x)

theorem setLinkBody_keeps (x : Option LinkSettings) (s : State) : Keeps s (setLinkBody x s).1 := by
  unfold setLinkBody; split
  · exact .refl s
  · exact (putPort_steady _ _ s).keeps.trans (expiry_keeps _ _)

theorem recordBody_steady (take mask : Half) (s : State) : Steady s (recordBody take mask s).1 := by
  unfold recordBody
  split
  · exact .refl s
  split
  · exact .refl s
  · exact (mapEntry_steady _ _ s).trans (setTake_steady _ _)
  · exact .refl s

theorem recordEndBody_steady (s : State) : Steady s (recordEndBody s).1 := by
  unfold recordEndBody; dsimp only; split
  · exact .refl s
  · exact (mapEntry_steady _ _ s).trans (setTake_steady _ _)
  · split
    · exact endRecording_steady s
    · exact setTake_steady s _

theorem endFallback_axes (c : Channel) (l : LensChannel) :
    (endFallback c l).desc = c.desc ∧ (endFallback c l).outPos = c.outPos ∧ (endFallback c l).outVel = c.outVel := by
  unfold endFallback; split <;> exact ⟨rfl, rfl, rfl⟩

theorem compareMaps_at (e : DirEntry) (s : State) (n : Fin 12) :
    (compareMaps e s).cond.chans[n] =
      if mismatched e n (endFallback s.cond.chans[n] s.lens[n]) s.lens[n] = true then
        beginFallback (endFallback s.cond.chans[n] s.lens[n])
      else endFallback s.cond.chans[n] s.lens[n] :=
  State.mapChans_at s (fun n c =>
    if mismatched e n (endFallback c (s.lensOf n)) (s.lensOf n) then beginFallback (endFallback c (s.lensOf n))
    else endFallback c (s.lensOf n)) n

theorem compareMaps_steady (e : DirEntry) (s : State) : Steady s (compareMaps e s) := by
  refine .of_axes (fun n => ?_) id rfl rfl id id
  rw [compareMaps_at]
  split
  · exact endFallback_axes _ _
  · exact endFallback_axes _ _

theorem beginCue_steady (i : Fin 32) (mark : Nat) (s : State) : Steady s (beginCue i mark s) :=
  (setTake_steady s _).trans ((compareMaps_steady _ _).trans (startRead_steady _))

theorem cueBody_steady (take : Half) (mark : Byte) (s : State) : Steady s (cueBody take mark s).1 := by
  unfold cueBody
  split
  · exact .refl s
  split
  · exact .refl s
  · exact .refl s
  · dsimp only
    split
    · exact .refl s
    split
    · exact .refl s
    · exact beginCue_steady _ _ s

theorem startPlay_steady (s : State) : Steady s (startPlay s) := .of_blocks

theorem goBody_steady (s : State) : Steady s (goBody s).1 := by
  unfold goBody
  split
  · exact .refl s
  split
  · exact .refl s
  · exact startPlay_steady s

theorem softReset_keeps (s : State) : Keeps s (softReset s) := by
  refine ⟨?_, ?_⟩
  · rintro ⟨scale, -⟩
    rw [softReset_blocks]
    exact ⟨scale, fun used => absurd rfl used⟩
  · rintro ⟨staging, roles, list, loss, total, store⟩
    have desc (n : Fin 12) : ((softReset s).cond.chans[n]).desc = (s.cond.chans[n]).desc := by
      rw [softReset_at]; rfl
    have kept : (softReset s).store.wf := by
      rw [softReset_store]; exact interruptedStore_wf s.take.recording s.store store
    have link : (softReset s).link = s.link := by rw [softReset_blocks]
    have service : (softReset s).service.staging = List.replicate 1024 0 := by rw [softReset_blocks]
    refine ⟨by rw [service]; exact List.length_replicate, fun m n => by rw [desc m, desc n]; exact roles m n, ?_, ?_, ?_, kept⟩
    · unfold ListBounded; rw [link]; exact list
    · rw [link]; exact loss
    · rw [link]; exact total

/-! ## Requests -/

theorem readSingle_steady (content : State → List Byte) (index page : Byte) (s : State) :
    Steady s (readSingle content index page s).1 := by
  unfold readSingle; split <;> exact .refl s

theorem readChannel_steady (content : Channel → LensChannel → List Byte) (index page : Byte) (s : State) :
    Steady s (readChannel content index page s).1 := by
  unfold readChannel; split <;> exact .refl s

theorem readPort_steady (index page : Byte) (s : State) : Steady s (readPort index page s).1 := by
  unfold readPort; split <;> exact .refl s

theorem readMemory_steady (index page : Byte) (s : State) : Steady s (readMemory index page s).1 := by
  unfold readMemory; (repeat' split) <;> exact .refl s

theorem readEntry_steady (index page : Byte) (s : State) : Steady s (readEntry index page s).1 := by
  unfold readEntry; split <;> exact .refl s

end Sys2Proof.Machine
end

section
/-! PROOFS. Every step keeps the MOTION axes inside their limits and the state in its shape: every row of the
dispatcher. -/

namespace Sys2Proof.Machine
open Sys2Proof.Claims

theorem setStop_steady (x : StopController) (s : State) : Steady s (s.setStop x) := .of_blocks

theorem setCapture_steady (x : CaptureUnit) (s : State) : Steady s (s.setCapture x) := .of_blocks

theorem setPins_steady (x : Pins) (s : State) : Steady s (s.setPins x) := .of_blocks

theorem setGeo_steady (x : Geometry) (s : State) : Steady s (s.setGeo x) := .of_blocks

theorem setTimer_steady (x : Nat) (s : State) : Steady s (s.setTimer x) := .of_blocks

theorem mapLens_steady (n : Fin 12) (f : LensChannel → LensChannel) (s : State) : Steady s (s.mapLens n f) := .of_blocks

theorem putBank_scale (z : ZoneMonitor) (id : BankId) (b : Bank) : (z.putBank id b).scale = z.scale := by
  cases id <;> rfl

/-! ## Requests -/

theorem releaseFaultBody_steady (s : State) : Steady s (releaseFaultBody s).1 := by
  unfold releaseFaultBody; (repeat' split)
  · exact .refl s
  · exact .refl s
  · exact setStop_steady _ s

theorem clearCountersBody_steady (port kinds : Byte) (s : State) : Steady s (clearCountersBody port kinds s).1 := by
  unfold clearCountersBody; split
  · exact .refl s
  · exact putPort_steady _ _ s

theorem setSyncBody_steady (cycles required : Byte) (s : State) : Steady s (setSyncBody cycles required s).1 := by
  unfold setSyncBody; (repeat' split)
  · exact .refl s
  · exact .refl s
  · exact setTake_steady s _

theorem markBody_steady (s : State) : Steady s (markBody s).1 := by
  unfold markBody; dsimp only; (repeat' split)
  · exact .refl s
  · exact .refl s
  · exact .refl s
  · exact mapEntry_steady _ _ s

theorem deleteTakeBody_steady (take : Half) (s : State) : Steady s (deleteTakeBody take s).1 := by
  unfold deleteTakeBody; dsimp only; (repeat' split)
  · exact .refl s
  · exact .refl s
  · exact .refl s
  · exact .refl s
  · exact .refl s
  · exact .of_store _ id

theorem formatBody_steady (s : State) : Steady s (formatBody s).1 := by
  unfold formatBody; split
  · exact .refl s
  · exact .of_store (beginFormat s.store) id

theorem setMemoryBody_steady (singles : Byte) (s : State) : Steady s (setMemoryBody singles s).1 := by
  unfold setMemoryBody; split
  · exact .refl s
  · exact .of_store _ id

theorem lensCalibrateBody_steady (channel : Byte) (s : State) : Steady s (lensCalibrateBody channel s).1 := by
  unfold lensCalibrateBody; (repeat' split)
  · exact .refl s
  · exact .refl s
  · exact .refl s
  · exact .refl s
  · exact mapLens_steady _ _ s

theorem armCaptureBody_steady (kind channel : Byte) (value : Word) (direction scope : Byte) (s : State) :
    Steady s (armCaptureBody kind channel value direction scope s).1 := by
  unfold armCaptureBody; (repeat' split)
  · exact .refl s
  · exact .refl s
  · exact setCapture_steady _ s

theorem setTriggerBody_steady (kind : Byte) (timecode : Word) (scale : Half) (s : State) :
    Steady s (setTriggerBody kind timecode scale s).1 := by
  unfold setTriggerBody; split
  · exact .refl s
  · exact setTake_steady s _

theorem commitGeometryBody_steady (length : Half) (crc : Word) (s : State) :
    Steady s (commitGeometryBody length crc s).1 := by
  unfold commitGeometryBody; (repeat' split)
  · exact .refl s
  · exact .refl s
  · exact .refl s
  · exact .refl s
  · exact setGeo_steady _ s
  · exact .refl s

theorem commitZoneBody_steady (length : Half) (crc : Word) (s : State) : Steady s (commitZoneBody length crc s).1 := by
  unfold commitZoneBody; (repeat' split)
  · exact .refl s
  · exact .refl s
  · exact .refl s
  · exact .refl s
  · exact .of_blocks (scale := putBank_scale _ _ _)

theorem commitMapBody_steady (channel : Byte) (length : Half) (crc : Word) (s : State) :
    Steady s (commitMapBody channel length crc s).1 := by
  unfold commitMapBody; (repeat' split)
  · exact .refl s
  · exact .refl s
  · exact .refl s
  · exact .refl s
  · exact .refl s
  · dsimp only; exact mapLens_steady _ _ s

theorem zoneSwapBody_steady (s : State) : Steady s (zoneSwapBody s).1 := .of_blocks rfl rfl rfl rfl rfl rfl rfl

theorem stageWrite_keeps (tag : Byte) (offset : Half) (bytes : List Byte) (s : State) :
    Keeps s (stateAfter s (execStageWrite tag offset bytes s)) := by
  unfold execStageWrite stateAfter; dsimp only; split
  · exact (answer_steady _ _ _ _).keeps
  · exact request_keeps fun _ => stageWriteBody_keeps _ _ s

/-- A request keeps the axes inside and the shape, whichever it is. -/
theorem runRequest_keeps (i : Instr) (s : State) : Keeps s (runRequest i s) := by
  cases i with
  | identify => exact request_steady (.refl s)
  | readStatusCrane => exact request_steady (readSingle_steady _ _ _ s)
  | readStatusChannel => exact request_steady (readChannel_steady _ _ _ s)
  | readStatusPort => exact request_steady (readPort_steady _ _ s)
  | readStatusSafety => exact request_steady (readSingle_steady _ _ _ s)
  | readStatusFaultRecord => exact request_steady (readSingle_steady _ _ _ s)
  | readStatusCaptureRecord => exact request_steady (readSingle_steady _ _ _ s)
  | readStatusMemory => exact request_steady (readMemory_steady _ _ s)
  | readStatusDirectoryEntry => exact request_steady (readEntry_steady _ _ s)
  | readStatusPlayStatus => exact request_steady (readSingle_steady _ _ _ s)
  | readStatusSelfCheck => exact request_steady (readSingle_steady _ _ _ s)
  | readStatusLensChannel => exact request_steady (readChannel_steady _ _ _ s)
  | readStatusLastReply => exact request_steady (readSingle_steady _ _ _ s)
  | setChannel =>
    exact request_keeps fun runs => setChannelBody_keeps (runs.resolve_right (by decide))
  | setSource => exact request_steady (setSourceBody_steady _ _ s)
  | stageWrite => exact stageWrite_keeps _ _ _ s
  | commitGeometry => exact request_steady (commitGeometryBody_steady _ _ s)
  | commitZoneShadow => exact request_steady (commitZoneBody_steady _ _ s)
  | commitLensMap => exact request_steady (commitMapBody_steady _ _ _ s)
  | zoneSwap => exact request_steady (zoneSwapBody_steady s)
  | arm => exact request_keeps fun _ => armBody_keeps s
  | park => exact request_steady (parkBody_steady s)
  | stop => exact request_steady (stopBody_steady s)
  | resume => exact request_steady (resumeBody_steady s)
  | releaseFault => exact request_steady (releaseFaultBody_steady s)
  | setStop => exact request_steady (setStop_steady _ s)
  | setLink => exact request_keeps fun _ => setLinkBody_keeps _ s
  | clearCounters => exact request_steady (clearCountersBody_steady _ _ s)
  | setSync => exact request_steady (setSyncBody_steady _ _ s)
  | record => exact request_steady (recordBody_steady _ _ s)
  | recordEnd => exact request_steady (recordEndBody_steady s)
  | mark => exact request_steady (markBody_steady s)
  | cue => exact request_steady (cueBody_steady _ _ s)
  | setTrigger => exact request_steady (setTriggerBody_steady _ _ _ s)
  | go => exact request_steady (goBody_steady s)
  | abortPlay => exact request_steady (abortActive_steady _ s)
  | deleteTake => exact request_steady (deleteTakeBody_steady _ s)
  | format => exact request_steady (formatBody_steady s)
  | releaseMemoryError => exact request_steady (.of_store _ id)
  | setMemory => exact request_steady (setMemoryBody_steady _ s)
  | lensCalibrate => exact request_steady (lensCalibrateBody_steady _ s)
  | setEmbed => exact request_steady (setCapture_steady _ s)
  | armCapture => exact request_steady (armCaptureBody_steady _ _ _ _ _ s)
  | releaseCapture => exact request_steady (setCapture_steady _ s)
  | softReset => exact request_keeps fun _ => softReset_keeps s
  | _ => exact .refl s

/-! ## Console frames -/

theorem rejectRequest_keeps (tag code : Byte) (why : Reject) (s : State) : Keeps s (rejectRequest tag code why s) := by
  cases why with
  | tooLong | unknownCode | wrongLength => exact (answer_steady _ _ _ s).keeps
  | badSelector | badTarget => exact request_steady (.refl s)

theorem serve_keeps (field : List Byte) (s : State) : Keeps s (serve field s) := by
  unfold serve; split
  · exact .refl s
  · exact runRequest_keeps _ s
  · exact rejectRequest_keeps _ _ _ s

theorem noteArrival_steady (now : Nat) (cycle : Option Half) (s : State) :
    Steady s (s.setLink (noteArrival now cycle s.link)) := .of_link _ id

theorem adoptConsole_steady (f : Frame) (s : State) : Steady s (adoptConsole f s) := by
  have quiet : Steady s (s.setLink { s.link with silenceFrom := s.timer, consoleAbsent := false }) :=
    .of_link { s.link with silenceFrom := s.timer, consoleAbsent := false } id
  have adopted (s : State) : Steady s (s.setLink { s.link with
      offset := s.link.part.setWidth 16 - f.cycle, lastGood := some (goodRecord f) }) :=
    .of_link { s.link with offset := s.link.part.setWidth 16 - f.cycle, lastGood := some (goodRecord f) } id
  unfold adoptConsole
  exact quiet.trans ((takePart_steady _).trans (adopted _))

theorem goodConsole_keeps (f : Frame) (s : State) : Keeps s (goodConsole f s) := by
  unfold goodConsole; dsimp only
  exact ((adoptConsole_steady f s).trans ((takeFlags_steady _ _).trans (placeOutbound_steady _ _ _))).keeps.trans
    ((serve_keeps _ _).trans (finishOutbound_keeps _ _ _))

theorem badConsole_keeps (s : State) : Keeps s (badConsole s) := by
  unfold badConsole; split
  · exact .refl s
  · exact originateSubst_keeps s

theorem consoleFrame_keeps (clean : Bool) (bytes : List Byte) (s : State) : Keeps s (consoleFrame clean bytes s) := by
  unfold consoleFrame; dsimp only
  refine ((settleDecision_steady s).trans (takeIn_steady .c (classify kindCycle clean bytes) clean _)).keeps.trans ?_
  split
  · refine Keeps.trans ?_ ((noteArrival_steady _ _ _).keeps.trans (goodConsole_keeps _ _))
    split
    · exact (portError_steady _ _ _).keeps
    · exact .refl _
  · exact (noteArrival_steady _ _ _).keeps.trans (badConsole_keeps _)

/-! ## Events -/

/-- What an outcome leaves of the invariants. -/
def outcomeKeeps (s : State) (o : Outcome) : Prop := ∀ t, o = .next t → Keeps s t

theorem outcomeKeeps_next {s t : State} (h : Keeps s t) : outcomeKeeps s (.next t) := fun _ e => by cases e; exact h

theorem timeAt_steady (t : Nat) (s : State) : Steady s (timeAt t s) := setTimer_steady _ s

theorem seeCrew_steady (crew : Vector LineSample 4) (s : State) : Steady s (seeCrew crew s) := setPins_steady _ s

theorem advance_steady (elapsed : Nat) (s : State) : Steady s (advance elapsed s) := setTimer_steady _ s

theorem calibrationTimeLimit_steady (n : Fin 12) (s : State) (h : limitPasses s n = true) :
    Steady s ((s.mapChan n fun _ => (calibrate (s.limits n).1 (s.limits n).2 s.link.part (s.chan n) (s.lensOf n)).1).mapLens
      n fun _ => (calibrate (s.limits n).1 (s.limits n).2 s.link.part (s.chan n) (s.lensOf n)).2) := by
  have lens : (s.cond.chans[n]).desc.cls = .lens := by
    simp only [limitPasses, Bool.and_eq_true, Channel.isLens_iff] at h
    exact h.1.1.1.2
  generalize found : calibrate (s.limits n).1 (s.limits n).2 s.link.part (s.chan n) (s.lensOf n) = r
  have desc : r.1.desc = (s.cond.chans[n]).desc := by rw [← found]; exact calibrate_desc
  have placed : Steady s (s.mapChan n fun _ => r.1) := by
    refine ⟨id, fun m => ?_, fun m motion => ?_, rfl, rfl, id, id⟩
    · rw [State.mapChan_at]; split
      · subst m; exact desc
      · rfl
    · rw [State.mapChan_at, if_neg (by rintro rfl; rw [lens] at motion; cases motion)]
      exact ⟨rfl, rfl⟩
  exact placed.trans (mapLens_steady n _ _)

theorem queueRecord_steady (q : QueuedRecord) (s : State) : Steady s (queueRecord q s) := by
  unfold queueRecord; dsimp only; split
  · exact abortPlay_steady _ s
  · exact setTake_steady s _

theorem resetPart_keeps (s : State) : Keeps s (resetPart s) := by
  obtain ⟨staging, roles, list, loss, total, -⟩ := Proofs.reset_shaped
  exact ⟨fun _ => ⟨Nat.le_refl 256, fun used => absurd rfl used⟩,
    fun ⟨_, _, _, _, _, store⟩ => ⟨staging, roles, list, loss, total, store⟩⟩

theorem prefetch_keeps (errors : List WordRead) (s : State) : outcomeKeeps s (execPrefetchReadComplete errors s) := by
  unfold execPrefetchReadComplete; split
  case h_1 => exact outcomeKeeps_next (.refl s)
  case h_2 r _ =>
    refine outcomeKeeps_next (Steady.keeps ?_)
    have delivered : Steady s (s.setStore (deliver s.link.part errors r s.store).1) := .of_store _ fun h => by
      rw [TakeStore.wf, (deliver_mem _ _ _ _).1, (deliver_mem _ _ _ _).2]; exact h
    refine delivered.trans (Steady.trans ?_ (startRead_steady _))
    split
    · exact queueRecord_steady _ _
    · exact .refl _

/-- A choice between an effect and none. -/
theorem ite_keeps {p : Prop} [Decidable p] {s t : State} (h : p → Keeps s t) : Keeps s (if p then t else s) := by
  split
  · exact h ‹_›
  · exact .refl s

/-- Every row of the dispatcher keeps the axes inside and the shape. -/
theorem exec_keeps (i : Instr) (s : State) : outcomeKeeps s (exec i s) := by
  have served (j : Instr) (h : exec j s = .next (runRequest j s)) : outcomeKeeps s (exec j s) :=
    h ▸ outcomeKeeps_next (runRequest_keeps j s)
  cases i with
  | consoleFrameArrival elapsed clean bytes =>
    exact outcomeKeeps_next ((advance_steady elapsed s).keeps.trans (ite_keeps fun _ => consoleFrame_keeps _ _ _))
  | outboundFrameSent elapsed =>
    exact outcomeKeeps_next ((advance_steady elapsed s).trans (sendNext_steady _)).keeps
  | returnArrival elapsed crew clean bytes =>
    exact outcomeKeeps_next (((advance_steady elapsed s).trans (seeCrew_steady crew _)).keeps.trans
      (ite_keeps fun _ => returnFrame_keeps _ _ _))
  | crewLineRelease line =>
    refine outcomeKeeps_next (ite_keeps fun _ => ?_)
    exact (setZone_keeps (releaseLine line s.zone) s id).trans (setPins_steady _ _).keeps
  | returnTimeout =>
    unfold exec execReturnTimeout; dsimp only; split
    · exact outcomeKeeps_next (.refl s)
    · exact outcomeKeeps_next ((timeAt_steady _ s).trans (expireEntries_steady _)).keeps
  | feedbackLost =>
    unfold exec execFeedbackLost; dsimp only; split
    · exact outcomeKeeps_next (.refl s)
    · exact outcomeKeeps_next (ite_keeps fun _ => ((timeAt_steady _ s).trans (loseOldest_steady _)).keeps)
  | consoleSilenceTimeout =>
    unfold exec execConsoleSilenceTimeout; dsimp only; refine outcomeKeeps_next ?_; split
    · exact .refl s
    · exact ((timeAt_steady _ s).trans (settleDecision_steady _)).keeps.trans (goSilent_keeps _)
  | substPeriodElapsed =>
    exact outcomeKeeps_next (ite_keeps fun _ =>
      ((timeAt_steady _ s).trans (settleDecision_steady _)).keeps.trans (originateSubst_keeps _))
  | codeGroupReceived port valid =>
    unfold exec execCodeGroupReceived; dsimp only; refine outcomeKeeps_next ?_; split
    · exact (setRx_steady _ _ s).keeps
    · exact ((portError_steady _ _ s).trans (setRx_steady _ _ _)).keeps
  | linkFault port kind => exact outcomeKeeps_next (ite_keeps fun _ => (portError_steady _ _ s).keeps)
  | stopTimeout => exact outcomeKeeps_next (ite_keeps fun _ => (stopTick_steady s).keeps)
  | calibrationTimeLimit n =>
    exact outcomeKeeps_next (ite_keeps fun passes => (calibrationTimeLimit_steady n s passes).keeps)
  | playbackData => exact outcomeKeeps_next (ite_keeps fun _ => (playFrame_steady s).keeps)
  | armingDecision => exact outcomeKeeps_next (settleDecision_steady s).keeps
  | refPulse heldFor => exact outcomeKeeps_next (ite_keeps fun _ => (setTake_steady s _).keeps)
  | flywheelFrameStart => exact outcomeKeeps_next (ite_keeps fun _ => (placeAhead_steady s).keeps)
  | refLost => exact outcomeKeeps_next (ite_keeps fun _ => (placeAhead_steady s).keeps)
  | triggerEdge heldFor => exact outcomeKeeps_next (ite_keeps fun _ => (setTake_steady s _).keeps)
  | estopInOpen heldFor =>
    exact outcomeKeeps_next (ite_keeps fun _ => ((setPins_steady _ s).trans (takeCause_steady _ _)).keeps)
  | estopInClose heldFor => exact outcomeKeeps_next (ite_keeps fun _ => (setPins_steady _ s).keeps)
  | supplyWarnChange level => exact outcomeKeeps_next (ite_keeps fun _ => (setPins_steady _ s).keeps)
  | supplyFailAssert heldFor =>
    exact outcomeKeeps_next (ite_keeps fun _ => ((setPins_steady _ s).trans (takeCause_steady _ _)).keeps)
  | supplyFailDeassert heldFor => exact outcomeKeeps_next (ite_keeps fun _ => (setPins_steady _ s).keeps)
  | pinReset heldFor => exact outcomeKeeps_next (ite_keeps fun _ => resetPart_keeps s)
  | formatBlockTested errors differ =>
    exact outcomeKeeps_next (ite_keeps fun _ => (Steady.of_store _ (testBlock_wf _ _ _ _)).keeps)
  | prefetchReadComplete errors => exact prefetch_keeps errors s
  | _ => exact served _ rfl

/-- Every step keeps the axes inside and the shape. -/
theorem step_keeps {s t : State} (h : step s = .next t) : Keeps s t := by
  unfold step at h
  split at h
  · cases h; exact .refl s
  · exact (Steady.of_blocks (s := s) (t := s.setPending _)).keeps.trans (exec_keeps _ _ t h)

end Sys2Proof.Machine

namespace Sys2Proof.Proofs
open Sys2Proof.Machine Sys2Proof.Claims

/-- Settles O58: every operation is steady or keeps the axes inside, so every row of the dispatcher does. -/
theorem motionStaysInside : Obligations.MotionStaysInside := fun _ _ inside stepped => (step_keeps stepped).1 inside

/-- Settles O59: likewise for the shape. -/
theorem shapeKept : Obligations.ShapeKept := fun _ _ shape stepped => (step_keeps stepped).2 shape

end Sys2Proof.Proofs
end

section
/-! PROOFS. What causes taken in the outbound work leave, and what the supply of take values leaves. -/

namespace Sys2Proof.Machine
open Sys2Proof.Claims

/-! ## Causes that keep the mode -/

/-- A cause taken in LIVE leaves the mode (R65). -/
theorem takeCause_mode_live (c : Cause) {s : State} (live : s.mode.mode = .live) : (takeCause c s).mode = s.mode := by
  rw [takeCause_live c live]; simp [causeNoted]

/-- A controlled cause leaves the mode (R65, R197). -/
theorem takeCause_mode {c : Cause} (controlled : c.name.cls = .c) (s : State) : (takeCause c s).mode = s.mode := by
  cases mode : s.mode.mode with
  | parked => rw [takeCause_parked c mode]
  | live => exact takeCause_mode_live c mode
  | arming =>
    rw [takeCause_arming c mode, abortByCause]
    cases name : c.name <;> simp_all [CauseName.cls, causeNoted]

/-- A cause leaves the take engine, or begins a stop in it (R139, R149). -/
theorem takeCause_take_cases (c : Cause) (s : State) :
    (takeCause c s).take = s.take ∨
    (s.mode.mode = .live ∧ s.stop.safety = .normal ∧ (takeCause c s).take =
      { s.take with
        play := abortedIfActive .stop s.take.play, recording := interruptedRecording s.take.recording }) := by
  cases mode : s.mode.mode with
  | parked => rw [takeCause_parked c mode]; exact .inl rfl
  | arming => rw [takeCause_arming c mode]; exact .inl (by simp [causeNoted])
  | live =>
    by_cases normal : s.stop.safety = .normal
    · exact .inr ⟨rfl, normal, (Proofs.live_fromNormal c mode normal).2.1.trans (stopBegins_take s)⟩
    · exact .inl (Proofs.live_elsewhere c mode normal).2.1

@[simp] theorem takeCause_resumeCatch (c : Cause) (s : State) :
    (takeCause c s).cond.resumeCatch = s.cond.resumeCatch := by
  cases mode : s.mode.mode with
  | parked => rw [takeCause_parked c mode]
  | arming => rw [takeCause_arming c mode]; simp [causeNoted]
  | live =>
    by_cases normal : s.stop.safety = .normal
    · rw [(Proofs.live_fromNormal c mode normal).1]; exact stopBegins_resumeCatch s
    · rw [(Proofs.live_elsewhere c mode normal).1]

/-- A unit that awaits no cause stays as it is when one is handed to it (R159). -/
theorem takeCause_capture_kept (c : Cause) {s : State}
    (idle : s.capture.state ≠ .armed ∨ ∀ k, s.capture.condition = some k → k.kind ≠ .anyStop) :
    (takeCause c s).capture = s.capture := by
  by_cases parked : s.mode.mode = .parked
  · rw [takeCause_parked c parked]
  · rw [Proofs.noted_capture c parked]
    refine (handCause_testedFor c s).2 fun k m waits => ?_
    obtain ⟨armed, condition, kind, -⟩ := waits
    rcases idle with h | h
    · exact absurd armed h
    · exact absurd kind (h k condition)

/-! ## Controlled causes one after the other -/

/-- What a later controlled cause leaves as it was (R66). -/
structure StopStands (s t : State) : Prop where
  cond : t.cond = s.cond
  take : t.take = s.take
  store : t.store = s.store
  lens : t.lens = s.lens
  mode : t.mode = s.mode
  safety : t.stop.safety = s.stop.safety
  timer : t.stop.stopTimer = s.stop.stopTimer
  limit : t.stop.stopLimit = s.stop.stopLimit

theorem StopStands.refl (s : State) : StopStands s s := ⟨rfl, rfl, rfl, rfl, rfl, rfl, rfl, rfl⟩

theorem StopStands.trans {s t u : State} (h : StopStands s t) (g : StopStands t u) : StopStands s u :=
  ⟨g.cond.trans h.cond, g.take.trans h.take, g.store.trans h.store, g.lens.trans h.lens, g.mode.trans h.mode,
    g.safety.trans h.safety, g.timer.trans h.timer, g.limit.trans h.limit⟩

/-- A controlled cause in a LIVE crane that is not in NORMAL (R66, R69). -/
theorem takeCause_stands {c : Cause} {s : State} (controlled : c.name.cls = .c) (live : s.mode.mode = .live)
    (stopped : s.stop.safety ≠ .normal) : StopStands s (takeCause c s) := by
  obtain ⟨cond, take, store⟩ := Proofs.live_elsewhere c live stopped
  have mode := takeCause_mode controlled s
  by_cases dropped : s.stop.safety = .dropped
  · rw [takeCause_dropped c live dropped] at *
    exact ⟨cond, take, store, rfl, mode, rfl, rfl, rfl⟩
  · have later : s.stop.safety = .stopping ∨ s.stop.safety = .held := by cases h : s.stop.safety <;> simp_all
    rw [takeCause_later live controlled later] at *
    refine ⟨cond, take, store, by simp [causeNoted], mode, ?_, ?_, ?_⟩ <;> rw [laterSoft_stop] <;> rfl

theorem takeCauses_stands {cs : List Cause} (controlled : ∀ c ∈ cs, c.name.cls = .c) {s : State}
    (live : s.mode.mode = .live) (stopped : s.stop.safety ≠ .normal) : StopStands s (takeCauses cs s) := by
  induction cs generalizing s with
  | nil => exact .refl s
  | cons c cs ih =>
    have first := takeCause_stands (controlled c List.mem_cons_self) live stopped
    exact first.trans (ih (fun d hd => controlled d (List.mem_cons_of_mem c hd)) (by rw [first.mode]; exact live)
      (by rw [first.safety]; exact stopped))

/-- Controlled causes that find a LIVE crane in NORMAL begin one stop (R67, R139, R149). -/
theorem takeCauses_begins {cs : List Cause} (controlled : ∀ c ∈ cs, c.name.cls = .c) (some_ : cs ≠ []) {s : State}
    (live : s.mode.mode = .live) (normal : s.stop.safety = .normal) :
    (takeCauses cs s).cond = (stopBegins s).cond ∧ (takeCauses cs s).take = (stopBegins s).take ∧
    (takeCauses cs s).store = (stopBegins s).store ∧ (takeCauses cs s).lens = s.lens ∧
    (takeCauses cs s).mode = s.mode ∧ (takeCauses cs s).stop.safety = .stopping ∧
    (takeCauses cs s).stop.stopTimer = 0 := by
  cases cs with
  | nil => exact absurd rfl some_
  | cons c cs =>
    have ctl := controlled c List.mem_cons_self
    obtain ⟨cond, take, store⟩ := Proofs.live_fromNormal c live normal
    have mode := takeCause_mode ctl s
    have begun := takeCause_controlled live ctl normal
    have stop : (takeCause c s).stop.safety = .stopping ∧ (takeCause c s).stop.stopTimer = 0 := by
      rw [begun, enterStopping_stop]; exact ⟨rfl, rfl⟩
    have lens : (takeCause c s).lens = s.lens := by
      rw [begun]; simp [enterStopping, causeNoted]
    have rest := takeCauses_stands (fun d hd => controlled d (List.mem_cons_of_mem c hd)) (s := takeCause c s)
      (by rw [mode]; exact live) (by rw [stop.1]; decide)
    exact ⟨rest.cond.trans cond, rest.take.trans take, rest.store.trans store, rest.lens.trans lens,
      rest.mode.trans mode, rest.safety.trans stop.1, rest.timer.trans stop.2⟩

theorem takeCauses_capture_kept (cs : List Cause) {s : State}
    (idle : s.capture.state ≠ .armed ∨ ∀ k, s.capture.condition = some k → k.kind ≠ .anyStop) :
    (takeCauses cs s).capture = s.capture := by
  induction cs generalizing s with
  | nil => rfl
  | cons c cs ih =>
    have kept := takeCause_capture_kept c idle
    exact (ih (by rw [kept]; exact idle)).trans kept

/-! ## The supply of take values -/

/-- What the work on a frame leaves of a playback, whatever becomes of its state. -/
def playStands (p q : Playback) : Prop :=
  q.mask = p.mask ∧ q.entry = p.entry ∧ q.mapChanged = p.mapChanged ∧ q.take = p.take ∧ q.cueRecord = p.cueRecord

theorem playStands.trans {p q r : Playback} (h : playStands p q) (g : playStands q r) : playStands p r := by
  obtain ⟨a, b, c, d, e⟩ := h
  obtain ⟨a', b', c', d', e'⟩ := g
  exact ⟨a'.trans a, b'.trans b, c'.trans c, d'.trans d, e'.trans e⟩

theorem abortedIfActive_stands (reason : AbortReason) (p : Playback) : playStands p (abortedIfActive reason p) := by
  unfold abortedIfActive; split <;> exact ⟨rfl, rfl, rfl, rfl, rfl⟩

theorem takeCause_playStands (c : Cause) (s : State) :
    playStands s.take.play (takeCause c s).take.play ∧ (takeCause c s).take.cueScaleNow = s.take.cueScaleNow := by
  rcases takeCause_take_cases c s with h | ⟨-, -, h⟩ <;> rw [h]
  · exact ⟨⟨rfl, rfl, rfl, rfl, rfl⟩, rfl⟩
  · exact ⟨abortedIfActive_stands _ _, rfl⟩

theorem startRead_play (s : State) :
    ∃ k, (startRead s).take = { s.take with play := { s.take.play with nextRead := k } } := by
  unfold startRead; dsimp only; split
  · exact ⟨_, rfl⟩
  · exact ⟨s.take.play.nextRead, rfl⟩

/-- The playback of a RUNNING frame once its record is used and the next read begun, before the third fault's cause
(R146 to R148). -/
def playAdvanced (s : State) : State :=
  startRead (s.setTake { s.take with play := useRecord (advancePlay s.take.play) })

theorem playFrame_eq (s : State) :
    playFrame s =
      if (useRecord (advancePlay s.take.play)).faultRun = 3 then
        takeCause (playbackDataCause (useRecord (advancePlay s.take.play))) (playAdvanced s)
      else playAdvanced s := rfl

theorem playAdvanced_stands (s : State) :
    playStands s.take.play (playAdvanced s).take.play ∧ (playAdvanced s).take.cueScaleNow = s.take.cueScaleNow := by
  obtain ⟨k, h⟩ := startRead_play (s.setTake { s.take with play := useRecord (advancePlay s.take.play) })
  unfold playAdvanced
  rw [h]
  simp [playStands, advancePlay]

/-- What the supply leaves as it was. -/
theorem supply_stands (s : State) :
    (supply s).1.mode = s.mode ∧ (supply s).1.cond.resumeCatch = s.cond.resumeCatch ∧
    playStands s.take.play (supply s).1.take.play ∧ (supply s).1.take.cueScaleNow = s.take.cueScaleNow := by
  unfold supply; dsimp only; split
  · rw [playFrame_eq]
    obtain ⟨play, scale⟩ := playAdvanced_stands s
    have mode : (playAdvanced s).mode = s.mode ∧ (playAdvanced s).cond = s.cond := by simp [playAdvanced]
    split
    · obtain ⟨play', scale'⟩ := takeCause_playStands
        (playbackDataCause (useRecord (advancePlay s.take.play))) (playAdvanced s)
      dsimp only
      rw [takeCause_mode rfl, takeCause_resumeCatch, mode.1, mode.2]
      exact ⟨rfl, rfl, play.trans play', scale'.trans scale⟩
    · exact ⟨mode.1, by rw [mode.2], play, scale⟩
  · split <;> exact ⟨rfl, rfl, ⟨rfl, rfl, rfl, rfl, rfl⟩, rfl⟩
  · split <;> exact ⟨rfl, rfl, ⟨rfl, rfl, rfl, rfl, rfl⟩, rfl⟩
  · exact ⟨rfl, rfl, ⟨rfl, rfl, rfl, rfl, rfl⟩, rfl⟩

/-! ## The value of a channel among those of a mask -/

/-- How many channels of a mask come before channel n (section 10.6). -/
def placeIn (mask : BitVec 12) (n : Fin 12) : Nat :=
  ((List.finRange 12).filter fun m => decide (m < n) && mask.getLsbD m.val).length

/-- The value looked up by channel stands at the channel's place in the list. -/
theorem lookup_zip {α : Type} (l : List (Fin 12)) (vs : List α) (n : Fin 12) (rises : l.Pairwise (· < ·)) :
    (l.zip vs).lookup n = if n ∈ l then vs[(l.filter fun m => decide (m < n)).length]? else none := by
  induction l generalizing vs with
  | nil => rfl
  | cons m l ih =>
    obtain ⟨above, rises⟩ := List.pairwise_cons.1 rises
    cases vs with
    | nil => simp
    | cons v vs =>
      rw [List.zip_cons_cons, List.lookup_cons]
      by_cases here : n = m
      · subst here
        have before : (l.filter fun k => decide (k < n)) = [] :=
          List.filter_eq_nil_iff.2 fun k hk => by simpa using Fin.le_of_lt (above k hk)
        simp [before]
      · have apart : (n == m) = false := by simpa using here
        rw [apart]
        simp only [ih vs rises, List.mem_cons, here, false_or]
        by_cases inside : n ∈ l
        · simp [inside, above n inside]
        · simp [inside]

theorem valueFor_eq (mask : BitVec 12) (values : Option (List Int)) (n : Fin 12) :
    valueFor mask values n = match values with
      | none => none
      | some vs => if mask.getLsbD n.val = true then vs[placeIn mask n]? else none := by
  unfold valueFor
  cases values with
  | none => rfl
  | some vs =>
    have rises : (maskChannels mask).Pairwise (· < ·) := List.Pairwise.filter _ (List.pairwise_lt_finRange 12)
    have named : n ∈ maskChannels mask ↔ mask.getLsbD n.val = true := by simp [maskChannels, inMask]
    have place : ((maskChannels mask).filter fun m => decide (m < n)).length = placeIn mask n := by
      rw [maskChannels, List.filter_filter, placeIn]; rfl
    dsimp only
    rw [lookup_zip _ _ _ rises, place]
    simp only [named]

end Sys2Proof.Machine
end

section
/-! PROOFS. The hand-on of a conditioned frame (R12): its record, its tests, the cue test, the map swap, the causes of its
limits and the stop timer, one after the other. -/

namespace Sys2Proof.Machine
open Sys2Proof.Claims

/-! ## The conditioned entries stored -/

theorem storeConditioned_take (r : Vector Conditioned 12) (s : State) :
    (storeConditioned r s).take = { s.take with play := { s.take.play with
      mapChanged := s.take.play.mapChanged || r.toList.any Conditioned.mapChanged } } := by
  unfold storeConditioned; dsimp only; split
  case isTrue h => rw [h, Bool.or_true]; rfl
  case isFalse h => rw [Bool.eq_false_iff.2 h, Bool.or_false]; rfl

theorem storeConditioned_resumeCatch (r : Vector Conditioned 12) (s : State) :
    (storeConditioned r s).cond.resumeCatch = true ↔
      s.cond.resumeCatch = true ∧ ¬ (s.mode.mode = .live ∧ s.stop.safety = .normal) := by
  have stored : (storeConditioned r s).cond.resumeCatch =
      (s.cond.resumeCatch && !(s.mode.mode == .live && s.stop.safety == .normal)) := by
    unfold storeConditioned; dsimp only; split <;> rfl
  rw [stored]; simp [imp_iff_not_or]

theorem any_iff (r : Vector Conditioned 12) (p : Conditioned → Bool) :
    r.toList.any p = true ↔ ∃ n : Fin 12, p r[n] = true := by
  simp only [List.any_eq_true, Vector.mem_toList_iff, Vector.mem_iff_getElem]
  constructor
  · rintro ⟨x, ⟨i, hi, rfl⟩, h⟩; exact ⟨⟨i, hi⟩, h⟩
  · rintro ⟨n, h⟩; exact ⟨_, ⟨n.val, n.isLt, rfl⟩, h⟩

/-! ## The limits hit -/

/-- Some channel of the frame hit a limit (R23, R24). -/
def someHit (r : Vector Conditioned 12) : Prop := ∃ n : Fin 12, (r[n]).hit = true

theorem limitHits_nil_iff (r : Vector Conditioned 12) : limitHits r = [] ↔ ¬ someHit r := by
  unfold limitHits someHit
  rw [List.map_eq_nil_iff, List.filter_eq_nil_iff]
  simp

theorem limitHits_controlled (r : Vector Conditioned 12) : ∀ c ∈ limitHits r, c.name.cls = .c := by
  intro c hc
  obtain ⟨n, -, rfl⟩ := List.mem_map.1 hc
  rfl

theorem cutByLimit_iff {r : Vector Conditioned 12} {s : State} (h : cutByLimit r s = true) :
    someHit r ∧ s.stop.safety = .normal := by
  simp only [cutByLimit, Bool.and_eq_true, Bool.not_eq_true', beq_iff_eq] at h
  obtain ⟨hits, normal, -⟩ := h
  refine ⟨not_not.1 fun none_ => ?_, normal⟩
  rw [(limitHits_nil_iff r).2 none_] at hits; cases hits

/-! ## What is handed on before the causes -/

/-- The frame handed on but for the causes of its limits and the stop timer. -/
def handedOn (cut : Bool) (pl : Placement) (timecode : Word) (index : Option Nat) (s : State) : State :=
  swapMaps (playHandOn (outputTests index timecode (appendFrame cut pl timecode s)))

/-- The index the frame gives the TAKE_INDEX condition (R159). -/
def handedIndex (cut : Bool) (pl : Placement) (timecode : Word) (s : State) : Option Nat :=
  takeIndexOf s.take.recording
    (decide ((s.store.dir[s.take.recording.entry]).length <
      ((appendFrame cut pl timecode s).store.dir[s.take.recording.entry]).length))
    (appendFrame cut pl timecode s).take.play

/-- The frame handed on up to the stop timer. -/
def handedCauses (pl : Placement) (timecode : Word) (r : Vector Conditioned 12) (s : State) : State :=
  takeCauses (limitHits r)
    (handedOn (cutByLimit r s) pl timecode (handedIndex (cutByLimit r s) pl timecode s) s)

theorem handOn_eq (pl : Placement) (timecode : Word) (stopping : Bool) (r : Vector Conditioned 12) (s : State) :
    handOn pl timecode stopping r s =
      if stopping = true ∧ (handedCauses pl timecode r s).stop.safety = .stopping then
        stopTick (handedCauses pl timecode r s)
      else handedCauses pl timecode r s := rfl

section
variable (cut : Bool) (pl : Placement) (timecode : Word) (index : Option Nat) (s : State)

theorem handedOn_blocks :
    (handedOn cut pl timecode index s).cond = s.cond ∧ (handedOn cut pl timecode index s).mode = s.mode ∧
    (handedOn cut pl timecode index s).stop = s.stop ∧ (handedOn cut pl timecode index s).link = s.link ∧
    (handedOn cut pl timecode index s).capture =
      (outputTests index timecode (appendFrame cut pl timecode s)).capture := by
  simp [handedOn]

theorem playHandOn_recording (s : State) : (playHandOn s).take.recording = s.take.recording := by
  unfold playHandOn; dsimp only; (repeat' split) <;> rfl

theorem playHandOn_store (s : State) : (playHandOn s).store = { s.store with reading := (playHandOn s).store.reading } := by
  unfold playHandOn; dsimp only; (repeat' split) <;> rfl

theorem playHandOn_stands (s : State) : playStands s.take.play (playHandOn s).take.play := by
  unfold playHandOn; dsimp only; (repeat' split) <;> exact ⟨rfl, rfl, rfl, rfl, rfl⟩

theorem handedOn_recording :
    (handedOn cut pl timecode index s).take.recording = (appendFrame cut pl timecode s).take.recording := by
  simp only [handedOn, swapMaps_frame, playHandOn_recording, outputTests_frame]

theorem handedOn_store :
    (handedOn cut pl timecode index s).store =
      { (appendFrame cut pl timecode s).store with reading := (handedOn cut pl timecode index s).store.reading } := by
  have kept := playHandOn_store (outputTests index timecode (appendFrame cut pl timecode s))
  simp only [outputTests_frame] at kept
  simp only [handedOn, swapMaps_frame]
  exact kept

theorem appendFrame_play : (appendFrame cut pl timecode s).take.play = s.take.play := by
  unfold appendFrame; dsimp only; (repeat' split) <;> rfl

theorem handedOn_play_stands : playStands s.take.play (handedOn cut pl timecode index s).take.play := by
  have stands := playHandOn_stands (outputTests index timecode (appendFrame cut pl timecode s))
  simp only [outputTests_frame, appendFrame_play] at stands
  simp only [handedOn, swapMaps_frame]
  exact stands

/-- A due map swapped in (R96). -/
theorem swapMap_eq (l : LensChannel) :
    swapMap l = match l.pending with
      | none => l
      | some m => { l with
          active := some m, pending := none
          result := l.result.map fun x => { x with fit := fitOf (some m) x.foundMin x.foundMax } } := by
  unfold swapMap
  cases l.pending with
  | none => rfl
  | some m =>
    have fit (a b : Int) : mapFitOf (some m) a b = fitOf (some m) a b := by
      simp only [mapFitOf, fitOf, List.all_eq_true, Bool.and_eq_true, decide_eq_true_eq]
    simp only [fit]

theorem handedOn_lens (n : Fin 12) :
    (handedOn cut pl timecode index s).lens[n] =
      if (s.cond.chans[n]).desc.cls = .lens ∧ (s.cond.chans[n]).outVel = 0 ∧ (s.lens[n]).calibrating = false then
        swapMap s.lens[n]
      else s.lens[n] := by
  have swapped (u : State) : (swapMaps u).lens[n] =
      if (u.cond.chans[n]).desc.cls = .lens ∧ (u.cond.chans[n]).outVel = 0 ∧ (u.lens[n]).calibrating = false then
        swapMap u.lens[n]
      else u.lens[n] := by
    refine (State.mapAllLens_at _ _ _).trans ?_
    simp only [State.chan, Bool.and_eq_true, Channel.isLens_iff, beq_iff_eq, Bool.not_eq_true', and_assoc]
  rw [handedOn, swapped]
  simp only [playHandOn_frame, outputTests_frame, appendFrame_frame]

end

/-! ## The causes of the limits -/

section
variable {pl : Placement} {timecode : Word} {r : Vector Conditioned 12} {s : State}

/-- Where no limit is hit nothing follows. -/
theorem handedCauses_none (h : ¬ someHit r) :
    handedCauses pl timecode r s = handedOn false pl timecode (handedIndex false pl timecode s) s := by
  have whole : cutByLimit r s = false := Bool.eq_false_iff.2 fun cut => h (cutByLimit_iff cut).1
  unfold handedCauses
  rw [whole, (limitHits_nil_iff r).2 h]; rfl

/-- Where no stop begins, what the frame handed on stands (R66). -/
theorem handedCauses_stands (quiet : someHit r → s.mode.mode = .live ∧ s.stop.safety ≠ .normal) :
    StopStands (handedOn false pl timecode (handedIndex false pl timecode s) s) (handedCauses pl timecode r s) := by
  by_cases hit : someHit r
  · obtain ⟨live, stopped⟩ := quiet hit
    have whole : cutByLimit r s = false := Bool.eq_false_iff.2 fun cut => stopped (cutByLimit_iff cut).2
    obtain ⟨-, mode, stop, -⟩ := handedOn_blocks false pl timecode (handedIndex false pl timecode s) s
    unfold handedCauses
    rw [whole]
    exact takeCauses_stands (limitHits_controlled r) (by rw [mode]; exact live) (by rw [stop]; exact stopped)
  · rw [handedCauses_none hit]; exact .refl _

end

/-! ## The stop timer -/

theorem motionAtRest_all (s : State) :
    motionAtRest s = true ↔ ∀ n : Fin 12, (s.cond.chans[n]).desc.cls = .motion → (s.cond.chans[n]).outVel = 0 := by
  rw [motionAtRest_iff]; simp only [not_exists, not_and, not_not]

/-- The stop timer's step where every MOTION channel rests (R70). -/
theorem stopTick_rests {s : State} (rest : motionAtRest s = true) :
    stopTick s = s.setStop { s.stop with safety := .held, stopTimer := satSucc 65535 s.stop.stopTimer } := by
  unfold stopTick
  exact if_pos rest

/-- The stop timer's step below its limit (R71). -/
theorem stopTick_waits {s : State} (moves : ¬ motionAtRest s = true)
    (below : satSucc 65535 s.stop.stopTimer < s.stop.stopLimit) :
    stopTick s = s.setStop { s.stop with stopTimer := satSucc 65535 s.stop.stopTimer } := by
  unfold stopTick
  exact (if_neg moves).trans (if_neg (Nat.not_le.2 below))

/-- The stop timer's step at its limit (R71). -/
theorem stopTick_timesOut {s : State} (moves : ¬ motionAtRest s = true)
    (late : s.stop.stopLimit ≤ satSucc 65535 s.stop.stopTimer) :
    stopTick s = takeCause (plainCause .stopTimeout)
      (s.setStop { s.stop with stopTimer := satSucc 65535 s.stop.stopTimer }) := by
  unfold stopTick
  exact (if_neg moves).trans (if_pos late)

/-- What the stop timer's step in STOPPING does to a LIVE crane (R70, R71). -/
theorem stopTick_live {s : State} (live : s.mode.mode = .live) (stopping : s.stop.safety = .stopping) :
    (stopTick s).cond = s.cond ∧ (stopTick s).take = s.take ∧ (stopTick s).store = s.store ∧
    (stopTick s).mode = s.mode ∧ (stopTick s).stop.stopTimer = satSucc 65535 s.stop.stopTimer ∧
    ((stopTick s).stop.safety ≠ .dropped → (stopTick s).lens = s.lens ∧ (stopTick s).capture = s.capture) ∧
    (stopTick s).stop.safety =
      if motionAtRest s = true then .held
      else if s.stop.stopLimit ≤ satSucc 65535 s.stop.stopTimer then .dropped else .stopping := by
  by_cases rest : motionAtRest s = true
  · rw [stopTick_rests rest, if_pos rest]
    exact ⟨rfl, rfl, rfl, rfl, rfl, fun _ => ⟨rfl, rfl⟩, rfl⟩
  · rw [if_neg rest]
    by_cases late : s.stop.stopLimit ≤ satSucc 65535 s.stop.stopTimer
    · rw [stopTick_timesOut rest late, if_pos late]
      generalize ticked : s.setStop { s.stop with stopTimer := satSucc 65535 s.stop.stopTimer } = u
      have ulive : u.mode.mode = .live := by rw [← ticked]; exact live
      have ustop : u.stop.safety = .stopping := by rw [← ticked]; exact stopping
      obtain ⟨cond, take, store⟩ := Proofs.live_elsewhere (plainCause .stopTimeout) ulive (by rw [ustop]; decide)
      have dropped := takeCause_immediate (c := plainCause .stopTimeout) ulive rfl (by rw [ustop]; decide)
      have stop : (takeCause (plainCause .stopTimeout) u).stop.safety = .dropped ∧
          (takeCause (plainCause .stopTimeout) u).stop.stopTimer = u.stop.stopTimer := by
        rw [dropped, enterDropped_stop]; exact ⟨rfl, rfl⟩
      refine ⟨cond.trans ?_, take.trans ?_, store.trans ?_, (takeCause_mode_live _ ulive).trans ?_, stop.2.trans ?_,
        fun up => absurd stop.1 up, stop.1⟩ <;> rw [← ticked] <;> rfl
    · rw [stopTick_waits rest (Nat.not_le.1 late), if_neg late]
      exact ⟨rfl, rfl, rfl, rfl, rfl, fun _ => ⟨rfl, rfl⟩, stopping⟩

end Sys2Proof.Machine
end

section
/-! PROOFS. The outbound work as a whole (R12 to R27): the hand-on by the safety state the frame finds, the slots, and the
settled statement. -/

namespace Sys2Proof.Machine
open Sys2Proof.Claims

/-! ## The hand-on by the safety state -/

/-- Whether the frame is conditioned in STOPPING (R70). -/
def stoppingNow (s : State) : Bool := s.mode.mode == .live && s.stop.safety == .stopping

theorem stoppingNow_iff (s : State) : stoppingNow s = true ↔ s.mode.mode = .live ∧ s.stop.safety = .stopping := by
  simp [stoppingNow]

section
variable {pl : Placement} {timecode : Word} {r : Vector Conditioned 12} {s : State}

/-- The frame handed on whole, but for the causes of its limits and the stop timer. -/
abbrev handedWhole (pl : Placement) (timecode : Word) (s : State) : State :=
  handedOn false pl timecode (handedIndex false pl timecode s) s

theorem handedCauses_live (limits : someHit r → s.mode.mode = .live) (stopped : s.stop.safety ≠ .normal) :
    StopStands (handedWhole pl timecode s) (handedCauses pl timecode r s) :=
  handedCauses_stands fun hit => ⟨limits hit, stopped⟩

/-- The hand-on of a frame that was not conditioned in STOPPING. -/
theorem handOn_away (away : stoppingNow s = false) :
    handOn pl timecode (stoppingNow s) r s = handedCauses pl timecode r s := by
  rw [handOn_eq, away]; exact if_neg nofun

/-- The hand-on of a frame conditioned in STOPPING (R70). -/
theorem handOn_stopping (limits : someHit r → s.mode.mode = .live) (stopping : stoppingNow s = true) :
    handOn pl timecode (stoppingNow s) r s = stopTick (handedCauses pl timecode r s) := by
  obtain ⟨-, safety⟩ := (stoppingNow_iff s).1 stopping
  have stands := handedCauses_live (pl := pl) (timecode := timecode) limits (by rw [safety]; decide)
  obtain ⟨-, -, stop, -⟩ := handedOn_blocks false pl timecode (handedIndex false pl timecode s) s
  rw [handOn_eq]
  exact if_pos ⟨stopping, by rw [stands.safety, stop]; exact safety⟩

/-- A frame that begins no stop: the channels, the take engine and the store are as handed on. -/
theorem handOn_quiet (limits : someHit r → s.mode.mode = .live) (quiet : s.stop.safety ≠ .normal ∨ ¬ someHit r) :
    (handOn pl timecode (stoppingNow s) r s).cond = s.cond ∧
    (handOn pl timecode (stoppingNow s) r s).take = (handedWhole pl timecode s).take ∧
    (handOn pl timecode (stoppingNow s) r s).store = (handedWhole pl timecode s).store := by
  obtain ⟨cond, mode, stop, -⟩ := handedOn_blocks false pl timecode (handedIndex false pl timecode s) s
  have stands : StopStands (handedWhole pl timecode s) (handedCauses pl timecode r s) :=
    handedCauses_stands fun hit => ⟨limits hit, quiet.resolve_right (not_not.2 hit)⟩
  rcases Bool.eq_false_or_eq_true (stoppingNow s) with stopping | stopping
  · obtain ⟨live, safety⟩ := (stoppingNow_iff s).1 stopping
    rw [handOn_stopping limits stopping]
    obtain ⟨cond', take, store, -⟩ := stopTick_live (s := handedCauses pl timecode r s)
      (by rw [stands.mode, mode]; exact live) (by rw [stands.safety, stop]; exact safety)
    exact ⟨(cond'.trans stands.cond).trans cond, take.trans stands.take, store.trans stands.store⟩
  · rw [handOn_away stopping]
    exact ⟨stands.cond.trans cond, stands.take, stands.store⟩

/-- A frame in NORMAL whose limit is hit begins a stop (R23, R67). -/
theorem handOn_begins (hit : someHit r) (live : s.mode.mode = .live) (normal : s.stop.safety = .normal) :
    ∃ h : State, h = handedOn (cutByLimit r s) pl timecode (handedIndex (cutByLimit r s) pl timecode s) s ∧
    (handOn pl timecode (stoppingNow s) r s).cond = (stopBegins h).cond ∧
    (handOn pl timecode (stoppingNow s) r s).take = (stopBegins h).take ∧
    (handOn pl timecode (stoppingNow s) r s).lens = h.lens ∧
    (handOn pl timecode (stoppingNow s) r s).mode = s.mode ∧
    (handOn pl timecode (stoppingNow s) r s).stop.safety = .stopping ∧
    (handOn pl timecode (stoppingNow s) r s).stop.stopTimer = 0 := by
  obtain ⟨-, mode, stop, -⟩ := handedOn_blocks (cutByLimit r s) pl timecode (handedIndex (cutByLimit r s) pl timecode s) s
  have away : stoppingNow s = false := by simp [stoppingNow, normal]
  obtain ⟨cond, take, -, lens, mode', safety, timer⟩ := takeCauses_begins (limitHits_controlled r)
    (fun none_ => (limitHits_nil_iff r).1 none_ hit) (by rw [mode]; exact live) (by rw [stop]; exact normal)
  rw [handOn_away away]
  exact ⟨_, rfl, cond, take, lens, mode'.trans mode, safety, timer⟩

theorem handOn_mode (limits : someHit r → s.mode.mode = .live) :
    (handOn pl timecode (stoppingNow s) r s).mode = s.mode := by
  have causes : (handedCauses pl timecode r s).mode = s.mode := by
    have kept (cs : List Cause) (controlled : ∀ c ∈ cs, c.name.cls = .c) (u : State) :
        (takeCauses cs u).mode = u.mode := by
      induction cs generalizing u with
      | nil => rfl
      | cons c cs ih =>
        exact (ih (fun d hd => controlled d (List.mem_cons_of_mem c hd)) _).trans
          (takeCause_mode (controlled c List.mem_cons_self) u)
    exact (kept _ (limitHits_controlled r) _).trans (handedOn_blocks _ _ _ _ _).2.1
  rcases Bool.eq_false_or_eq_true (stoppingNow s) with stopping | stopping
  · obtain ⟨live, safety⟩ := (stoppingNow_iff s).1 stopping
    have stands := handedCauses_live (pl := pl) (timecode := timecode) limits (by rw [safety]; decide)
    obtain ⟨-, -, stop, -⟩ := handedOn_blocks false pl timecode (handedIndex false pl timecode s) s
    rw [handOn_stopping limits stopping]
    obtain ⟨-, -, -, mode, -⟩ := stopTick_live (s := handedCauses pl timecode r s)
      (by rw [causes]; exact live) (by rw [stands.safety, stop]; exact safety)
    exact mode.trans causes
  · rw [handOn_away stopping]; exact causes

/-- The maps that are due are swapped in, unless the drives drop at this frame (R68, R96). -/
theorem handOn_lens (limits : someHit r → s.mode.mode = .live)
    (up : (handOn pl timecode (stoppingNow s) r s).stop.safety ≠ .dropped ∨ s.stop.safety = .dropped) (n : Fin 12) :
    (handOn pl timecode (stoppingNow s) r s).lens[n] =
      if (s.cond.chans[n]).desc.cls = .lens ∧ (s.cond.chans[n]).outVel = 0 ∧ (s.lens[n]).calibrating = false then
        swapMap s.lens[n]
      else s.lens[n] := by
  by_cases begins : someHit r ∧ s.stop.safety = .normal
  · obtain ⟨h, rfl, -, -, lens, -⟩ := handOn_begins (pl := pl) (timecode := timecode) begins.1 (limits begins.1) begins.2
    rw [lens]; exact handedOn_lens _ _ _ _ _ n
  · have stands : StopStands (handedWhole pl timecode s) (handedCauses pl timecode r s) :=
      handedCauses_stands fun hit => ⟨limits hit, fun normal => begins ⟨hit, normal⟩⟩
    rcases Bool.eq_false_or_eq_true (stoppingNow s) with stopping | stopping
    · obtain ⟨live, safety⟩ := (stoppingNow_iff s).1 stopping
      obtain ⟨-, mode, stop, -⟩ := handedOn_blocks false pl timecode (handedIndex false pl timecode s) s
      rw [handOn_stopping limits stopping] at up
      rw [handOn_stopping limits stopping]
      obtain ⟨-, -, -, -, -, kept, -⟩ := stopTick_live (s := handedCauses pl timecode r s)
        (by rw [stands.mode, mode]; exact live) (by rw [stands.safety, stop]; exact safety)
      rw [(kept (up.resolve_right (by rw [safety]; decide))).1, stands.lens]
      exact handedOn_lens _ _ _ _ _ n
    · rw [handOn_away stopping, stands.lens]; exact handedOn_lens _ _ _ _ _ n

/-- Without a hit and outside STOPPING the Stop Controller stands. -/
theorem handOn_stop (quiet : ¬ someHit r) (away : stoppingNow s = false) :
    (handOn pl timecode (stoppingNow s) r s).stop = s.stop := by
  rw [handOn_away away, handedCauses_none quiet]
  exact (handedOn_blocks _ _ _ _ _).2.2.1

/-- The stop timer and the tests of R70 and R71. -/
theorem handOn_ticks (limits : someHit r → s.mode.mode = .live) (live : s.mode.mode = .live)
    (safety : s.stop.safety = .stopping) :
    (handOn pl timecode (stoppingNow s) r s).stop.stopTimer = satSucc 65535 s.stop.stopTimer ∧
    (handOn pl timecode (stoppingNow s) r s).stop.safety =
      if motionAtRest s = true then .held
      else if s.stop.stopLimit ≤ satSucc 65535 s.stop.stopTimer then .dropped else .stopping := by
  have stands := handedCauses_live (pl := pl) (timecode := timecode) limits (by rw [safety]; decide)
  obtain ⟨cond, mode, stop, -⟩ := handedOn_blocks false pl timecode (handedIndex false pl timecode s) s
  rw [handOn_stopping limits ((stoppingNow_iff s).2 ⟨live, safety⟩)]
  obtain ⟨-, -, -, -, timer, -, safe⟩ := stopTick_live (s := handedCauses pl timecode r s)
    (by rw [stands.mode, mode]; exact live) (by rw [stands.safety, stop]; exact safety)
  have rests : motionAtRest (handedCauses pl timecode r s) = motionAtRest s := by
    rw [Bool.eq_iff_iff, motionAtRest_all, motionAtRest_all, stands.cond, cond]
  rw [stands.timer, stop] at timer
  rw [rests, stands.timer, stands.limit, stop] at safe
  exact ⟨timer, safe⟩

/-! ## The Capture Unit's tests at the hand-on -/

theorem stopTick_capture_kept {s : State}
    (idle : s.capture.state ≠ .armed ∨ ∀ k, s.capture.condition = some k → k.kind ≠ .anyStop) :
    (stopTick s).capture = s.capture := by
  by_cases rest : motionAtRest s = true
  · rw [stopTick_rests rest]; rfl
  · by_cases late : s.stop.stopLimit ≤ satSucc 65535 s.stop.stopTimer
    · rw [stopTick_timesOut rest late]; exact takeCause_capture_kept _ idle
    · rw [stopTick_waits rest (Nat.not_le.1 late)]; rfl

/-- The unit as the outbound tests leave it. -/
def handedUnit (pl : Placement) (timecode : Word) (r : Vector Conditioned 12) (s : State) : CaptureUnit :=
  (outputTests (handedIndex (cutByLimit r s) pl timecode s) timecode (appendFrame (cutByLimit r s) pl timecode s)).capture

theorem handOn_capture (limits : someHit r → s.mode.mode = .live) :
    (¬ someHit r → (s.stop.safety = .stopping → (handOn pl timecode (stoppingNow s) r s).stop.safety ≠ .dropped) →
      (handOn pl timecode (stoppingNow s) r s).capture = handedUnit pl timecode r s) ∧
    ((handedUnit pl timecode r s).state ≠ .armed ∨
        (∀ k, (handedUnit pl timecode r s).condition = some k → k.kind ≠ .anyStop) →
      (handOn pl timecode (stoppingNow s) r s).capture = handedUnit pl timecode r s) := by
  have tested := (handedOn_blocks (cutByLimit r s) pl timecode (handedIndex (cutByLimit r s) pl timecode s) s).2.2.2.2
  constructor
  · intro quiet up
    have none_ : handedCauses pl timecode r s =
        handedOn (cutByLimit r s) pl timecode (handedIndex (cutByLimit r s) pl timecode s) s := by
      unfold handedCauses; rw [(limitHits_nil_iff r).2 quiet]; rfl
    rcases Bool.eq_false_or_eq_true (stoppingNow s) with stopping | stopping
    · obtain ⟨live, safety⟩ := (stoppingNow_iff s).1 stopping
      obtain ⟨-, mode, stop, -⟩ := handedOn_blocks (cutByLimit r s) pl timecode
        (handedIndex (cutByLimit r s) pl timecode s) s
      have up := up safety
      rw [handOn_stopping limits stopping] at up
      rw [handOn_stopping limits stopping]
      obtain ⟨-, -, -, -, -, kept, -⟩ := stopTick_live (s := handedCauses pl timecode r s)
        (by rw [none_, mode]; exact live) (by rw [none_, stop]; exact safety)
      rw [(kept up).2, none_]; exact tested
    · rw [handOn_away stopping, none_]; exact tested
  · intro idle
    have causes : (handedCauses pl timecode r s).capture = handedUnit pl timecode r s :=
      (takeCauses_capture_kept _ (by rw [tested]; exact idle)).trans tested
    rcases Bool.eq_false_or_eq_true (stoppingNow s) with stopping | stopping
    · rw [handOn_stopping limits stopping, stopTick_capture_kept (by rw [causes]; exact idle)]
      exact causes
    · rw [handOn_away stopping]; exact causes

end

end Sys2Proof.Machine
end

section
/-! PROOFS. SlotsCarryOutputs: one channel conditioned, and the outbound work of a frame as a whole. -/

namespace Sys2Proof.Machine
open Sys2Proof.Claims

/-! ## One channel -/

section
variable {x : CondContext} {part : Word} {n : Fin 12} {console : Int} {v : Option Int} {c : Channel} {l : LensChannel}

/-- MAP_CHANGED of one channel, condition by condition (R16, R143). -/
theorem mapChanged_iff :
    (conditionChannel x part n console v c l).mapChanged = true ↔
      x.mode = .live ∧ x.safety ≠ .dropped ∧ c.desc.cls = .lens ∧ c.pendingNew = false ∧
      l.cal ≠ .seekLow ∧ l.cal ≠ .seekHigh ∧ l.apply = none ∧
      (∃ src, c.pendingSource = some src ∧ src ≠ c.source ∧ (src = .take ∨ src = .takeTrim)) ∧
      x.mask.getLsbD n.val = true ∧ (x.play = .cueing ∨ x.play = .cued ∨ x.play = .running) ∧
      ∀ m, l.active = some m → m.mapId ≠ x.mapIds[n] := by
  rw [conditionChannel_mapChanged_iff, applySource_changed_iff]
  simp only [sourceDue_iff, fallsBack, mapDiffers_iff, inMask]
  refine and_congr_right fun _ => and_congr_right fun up => and_congr_right fun lens => ?_
  have states : x.safety = .normal ∨ c.desc.cls = .lens ∧ (x.safety = .stopping ∨ x.safety = .held) := by
    cases h : x.safety <;> simp_all
  constructor
  · rintro ⟨src, pending, ⟨new, low, high, apply, -⟩, other, -, take, mask, play, differs⟩
    exact ⟨new, low, high, apply, ⟨src, pending, other, take⟩, mask, play, differs⟩
  · rintro ⟨new, low, high, apply, ⟨src, pending, other, take⟩, mask, play, differs⟩
    exact ⟨src, pending, ⟨new, low, high, apply, states⟩, other, lens, take, mask, play, differs⟩

/-- A limit is hit in LIVE alone, with the drives not dropped. -/
theorem conditionChannel_hit (h : (conditionChannel x part n console v c l).hit = true) :
    x.mode = .live ∧ x.safety ≠ .dropped := by
  by_cases unused : c.desc.cls = .unused
  · rw [conditionChannel_unused unused] at h; cases h
  · by_contra still
    rw [conditionChannel_still unused (by
      by_cases live : x.mode = .live
      · exact .inr (not_not.1 fun up => still ⟨live, up⟩)
      · exact .inl live)] at h
    cases h

/-- A MOTION channel in LIVE (R12, R22 to R25). -/
theorem conditionChannel_ofMotion (motion : c.desc.cls = .motion) (live : x.mode = .live) (up : x.safety ≠ .dropped) :
    conditionChannel x part n console v c l =
      let r := conditionMotion x n console v (sourced x n c l) l
      { chan := r.1, lens := l, hit := r.2, mapChanged := false, calibrated := false } := by
  rw [conditionChannel_live (by rw [motion]; decide) live up, conditionLive_motion motion, sourced_eq]

/-- A LENS channel in LIVE (R12, R21, R101). -/
theorem conditionChannel_ofLens (lens : c.desc.cls = .lens) (live : x.mode = .live) (up : x.safety ≠ .dropped) :
    conditionChannel x part n console v c l =
      if l.seeking = true then
        let r := calibrate (effMin c l) (effMax c l) part (sourced x n c l) l
        { chan := r.1, lens := r.2, hit := false, mapChanged := (applySource x n { c with flags := noFlags } l).2
          calibrated := true }
      else
        let r := conditionLens x.safety console v (sourced x n c l) l
        { chan := r.1, lens := l, hit := r.2, mapChanged := (applySource x n { c with flags := noFlags } l).2
          calibrated := false } := by
  rw [conditionChannel_live (by rw [lens]; decide) live up, conditionLive_lens lens, sourced_eq]

theorem sourced_limits : effMin (sourced x n c l) l = effMin c l ∧ effMax (sourced x n c l) l = effMax c l := by
  rw [sourced_eq]; exact prepared_limits

theorem sourced_feedback : (sourced x n c l).feedback = c.feedback := by
  rw [sourced_eq]; exact (prepared_frame x n c l).2.2.2

end

/-! ## The slots -/

/-- Bit 0 of a flag byte cleared, the others kept (R1). -/
theorem clear_enable (b : Byte) : (b &&& 0xFE).getLsbD 0 = false ∧ ∀ k, 0 < k → (b &&& 0xFE).getLsbD k = b.getLsbD k := by
  refine ⟨by simp, fun k positive => ?_⟩
  by_cases wide : k < 8
  · have ones : (0xFE : Byte).getLsbD k = true := by
      have : ∀ j : Fin 8, 0 < j.val → (0xFE : Byte).getLsbD j.val = true := by decide
      exact this ⟨k, wide⟩ positive
    rw [BitVec.getLsbD_and, ones, Bool.and_true]
  · rw [BitVec.getLsbD_of_ge _ _ (by omega), BitVec.getLsbD_of_ge _ _ (by omega)]

theorem enabled_iff {mode : CraneMode} {granted : Bool} {safety : Safety} {c : Channel} (used : c.desc.cls ≠ .unused) :
    enabled mode granted safety c = true ↔
      (mode = .live ∨ (mode = .arming ∧ granted = true)) ∧ safety ≠ .dropped := by
  simp [enabled, (Channel.used_iff c).2 used]

theorem writeSlot_used {enable : Bool} {c : Channel} {slot : Slot} (used : c.desc.cls ≠ .unused) :
    writeSlot enable c slot = { flag := if enable then 1 else 0, value := BitVec.ofInt 32 c.outPos } :=
  if_pos ((Channel.used_iff c).2 used)

theorem writeSlot_unused {enable : Bool} {c : Channel} {slot : Slot} (unused : c.desc.cls = .unused) :
    writeSlot enable c slot = { slot with flag := slot.flag &&& 0xFE } :=
  if_neg fun used => (Channel.used_iff c).1 used unused

/-- The slot of a channel in the frame on port D (R1, R27). -/
theorem outFrame_slot (o : Outbound) (pl : Placement) (r : Vector Conditioned 12) (u : State) (n : Fin 12) :
    (outFrame o pl r (storeConditioned r u)).frame.slots[n] =
      writeSlot (enabled u.mode.mode u.mode.granted u.stop.safety (r[n]).chan) (r[n]).chan o.slots[n] := by
  have chan : (storeConditioned r u).chan n = (r[n]).chan := (storeConditioned_at r u n).1
  refine (Vector.getElem_ofFn _).trans ?_
  rw [chan]
  simp only [storeConditioned_frame]

/-- What a channel's slot carries (R1, R27). -/
theorem outFrame_carries (o : Outbound) (pl : Placement) (r : Vector Conditioned 12) (u : State) (n : Fin 12) :
    (outFrame o pl r (storeConditioned r u)).calibrated[n] = (r[n]).calibrated ∧
    ((r[n]).chan.desc.cls ≠ .unused →
      ((outFrame o pl r (storeConditioned r u)).frame.slots[n]).value = BitVec.ofInt 32 (r[n]).chan.outPos ∧
      (((outFrame o pl r (storeConditioned r u)).frame.slots[n]).flag = 1 ∨
        ((outFrame o pl r (storeConditioned r u)).frame.slots[n]).flag = 0) ∧
      (((outFrame o pl r (storeConditioned r u)).frame.slots[n]).flag = 1 ↔
        (u.mode.mode = .live ∨ (u.mode.mode = .arming ∧ u.mode.granted = true)) ∧ u.stop.safety ≠ .dropped)) ∧
    ((r[n]).chan.desc.cls = .unused →
      ((outFrame o pl r (storeConditioned r u)).frame.slots[n]).value = (o.slots[n]).value ∧
      ((outFrame o pl r (storeConditioned r u)).frame.slots[n]).flag.getLsbD 0 = false ∧
      ∀ k, 0 < k → ((outFrame o pl r (storeConditioned r u)).frame.slots[n]).flag.getLsbD k =
        (o.slots[n]).flag.getLsbD k) := by
  rw [outFrame_slot]
  refine ⟨Vector.getElem_map _ _, fun used => ?_, fun unused => ?_⟩
  · rw [writeSlot_used used, ← enabled_iff used]
    cases enabled u.mode.mode u.mode.granted u.stop.safety (r[n]).chan with
    | true => exact ⟨rfl, .inl rfl, by simp⟩
    | false => exact ⟨rfl, .inr rfl, by simp⟩
  · rw [writeSlot_unused unused]
    exact ⟨rfl, (clear_enable _).1, (clear_enable _).2⟩

/-! ## The cue test and the end of a take -/

theorem cueValues_isSome (p : Playback) :
    (cueValues p).isSome = true ↔
      ∃ q rest, p.queue = q :: rest ∧ q.index = p.cueRecord ∧ q.good = true := by
  unfold cueValues
  cases h : p.queue with
  | nil => simp
  | cons q rest =>
    dsimp only
    split
    case isTrue there => exact iff_of_true rfl ⟨q, rest, rfl, there⟩
    case isFalse absent =>
      refine iff_of_false nofun ?_
      rintro ⟨q', rest', same, there⟩
      obtain ⟨rfl, -⟩ := List.cons.inj same
      exact absent there

theorem arrived_iff (c : Channel) (l : LensChannel) :
    arrived c l = true ↔ c.outVel = 0 ∧
      (c.outPos - clamp (effMin c l) (effMax c l) c.target).natAbs ≤ c.desc.cueTolerance := by
  unfold arrived
  rw [Bool.and_eq_true, decide_eq_true_iff, beq_iff_eq, and_comm]

theorem cuePasses_iff (s : State) :
    cuePasses s = true ↔ ∀ n : Fin 12, s.take.play.mask.getLsbD n.val = true →
      (s.cond.chans[n]).source = .take ∨ (s.cond.chans[n]).source = .takeTrim → (s.cond.chans[n]).fallback = false →
        (s.cond.chans[n]).outVel = 0 ∧
        ((s.cond.chans[n]).outPos -
          clamp (effMin s.cond.chans[n] s.lens[n]) (effMax s.cond.chans[n] s.lens[n])
            (s.cond.chans[n]).target).natAbs ≤ (s.cond.chans[n]).desc.cueTolerance := by
  simp only [cuePasses, List.all_eq_true, maskChannels, List.mem_filter, List.mem_finRange, true_and, inMask, State.chan,
    State.lensOf, Bool.or_eq_true, Bool.not_eq_true', arrived_iff]
  refine forall_congr' fun n => imp_congr_right fun _ => ?_
  rw [← Channel.onTake_iff]
  cases (s.cond.chans[n]).onTake <;> cases (s.cond.chans[n]).fallback <;> simp

/-- The cue test at the hand-on (R144). -/
theorem playHandOn_cueing {s : State} (cueing : s.take.play.state = .cueing) :
    (playHandOn s).take.play =
      if (cueValues s.take.play).isSome = true ∧ cuePasses s = true then
        { s.take.play with state := .cued, lineTrigger := false }
      else s.take.play := by
  unfold playHandOn; dsimp only; rw [cueing]; dsimp only
  split <;> rfl

/-- The end of a take at the hand-on (R146). -/
theorem playHandOn_running {s : State} (running : s.take.play.state = .running) :
    (playHandOn s).take.play.state =
      if (s.store.dir[s.take.play.entry]).length ≤ s.take.play.index + 1 then .ended else .running := by
  unfold playHandOn; dsimp only; rw [running]; dsimp only
  split
  · rfl
  · exact running

/-! ## The whole frame -/

/-- The channels of the frame, conditioned under the take values supplied to it (R12). -/
@[irreducible] def conditioned (s : State) : Vector Conditioned 12 := conditionAll (supply s).2 (supply s).1

/-- The state in which the frame's values are handed on. -/
@[irreducible] def stored (s : State) : State := storeConditioned (conditioned s) (supply s).1

theorem conditioned_def (s : State) : conditionAll (supply s).2 (supply s).1 = conditioned s := by unfold conditioned; rfl

theorem stored_def (s : State) : storeConditioned (conditioned s) (supply s).1 = stored s := by unfold stored; rfl

/-- The frame's values handed on. -/
def handed (o : Outbound) (pl : Placement) (s : State) : State :=
  handOn pl o.timecode (stoppingNow (stored s)) (conditioned s) (stored s)

theorem finishOutbound_eq (o : Outbound) (pl : Placement) (s : State) :
    finishOutbound o pl s = queueD (outFrame o pl (conditioned s) (stored s)) (handed o pl s) := by
  have same : stoppingNow (stored s) = ((supply s).1.mode.mode == .live && (supply s).1.stop.safety == .stopping) := by
    simp [stoppingNow, stored]
  unfold handed; rw [same, ← stored_def, ← conditioned_def]; rfl

theorem stored_blocks (s : State) :
    (stored s).mode = (supply s).1.mode ∧ (stored s).stop = (supply s).1.stop ∧
    (stored s).store = (supply s).1.store ∧ (stored s).link = s.link ∧ (stored s).geo = s.geo ∧
    (stored s).zone = s.zone ∧ (stored s).service = s.service := by
  simp [stored]

theorem stored_at (s : State) (n : Fin 12) :
    (stored s).cond.chans[n] = ((conditioned s)[n]).chan ∧ (stored s).lens[n] = ((conditioned s)[n]).lens := by
  rw [← stored_def]; exact storeConditioned_at _ _ n

theorem stored_take (s : State) :
    (stored s).take = { (supply s).1.take with play := { (supply s).1.take.play with
      mapChanged := (supply s).1.take.play.mapChanged || (conditioned s).toList.any Conditioned.mapChanged } } :=
  by rw [← stored_def]; exact storeConditioned_take _ _

/-- A channel of the frame by what the frame finds in force (R12, R59). -/
theorem conditioned_at (s : State) (n : Fin 12) :
    (conditioned s)[n] = conditionChannel
      { mode := s.mode.mode, safety := (supply s).1.stop.safety, scale := s.zone.scale
        resumeCatch := s.cond.resumeCatch, play := (supply s).1.take.play.state, mask := s.take.play.mask
        mapIds := ((supply s).1.store.dir[(supply s).1.take.play.entry]).mapIds, cueScale := s.take.cueScaleNow }
      s.link.part n (consoleValue s n) (valueFor s.take.play.mask (supply s).2 n)
      (supply s).1.cond.chans[n] (supply s).1.lens[n] := by
  obtain ⟨mode, resume, ⟨mask, -⟩, scale⟩ := supply_stands s
  have console : consoleValue (supply s).1 n = consoleValue s n := by unfold consoleValue; simp
  rw [← conditioned_def]
  refine (conditionAll_at _ _ n).trans ?_
  simp only [condContext, mode, resume, mask, scale, console, supply_frame]

theorem stored_limits {s : State} (hit : someHit (conditioned s)) : (stored s).mode.mode = .live := by
  obtain ⟨n, h⟩ := hit
  rw [conditioned_at] at h
  obtain ⟨live, -⟩ := conditionChannel_hit h
  rw [(stored_blocks s).1, (supply_stands s).1]; exact live

/-- A frame that begins no stop (R67). -/
def beginsNoStop (s : State) : Prop := (supply s).1.stop.safety ≠ .normal ∨ ¬ someHit (conditioned s)

section
variable {o : Outbound} {pl : Placement} {s : State}

theorem finishOutbound_blocks :
    (finishOutbound o pl s).mode = (handed o pl s).mode ∧ (finishOutbound o pl s).cond = (handed o pl s).cond ∧
    (finishOutbound o pl s).stop = (handed o pl s).stop ∧ (finishOutbound o pl s).lens = (handed o pl s).lens ∧
    (finishOutbound o pl s).store = (handed o pl s).store ∧ (finishOutbound o pl s).take = (handed o pl s).take ∧
    (finishOutbound o pl s).capture = (handed o pl s).capture := by
  rw [finishOutbound_eq]; simp

theorem finishOutbound_mode : (finishOutbound o pl s).mode = s.mode :=
  (finishOutbound_blocks.1.trans (handOn_mode stored_limits)).trans ((stored_blocks s).1.trans (supply_stands s).1)

/-- A frame that begins no stop hands the entries on as conditioned, and the take engine and the store as its record and
its cue test leave them. -/
theorem finishOutbound_quiet (quiet : beginsNoStop s) :
    (finishOutbound o pl s).cond = (stored s).cond ∧
    (finishOutbound o pl s).take = (handedWhole pl o.timecode (stored s)).take ∧
    (finishOutbound o pl s).store = (handedWhole pl o.timecode (stored s)).store := by
  obtain ⟨-, cond, -, -, store, take, -⟩ := finishOutbound_blocks (o := o) (pl := pl) (s := s)
  rw [cond, take, store]
  exact handOn_quiet stored_limits (by rw [(stored_blocks s).2.1]; exact quiet)

/-- A frame in NORMAL whose limit is hit begins a stop. -/
theorem finishOutbound_begins (hit : someHit (conditioned s)) (normal : (supply s).1.stop.safety = .normal) :
    ∃ cut index, (finishOutbound o pl s).cond = (stopBegins (handedOn cut pl o.timecode index (stored s))).cond ∧
    (finishOutbound o pl s).take = (stopBegins (handedOn cut pl o.timecode index (stored s))).take ∧
    (finishOutbound o pl s).stop.safety = .stopping ∧ (finishOutbound o pl s).stop.stopTimer = 0 := by
  obtain ⟨-, cond, stop, -, -, take, -⟩ := finishOutbound_blocks (o := o) (pl := pl) (s := s)
  obtain ⟨h, rfl, cond', take', -, -, safety, timer⟩ := handOn_begins (pl := pl) (timecode := o.timecode) hit
    (stored_limits hit) (by rw [(stored_blocks s).2.1]; exact normal)
  refine ⟨_, _, cond.trans cond', take.trans take', ?_, ?_⟩ <;> rw [stop]
  · exact safety
  · exact timer

theorem not_beginsNoStop (h : ¬ beginsNoStop s) : someHit (conditioned s) ∧ (supply s).1.stop.safety = .normal := by
  unfold beginsNoStop at h
  rw [not_or, not_not, not_not] at h
  exact ⟨h.2, h.1⟩

theorem finishOutbound_resumeCatch :
    (finishOutbound o pl s).cond.resumeCatch = (stored s).cond.resumeCatch := by
  by_cases quiet : beginsNoStop s
  · rw [(finishOutbound_quiet quiet).1]
  · obtain ⟨hit, normal⟩ := not_beginsNoStop quiet
    obtain ⟨cut, index, cond, -⟩ := finishOutbound_begins (o := o) (pl := pl) hit normal
    rw [cond, stopBegins_resumeCatch, (handedOn_blocks _ _ _ _ _).1]

theorem finishOutbound_playStands : playStands (stored s).take.play (finishOutbound o pl s).take.play := by
  by_cases quiet : beginsNoStop s
  · rw [(finishOutbound_quiet quiet).2.1]; exact handedOn_play_stands _ _ _ _ _
  · obtain ⟨hit, normal⟩ := not_beginsNoStop quiet
    obtain ⟨cut, index, -, take, -⟩ := finishOutbound_begins (o := o) (pl := pl) hit normal
    rw [take, stopBegins_take]
    exact (handedOn_play_stands _ _ _ _ _).trans (abortedIfActive_stands _ _)

/-- A channel's entry as conditioned, but for a take hold set where a stop aborts a playback (R15). -/
theorem finishOutbound_at (n : Fin 12) :
    holdOnly ((conditioned s)[n]).chan (finishOutbound o pl s).cond.chans[n] := by
  rw [← (stored_at s n).1]
  by_cases quiet : beginsNoStop s
  · rw [(finishOutbound_quiet quiet).1]; exact holdOnly_refl _
  · obtain ⟨hit, normal⟩ := not_beginsNoStop quiet
    obtain ⟨cut, index, cond, -⟩ := finishOutbound_begins (o := o) (pl := pl) hit normal
    rw [cond]
    have held := stopBegins_holdOnly (handedOn cut pl o.timecode index (stored s)) n
    rw [(handedOn_blocks _ _ _ _ _).1] at held
    exact held

theorem finishOutbound_lens (n : Fin 12)
    (up : (finishOutbound o pl s).stop.safety ≠ .dropped ∨ (supply s).1.stop.safety = .dropped) :
    (finishOutbound o pl s).lens[n] =
      if (((conditioned s)[n]).chan).desc.cls = .lens ∧ (((conditioned s)[n]).chan).outVel = 0 ∧
          (((conditioned s)[n]).lens).calibrating = false then swapMap ((conditioned s)[n]).lens
      else ((conditioned s)[n]).lens := by
  obtain ⟨-, -, stop, lens, -⟩ := finishOutbound_blocks (o := o) (pl := pl) (s := s)
  rw [stop] at up
  rw [lens, ← (stored_at s n).1, ← (stored_at s n).2]
  exact handOn_lens stored_limits (by rw [(stored_blocks s).2.1]; exact up) n

theorem finishOutbound_link :
    (finishOutbound o pl s).link =
      { s.link with readyD := s.link.readyD ++ [outFrame o pl (conditioned s) (stored s)] } := by
  have handedLink : (handed o pl s).link = s.link := by simp [handed, stored]
  rw [finishOutbound_eq, queueD, State.setLink_link, handedLink]

/-- The Capture Unit after the frame: as its outbound tests leave it, unless a cause trips it. -/
theorem finishOutbound_capture :
    (¬ someHit (conditioned s) →
      ((supply s).1.stop.safety = .stopping → (finishOutbound o pl s).stop.safety ≠ .dropped) →
      (finishOutbound o pl s).capture = handedUnit pl o.timecode (conditioned s) (stored s)) ∧
    ((handedUnit pl o.timecode (conditioned s) (stored s)).state ≠ .armed ∨
        (∀ k, (handedUnit pl o.timecode (conditioned s) (stored s)).condition = some k → k.kind ≠ .anyStop) →
      (finishOutbound o pl s).capture = handedUnit pl o.timecode (conditioned s) (stored s)) := by
  obtain ⟨-, -, stop, -, -, -, capture⟩ := finishOutbound_blocks (o := o) (pl := pl) (s := s)
  obtain ⟨quiet, idle⟩ := handOn_capture (pl := pl) (timecode := o.timecode) (stored_limits (s := s))
  rw [stop, capture, ← (stored_blocks s).2.1]
  exact ⟨quiet, idle⟩

/-- The Stop Controller after a frame that was not conditioned in STOPPING and hit no limit. -/
theorem finishOutbound_stop (quiet : ¬ someHit (conditioned s))
    (away : ¬ ((supply s).1.mode.mode = .live ∧ (supply s).1.stop.safety = .stopping)) :
    (finishOutbound o pl s).stop = (supply s).1.stop := by
  obtain ⟨mode, stop, -⟩ := stored_blocks s
  refine finishOutbound_blocks.2.2.1.trans ((handOn_stop quiet ?_).trans stop)
  exact Bool.eq_false_iff.2 fun h => away (by
    obtain ⟨live, stopping⟩ := (stoppingNow_iff _).1 h
    rw [mode] at live; rw [stop] at stopping; exact ⟨live, stopping⟩)

/-- The stop timer and the tests of R70 and R71 at a frame conditioned in STOPPING. -/
theorem finishOutbound_ticks (live : (supply s).1.mode.mode = .live) (stopping : (supply s).1.stop.safety = .stopping) :
    (finishOutbound o pl s).stop.stopTimer = min ((supply s).1.stop.stopTimer + 1) 65535 ∧
    (finishOutbound o pl s).stop.safety =
      if motionAtRest (stored s) = true then .held
      else if (supply s).1.stop.stopLimit ≤ min ((supply s).1.stop.stopTimer + 1) 65535 then .dropped
      else .stopping := by
  obtain ⟨mode, stop, -⟩ := stored_blocks s
  have ticks := handOn_ticks (pl := pl) (timecode := o.timecode) (stored_limits (s := s))
    (by rw [mode]; exact live) (by rw [stop]; exact stopping)
  rw [stop] at ticks
  rw [finishOutbound_blocks.2.2.1]
  exact ticks

theorem stored_rests :
    motionAtRest (stored s) = true ↔
      ∀ n : Fin 12, (((conditioned s)[n]).chan).desc.cls = .motion → (((conditioned s)[n]).chan).outVel = 0 := by
  rw [motionAtRest_all]
  exact forall_congr' fun n => by rw [(stored_at s n).1]

/-- The TAKE_INDEX test at the hand-on, after the OUTPUT_CROSSES test (R158, R159). -/
theorem outputTests_testedFor (index : Option Nat) (timecode : Word) (u : State) :
    testedFor .takeIndex u.take.play.state
      (fun c => if index = some c.value.toNat then some (.number c.value.toNat) else none) u.link.part timecode
      (testCrossing .outputCrosses u.take.play.state (fun n => (u.chan n).outPos) u.link.part timecode u)
      (outputTests index timecode u).capture := by
  have tested := testCapture_testedFor .takeIndex u.take.play.state
    (fun c => if index = some c.value.toNat then some (.number c.value.toNat) else none) u.link.part timecode
    (testCrossing .outputCrosses u.take.play.state (fun n => (u.chan n).outPos) u.link.part timecode u)
  have same : (outputTests index timecode u).capture = (testCapture .takeIndex u.take.play.state
      (fun c => if index = some c.value.toNat then some (.number c.value.toNat) else none) u.link.part timecode
      (testCrossing .outputCrosses u.take.play.state (fun n => (u.chan n).outPos) u.link.part timecode u)).capture := by
    simp only [outputTests, testCrossing_frame]
    congr 2; funext c
    cases index with
    | none => rfl
    | some i =>
      by_cases met : i = c.value.toNat
      · simp [met]
      · simp [met]
  rw [same]; exact tested

/-- The unit as the outbound tests leave it, by the record state and the store that the frame finds. -/
theorem handedUnit_testedFor :
    testedFor .takeIndex
      (appendFrame (cutByLimit (conditioned s) (stored s)) pl o.timecode (stored s)).take.play.state
      (fun c => if takeIndexOf (supply s).1.take.recording
          (decide (((supply s).1.store.dir[(supply s).1.take.recording.entry]).length <
            ((appendFrame (cutByLimit (conditioned s) (stored s)) pl o.timecode
              (stored s)).store.dir[(supply s).1.take.recording.entry]).length))
          (appendFrame (cutByLimit (conditioned s) (stored s)) pl o.timecode (stored s)).take.play =
        some c.value.toNat then some (.number c.value.toNat) else none)
      s.link.part o.timecode
      (testCrossing .outputCrosses
        (appendFrame (cutByLimit (conditioned s) (stored s)) pl o.timecode (stored s)).take.play.state
        (fun n => ((conditioned s)[n]).chan.outPos) s.link.part o.timecode
        (appendFrame (cutByLimit (conditioned s) (stored s)) pl o.timecode (stored s)))
      (handedUnit pl o.timecode (conditioned s) (stored s)) := by
  have recording : (stored s).take.recording = (supply s).1.take.recording := by rw [stored_take]
  obtain ⟨-, -, store, link, -⟩ := stored_blocks s
  unfold handedUnit handedIndex
  generalize appended : appendFrame (cutByLimit (conditioned s) (stored s)) pl o.timecode (stored s) = v
  have outputs : (fun n : Fin 12 => ((conditioned s)[n]).chan.outPos) = fun n => (v.chan n).outPos := by
    funext n
    rw [State.chan, ← appended, (appendFrame_frame _ _ _ _).2.2.2.2.2.2.1, (stored_at s n).1]
  have part : s.link.part = v.link.part := by rw [← appended, ← link]; simp
  rw [outputs, part]
  simp only [recording, store]
  exact outputTests_testedFor _ _ v

/-- The frame that waits for port D (R1, R27, R134, R169). -/
theorem finishOutbound_hands :
    ∃ f, (finishOutbound o pl s).link = { s.link with readyD := s.link.readyD ++ [f] } ∧ f.part = s.link.part ∧
      f.frame.service = o.service ∧ f.frame.flags = o.flags ∧ f.frame.timecode = o.timecode ∧
      f.phase = pl.phase ∧ f.sync = pl.sync ∧ f.service = s.service.reply ∧
      ∀ n : Fin 12,
        f.calibrated[n] = ((conditioned s)[n]).calibrated ∧
        (((conditioned s)[n]).chan.desc.cls ≠ .unused →
          (f.frame.slots[n]).value = BitVec.ofInt 32 ((conditioned s)[n]).chan.outPos ∧
          ((f.frame.slots[n]).flag = 1 ∨ (f.frame.slots[n]).flag = 0) ∧
          ((f.frame.slots[n]).flag = 1 ↔
            ((supply s).1.mode.mode = .live ∨ ((supply s).1.mode.mode = .arming ∧ (supply s).1.mode.granted = true)) ∧
              (supply s).1.stop.safety ≠ .dropped)) ∧
        (((conditioned s)[n]).chan.desc.cls = .unused →
          (f.frame.slots[n]).value = (o.slots[n]).value ∧ (f.frame.slots[n]).flag.getLsbD 0 = false ∧
          ∀ k, 0 < k → (f.frame.slots[n]).flag.getLsbD k = (o.slots[n]).flag.getLsbD k) := by
  obtain ⟨-, -, -, link, -, -, service⟩ := stored_blocks s
  have carries := outFrame_carries o pl (conditioned s) (supply s).1
  rw [stored_def] at carries
  exact ⟨_, finishOutbound_link, congrArg Link.part link, rfl, rfl, rfl, rfl, rfl, congrArg ServiceUnit.reply service,
    carries⟩

theorem finishOutbound_swap (n : Fin 12)
    (up : (finishOutbound o pl s).stop.safety ≠ .dropped ∨ (supply s).1.stop.safety = .dropped) :
    (finishOutbound o pl s).lens[n] = match ((conditioned s)[n]).lens.pending with
      | none => ((conditioned s)[n]).lens
      | some m =>
        if ((conditioned s)[n]).chan.desc.cls = .lens ∧ ((conditioned s)[n]).chan.outVel = 0 ∧
            ((conditioned s)[n]).lens.calibrating = false then
          { ((conditioned s)[n]).lens with
            active := some m, pending := none
            result := ((conditioned s)[n]).lens.result.map fun x =>
              { x with fit := fitOf (some m) x.foundMin x.foundMax } }
        else ((conditioned s)[n]).lens := by
  rw [finishOutbound_lens n up, swapMap_eq]
  generalize ((conditioned s)[n]).lens = l
  cases h : l.pending with
  | none => exact ite_self _
  | some m => rfl

/-- The cue test and the end of the take are made on the entries as conditioned. -/
theorem finishOutbound_play (quiet : beginsNoStop s) :
    ∃ u, (finishOutbound o pl s).take.play = (playHandOn u).take.play ∧ u.cond = (stored s).cond ∧
      u.lens = (stored s).lens ∧ u.store = (appendFrame false pl o.timecode (stored s)).store ∧
      u.take.play = { (supply s).1.take.play with mapChanged := (stored s).take.play.mapChanged } := by
  refine ⟨outputTests (handedIndex false pl o.timecode (stored s)) o.timecode
    (appendFrame false pl o.timecode (stored s)), ?_, ?_, ?_, ?_, ?_⟩
  · rw [(finishOutbound_quiet quiet).2.1]; simp only [handedWhole, handedOn, swapMaps_frame]
  · simp only [outputTests_frame, appendFrame_frame]
  · simp only [outputTests_frame, appendFrame_frame]
  · simp only [outputTests_frame]
  · simp only [outputTests_frame, appendFrame_play]
    rw [stored_take]

/-- The cue test of the frame (R144). -/
theorem finishOutbound_cueing (cueing : (supply s).1.take.play.state = .cueing) (quiet : beginsNoStop s) :
    let arrived : Prop :=
      (∃ q rest, (supply s).1.take.play.queue = q :: rest ∧ q.index = (supply s).1.take.play.cueRecord ∧ q.good = true) ∧
      ∀ n : Fin 12, (supply s).1.take.play.mask.getLsbD n.val = true →
        ((conditioned s)[n]).chan.source = .take ∨ ((conditioned s)[n]).chan.source = .takeTrim →
        ((conditioned s)[n]).chan.fallback = false →
        ((conditioned s)[n]).chan.outVel = 0 ∧
        (((conditioned s)[n]).chan.outPos -
          clamp (effMin ((conditioned s)[n]).chan ((conditioned s)[n]).lens)
            (effMax ((conditioned s)[n]).chan ((conditioned s)[n]).lens) ((conditioned s)[n]).chan.target).natAbs ≤
          ((conditioned s)[n]).chan.desc.cueTolerance
    (arrived → (finishOutbound o pl s).take.play.state = .cued ∧ (finishOutbound o pl s).take.play.lineTrigger = false) ∧
    (¬ arrived → (finishOutbound o pl s).take.play.state = .cueing) := by
  intro arrived
  obtain ⟨u, same, cond, lens, -, play⟩ := finishOutbound_play (o := o) (pl := pl) quiet
  have state : u.take.play.state = .cueing := by rw [play]; exact cueing
  have chans (n : Fin 12) : u.cond.chans[n] = ((conditioned s)[n]).chan := by rw [cond]; exact (stored_at s n).1
  have lenses (n : Fin 12) : u.lens[n] = ((conditioned s)[n]).lens := by rw [lens]; exact (stored_at s n).2
  have passes : ((cueValues u.take.play).isSome = true ∧ cuePasses u = true) ↔ arrived := by
    rw [cueValues_isSome, cuePasses_iff, play]
    simp only [chans, lenses]
    exact Iff.rfl
  rw [same, playHandOn_cueing state]
  refine ⟨fun there => ?_, fun absent => ?_⟩
  · rw [if_pos (passes.2 there)]; exact ⟨rfl, rfl⟩
  · rw [if_neg fun there => absent (passes.1 there)]; exact state

/-- A take that has used its last record (R146). -/
theorem finishOutbound_running (running : (supply s).1.take.play.state = .running) (quiet : beginsNoStop s) :
    (finishOutbound o pl s).take.play.state =
      if ((appendFrame false pl o.timecode (stored s)).store.dir[(supply s).1.take.play.entry]).length ≤
        (supply s).1.take.play.index + 1 then .ended else .running := by
  obtain ⟨u, same, -, -, store, play⟩ := finishOutbound_play (o := o) (pl := pl) quiet
  have state : u.take.play.state = .running := by rw [play]; exact running
  rw [same, playHandOn_running state]; simp only [store, play]

end

end Sys2Proof.Machine

namespace Sys2Proof.Proofs
open Sys2Proof.Machine Sys2Proof.Claims

/-- Settles O12: one channel by its class, the mode and the safety state; then the frame's work stage by stage. -/
theorem slotsCarryOutputs : Obligations.SlotsCarryOutputs := by
  refine ⟨fun x part n console v c l => ?_, fun o pl s => ?_⟩
  · obtain ⟨low_, high_⟩ := sourced_limits (x := x) (n := n) (c := c) (l := l)
    refine ⟨fun unused => ?_, mapChanged_iff, fun used low high found => conditionChannel_inside used low high found,
      fun used still => ?_, fun motion live => ⟨?_, fun normal => ?_, fun stopping => ?_, fun held => ?_⟩,
      fun lens live up => ⟨fun noLow noHigh noFound => ?_, fun p found => ?_, fun noFound runs short => ?_,
        fun noFound runs long => ?_⟩⟩
    · rw [conditionChannel_unused unused]; exact ⟨rfl, rfl, rfl⟩
    · rw [conditionChannel_still used still]; exact ⟨rfl, rfl, rfl⟩
    · by_cases up : x.safety = .dropped
      · rw [conditionChannel_still (by rw [motion]; decide) (.inr up)]
      · rw [conditionChannel_ofMotion motion live up]
    · rw [conditionChannel_ofMotion motion live (by rw [normal]; decide), ← low_, ← high_]
      exact conditionMotion_normal normal
    · rw [conditionChannel_ofMotion motion live (by rw [stopping]; decide), ← low_, ← high_]
      dsimp only; unfold conditionMotion; rw [stopping]
    · rw [conditionChannel_ofMotion motion live (by rw [held]; decide)]
      dsimp only; unfold conditionMotion; rw [held]; exact ⟨rfl, rfl⟩
    · have still : ¬ l.seeking = true := Bool.eq_false_iff.1 ((LensChannel.seeking_false_iff l).2 ⟨noLow, noHigh, noFound⟩)
      rw [conditionChannel_ofLens lens live up, if_neg still]
      refine ⟨rfl, fun noMap => ?_, fun m map => ?_⟩
      · dsimp only; rw [conditionLens_noMap noMap]; exact ⟨rfl, rfl⟩
      · rw [← low_, ← high_]; exact conditionLens_map map
    · have seeks : l.seeking = true := by simp [LensChannel.seeking, found]
      rw [conditionChannel_ofLens lens live up, if_pos seeks]
      dsimp only
      rw [calibrate_found found]
      refine ⟨rfl, fun runs => ?_, fun ended => ?_⟩
      · rw [if_pos runs]; exact ⟨rfl, rfl⟩
      · rw [if_neg (Bool.eq_false_iff.1 ended)]; exact ⟨rfl, rfl⟩
    · rw [conditionChannel_ofLens lens live up, if_pos (calibrating_seeking runs)]
      dsimp only
      rw [calibrate_seeks noFound short]; exact ⟨rfl, rfl, rfl⟩
    · rw [conditionChannel_ofLens lens live up, if_pos (calibrating_seeking runs)]
      dsimp only
      rw [calibrate_timesOut noFound runs long, sourced_feedback]; exact ⟨rfl, rfl, rfl⟩
  · obtain ⟨mode, stop, -⟩ := stored_blocks s
    obtain ⟨-, resume_, ⟨-, -, changed_, -⟩, -⟩ := supply_stands s
    dsimp only
    rw [conditioned_def, stored_def]
    refine ⟨finishOutbound_mode, ?_, ?_, ?_, fun n => ?_, ?_, ?_, ?_, ?_, fun n => ?_, fun away => ?_,
      fun live normal => ⟨fun quiet => ?_, fun hit => ?_⟩, fun live stopping => ?_, fun cueing quiet => ?_,
      fun quiet => ?_, fun normal hit => ?_, fun running quiet => ?_⟩
    · simp
    · simp
    · simp
    · refine (conditioned_at s n).trans ?_
      rw [valueFor_eq]; rfl
    · rw [finishOutbound_resumeCatch]
      rw [← stored_def, storeConditioned_resumeCatch, resume_]
    · rw [(finishOutbound_playStands).2.2.1, stored_take]
      dsimp only
      rw [Bool.or_eq_true, any_iff, changed_]
    · refine ⟨cutByLimit (conditioned s) (stored s), fun cut => ?_, handedUnit pl o.timecode (conditioned s) (stored s),
        ?_, ?_, ?_⟩
      · obtain ⟨hit, normal⟩ := cutByLimit_iff cut
        exact ⟨stop ▸ normal, hit⟩
      · exact handedUnit_testedFor
      · exact (finishOutbound_capture).1
      · exact (finishOutbound_capture).2
    · exact finishOutbound_hands
    · refine ⟨finishOutbound_at n, fun quiet => ?_, fun up => ?_⟩
      · rw [(finishOutbound_quiet quiet).1]; exact (stored_at s n).1
      · exact finishOutbound_swap n up
    · refine finishOutbound_stop (fun hit => ?_) fun live => away live.1
      have live := stored_limits hit
      rw [mode] at live; exact away live
    · exact finishOutbound_stop quiet fun live => by rw [normal] at live; cases live.2
    · obtain ⟨-, -, -, -, safety, timer⟩ := finishOutbound_begins hit normal
      exact ⟨safety, timer⟩
    · obtain ⟨timer, safety⟩ := finishOutbound_ticks live stopping
      rw [safety]
      refine ⟨timer, fun rest => if_pos (stored_rests.2 rest), fun moves late => ?_, fun moves early => ?_⟩
      · rw [if_neg fun rest => moves (stored_rests.1 rest)]; exact if_pos late
      · rw [if_neg fun rest => moves (stored_rests.1 rest)]; exact if_neg (Nat.not_le.2 early)
    · exact finishOutbound_cueing cueing quiet
    · obtain ⟨-, take', store'⟩ := finishOutbound_quiet quiet
      rw [take', store']
      exact ⟨handedOn_recording _ _ _ _ _, handedOn_store _ _ _ _ _⟩
    · obtain ⟨cut, index, -, take', -⟩ := finishOutbound_begins hit normal
      rw [take', stopBegins_take]
      exact ⟨interruptedRecording_state _, abortedIfActive_inactive _ _⟩
    · exact finishOutbound_running running quiet

end Sys2Proof.Proofs
end

section
/-! PROOFS. RunningFrameSupplied: the record a frame uses, the next read, and the cause of the third fault in a row. -/

namespace Sys2Proof.Machine
open Sys2Proof.Claims

/-! ## The record of a RUNNING frame -/

/-- The play index of the frame (R146). -/
abbrev frameIndex (p : Playback) : Nat := if p.firstFrame then p.index else p.index + 1

/-- The queue without the records below the frame's index (R147). -/
abbrev frameQueue (p : Playback) : List QueuedRecord := p.queue.dropWhile fun r => decide (r.index < frameIndex p)

/-- The frame's own record stands good at the head of what is left (R147). -/
def usesRecord (p : Playback) : Prop :=
  ∃ r rest, frameQueue p = r :: rest ∧ r.index = frameIndex p ∧ r.good = true

/-- The queue after the frame: its own record is removed, good or not. -/
def queueAfter (p : Playback) : List QueuedRecord :=
  match frameQueue p with
  | [] => []
  | r :: rest => if r.index = frameIndex p then rest else r :: rest

/-- The latest good values after the frame. -/
def latestAfter (p : Playback) : Option (List Int) :=
  match frameQueue p with
  | [] => p.latest
  | r :: _ => if r.index = frameIndex p ∧ r.good = true then some r.values else p.latest

/-- A frame with a data fault (R148). -/
theorem not_usesRecord_iff (p : Playback) :
    ¬ usesRecord p ↔ ∀ r rest, frameQueue p = r :: rest → r.index ≠ frameIndex p ∨ r.good = false := by
  constructor
  · intro faulty r rest left
    by_contra h
    rw [not_or, not_not, Bool.not_eq_false] at h
    exact faulty ⟨r, rest, left, h⟩
  · rintro faulty ⟨r, rest, left, here, good⟩
    rcases faulty r rest left with h | h
    · exact h here
    · rw [good] at h; cases h

theorem advancePlay_eq (p : Playback) :
    advancePlay p = { p with index := frameIndex p, firstFrame := false, queue := frameQueue p } := rfl

/-- The frame's record used (R147). -/
theorem useRecord_good {p : Playback} (good : usesRecord p) :
    useRecord (advancePlay p) =
      { p with
        index := frameIndex p, firstFrame := false, queue := queueAfter p, latest := latestAfter p, faultRun := 0 } := by
  obtain ⟨r, rest, left, here, good⟩ := good
  unfold useRecord queueAfter latestAfter
  rw [advancePlay_eq, left]
  dsimp only
  rw [if_pos here, if_pos good, if_pos here, if_pos ⟨here, good⟩] <;> rfl

/-- A data fault counted, the latest good values kept (R148). -/
theorem useRecord_faulty {p : Playback} (faulty : ¬ usesRecord p) :
    latestAfter p = p.latest ∧
    useRecord (advancePlay p) =
      { p with
        index := frameIndex p, firstFrame := false, queue := queueAfter p
        faultRun := p.faultRun + 1, faultTotal := min (p.faultTotal + 1) 65535 } := by
  unfold useRecord queueAfter latestAfter
  rw [advancePlay_eq]
  cases left : frameQueue p with
  | nil => exact ⟨rfl, rfl⟩
  | cons r rest =>
    have bad := (not_usesRecord_iff p).1 faulty r rest left
    dsimp only
    refine ⟨if_neg fun h => bad.elim (absurd h.1) (by rw [h.2]; exact nofun), ?_⟩
    by_cases here : r.index = frameIndex p
    · rw [if_pos here, if_pos here, if_neg (by rw [bad.resolve_left (not_not.2 here)]; exact nofun)] <;> rfl
    · rw [if_neg here, if_neg here] <;> rfl

/-- The frame's record used or its fault counted, either way (R146 to R148). -/
theorem useRecord_shape (p : Playback) :
    useRecord (advancePlay p) =
      { p with
        index := frameIndex p, firstFrame := false, queue := queueAfter p, latest := latestAfter p
        faultRun := (useRecord (advancePlay p)).faultRun, faultTotal := (useRecord (advancePlay p)).faultTotal } := by
  by_cases good : usesRecord p
  · rw [useRecord_good good]
  · obtain ⟨latest, used⟩ := useRecord_faulty good
    rw [used, latest]

/-- The counts of data faults after the frame. -/
theorem useRecord_faults (p : Playback) :
    (usesRecord p →
      (useRecord (advancePlay p)).faultRun = 0 ∧ (useRecord (advancePlay p)).faultTotal = p.faultTotal) ∧
    (¬ usesRecord p → (useRecord (advancePlay p)).faultRun = p.faultRun + 1 ∧
      (useRecord (advancePlay p)).faultTotal = min (p.faultTotal + 1) 65535) :=
  ⟨fun good => by rw [useRecord_good good]; exact ⟨rfl, rfl⟩,
    fun faulty => by rw [(useRecord_faulty faulty).2]; exact ⟨rfl, rfl⟩⟩

/-- The third data fault in a row (R148). -/
theorem useRecord_third (p : Playback) :
    (useRecord (advancePlay p)).faultRun = 3 ↔ p.faultRun = 2 ∧ ¬ usesRecord p := by
  obtain ⟨good, faulty⟩ := useRecord_faults p
  by_cases h : usesRecord p
  · simp [(good h).1, h]
  · simp [(faulty h).1, h]

theorem thirdFault_iff (p : Playback) :
    thirdFault p = true ↔ p.state = .running ∧ p.faultRun = 2 ∧ ¬ usesRecord p := by
  unfold thirdFault
  rw [Bool.and_eq_true, Bool.and_eq_true, beq_iff_eq, beq_iff_eq, beq_iff_eq, useRecord_third]
  tauto

/-! ## The next read -/

theorem readOf_eq (p : Playback) (e : DirEntry) :
    readOf p.entry e p.nextRead (p.nextRead == p.cueRecord) = nextReadOf p e := by
  unfold readOf nextReadOf blockRecords noNextBlock
  have header : ((p.nextRead == p.cueRecord) || decide (p.nextRead % e.perBlock = 0)) =
      decide (p.nextRead = p.cueRecord ∨ p.nextRead % e.perBlock = 0) := by
    rw [Bool.decide_or]; rfl
  rw [header]

/-- An active playback with an index left to read and room for it begins its next read where none is in progress
(R147). -/
def readsNext (p : Playback) (s : State) : Prop :=
  s.store.reading = none ∧ p.nextRead < (s.store.dir[p.entry]).length ∧ p.queue.length < 512

theorem startRead_begins {s : State} (active : s.take.play.active = true) (more : readsNext s.take.play s) :
    startRead s = { s with
      store := { s.store with reading := some (nextReadOf s.take.play s.store.dir[s.take.play.entry]) }
      take := { s.take with play := { s.take.play with nextRead := s.take.play.nextRead + 1 } } } := by
  obtain ⟨none_, left, room⟩ := more
  unfold startRead
  refine (if_pos ⟨active, none_, left, room⟩).trans ?_
  rw [readOf_eq]; rfl

theorem startRead_waits {s : State} (more : ¬ readsNext s.take.play s) : startRead s = s :=
  if_neg fun h => more h.2

/-- The state of a RUNNING frame once its record is used and the next read begun, item by item (R146 to R148). -/
theorem playAdvanced_eq {s : State} (running : s.take.play.state = .running) :
    playAdvanced s = { s with
      store := { s.store with reading := (playAdvanced s).store.reading }
      take := { s.take with play := { s.take.play with
        index := frameIndex s.take.play, firstFrame := false, queue := queueAfter s.take.play
        nextRead := (playAdvanced s).take.play.nextRead, latest := latestAfter s.take.play
        faultRun := (playAdvanced s).take.play.faultRun, faultTotal := (playAdvanced s).take.play.faultTotal } } } ∧
    (playAdvanced s).take.play.faultRun = (useRecord (advancePlay s.take.play)).faultRun ∧
    (playAdvanced s).take.play.faultTotal = (useRecord (advancePlay s.take.play)).faultTotal ∧
    (readsNext { s.take.play with queue := queueAfter s.take.play } s →
      (playAdvanced s).store.reading = some (nextReadOf s.take.play s.store.dir[s.take.play.entry]) ∧
      (playAdvanced s).take.play.nextRead = s.take.play.nextRead + 1) ∧
    (¬ readsNext { s.take.play with queue := queueAfter s.take.play } s →
      (playAdvanced s).store.reading = s.store.reading ∧
      (playAdvanced s).take.play.nextRead = s.take.play.nextRead) := by
  have shape := useRecord_shape s.take.play
  unfold playAdvanced
  generalize useRecord (advancePlay s.take.play) = q at shape
  generalize run : q.faultRun = run at shape
  generalize total : q.faultTotal = total at shape
  subst shape
  by_cases more : readsNext { s.take.play with queue := queueAfter s.take.play } s
  · rw [startRead_begins (by rw [Playback.active_iff]; exact .inr (.inr running)) more]
    exact ⟨rfl, rfl, rfl, fun _ => ⟨rfl, rfl⟩, fun h => absurd more h⟩
  · rw [startRead_waits more]
    exact ⟨rfl, rfl, rfl, fun h => absurd h more, fun _ => ⟨rfl, rfl⟩⟩

/-! ## The supply by play state -/

theorem supply_running {s : State} (running : s.take.play.state = .running) :
    supply s = (playFrame s,
      if (playFrame s).take.play.state = .running then (playFrame s).take.play.latest else none) := by
  unfold supply; dsimp only; rw [running]

/-- A RUNNING frame whose fault, if it has one, is not the third in a row (R147, R148). -/
theorem supply_used {s : State} (running : s.take.play.state = .running)
    (few : usesRecord s.take.play ∨ s.take.play.faultRun ≠ 2) :
    supply s = (playAdvanced s, latestAfter s.take.play) := by
  have kept : playFrame s = playAdvanced s := by
    rw [playFrame_eq]
    exact if_neg fun third => by
      obtain ⟨two, faulty⟩ := (useRecord_third _).1 third
      exact few.elim faulty fun other => other two
  obtain ⟨shape, -⟩ := playAdvanced_eq running
  have play := congrArg (fun t : State => (t.take.play.state, t.take.play.latest)) shape
  obtain ⟨state, latest⟩ := Prod.mk.inj play
  rw [supply_running running, kept, if_pos (state.trans running), latest]

/-- PLAYBACK_DATA with the lowest channel of the mask (R148). -/
theorem playbackDataCause_eq (p : Playback) :
    playbackDataCause (useRecord (advancePlay p)) =
      { name := .playbackData, channel := (List.finRange 12).find? fun n => p.mask.getLsbD n.val
        zone := none, value := none } := by
  rw [useRecord_shape]
  unfold playbackDataCause maskChannels
  rw [List.head?_filter]; rfl

/-- The third data fault in a row: PLAYBACK_DATA, and no take values where its stop aborts the playback (R148; log entry
54). -/
theorem supply_third {s : State} (running : s.take.play.state = .running) (faulty : ¬ usesRecord s.take.play)
    (two : s.take.play.faultRun = 2) :
    (supply s).1 = takeCause (playbackDataCause (useRecord (advancePlay s.take.play))) (playAdvanced s) ∧
    (supply s).2 = if s.mode.mode = .live ∧ s.stop.safety = .normal then none else s.take.play.latest := by
  have third : playFrame s = takeCause (playbackDataCause (useRecord (advancePlay s.take.play))) (playAdvanced s) := by
    rw [playFrame_eq]; exact if_pos ((useRecord_third _).2 ⟨two, faulty⟩)
  obtain ⟨shape, -⟩ := playAdvanced_eq running
  obtain ⟨mode, stop, state, latest⟩ : (playAdvanced s).mode = s.mode ∧ (playAdvanced s).stop = s.stop ∧
      (playAdvanced s).take.play.state = .running ∧ (playAdvanced s).take.play.latest = s.take.play.latest := by
    rw [shape]; exact ⟨rfl, rfl, running, (useRecord_faulty faulty).1⟩
  rw [supply_running running, third]
  refine ⟨rfl, ?_⟩
  dsimp only
  by_cases stops : s.mode.mode = .live ∧ s.stop.safety = .normal
  · have aborted := (Proofs.live_fromNormal (playbackDataCause (useRecord (advancePlay s.take.play)))
      (s := playAdvanced s) (by rw [mode]; exact stops.1) (by rw [stop]; exact stops.2)).2.1
    have inactive : (takeCause (playbackDataCause (useRecord (advancePlay s.take.play)))
        (playAdvanced s)).take.play.state ≠ .running := fun h => by
      rw [aborted, stopBegins_take] at h
      have ended := abortedIfActive_inactive .stop (playAdvanced s).take.play
      rw [Bool.eq_false_iff, Ne, Playback.active_iff] at ended
      exact ended (.inr (.inr h))
    rw [if_neg inactive, if_pos stops]
  · have kept : (takeCause (playbackDataCause (useRecord (advancePlay s.take.play))) (playAdvanced s)).take =
        (playAdvanced s).take :=
      (takeCause_take_cases _ _).resolve_right fun h => stops ⟨mode ▸ h.1, stop ▸ h.2.1⟩
    rw [kept, state, if_pos rfl, if_neg stops, latest]

/-- The cue record's values, once it stands good at the head of the queue, and nothing before (R143). -/
theorem supply_cue {s : State} (cue : s.take.play.state = .cueing ∨ s.take.play.state = .cued) :
    (∀ r rest, s.take.play.queue = r :: rest → r.index = s.take.play.cueRecord → r.good = true →
      supply s =
        ({ s with take := { s.take with play := { s.take.play with latest := some r.values } } }, some r.values)) ∧
    ((∀ r rest, s.take.play.queue = r :: rest → r.index ≠ s.take.play.cueRecord ∨ r.good = false) →
      supply s = (s, none)) := by
  have eq : supply s = match cueValues s.take.play with
      | none => (s, none)
      | some values => (s.setTake { s.take with play := giveValues values s.take.play }, some values) := by
    unfold supply; dsimp only
    rcases cue with h | h <;> rw [h] <;> rfl
  rw [eq]
  unfold cueValues
  refine ⟨fun r rest queue here good => ?_, fun absent => ?_⟩
  · rw [queue]; dsimp only; rw [if_pos ⟨here, good⟩]; rfl
  · cases queue : s.take.play.queue with
    | nil => rfl
    | cons r rest =>
      dsimp only
      rw [if_neg fun h => (absent r rest queue).elim (absurd h.1) (by rw [h.2]; exact nofun)]

theorem supply_away {s : State} (running : s.take.play.state ≠ .running) (cueing : s.take.play.state ≠ .cueing)
    (cued : s.take.play.state ≠ .cued) : supply s = (s, none) := by
  unfold supply; dsimp only
  cases state : s.take.play.state with
  | running => exact absurd state running
  | cueing => exact absurd state cueing
  | cued => exact absurd state cued
  | _ => rfl

/-! ## What the third fault leaves -/

/-- The crane and the playback after the third data fault in a row (R67, R148, R149). -/
theorem supply_third_leaves {s : State} (running : s.take.play.state = .running) (faulty : ¬ usesRecord s.take.play)
    (two : s.take.play.faultRun = 2) :
    (supply s).1.take.play.index = frameIndex s.take.play ∧ (supply s).1.take.play.latest = s.take.play.latest ∧
    (supply s).1.take.play.faultTotal = min (s.take.play.faultTotal + 1) 65535 ∧
    (supply s).1.take.play.faultRun = 3 ∧
    (s.mode.mode = .live → s.stop.safety = .normal →
      (supply s).1.stop.safety = .stopping ∧ (supply s).1.take.play.state = .aborted ∧
      (supply s).1.take.play.abort = some (frameIndex s.take.play, .stop) ∧
      (s.stop.fault = none → ∃ r, (supply s).1.stop.fault = some r ∧ r.cause.name = .playbackData)) := by
  obtain ⟨shape, run, total, -⟩ := playAdvanced_eq running
  have faults := (useRecord_faults s.take.play).2 faulty
  rw [faults.1, two] at run
  rw [faults.2] at total
  obtain ⟨mode, stop, play⟩ : (playAdvanced s).mode = s.mode ∧ (playAdvanced s).stop = s.stop ∧
      (playAdvanced s).take.play.index = frameIndex s.take.play ∧
      (playAdvanced s).take.play.latest = s.take.play.latest ∧ (playAdvanced s).take.play.state = .running := by
    rw [shape]; exact ⟨rfl, rfl, rfl, (useRecord_faulty faulty).1, running⟩
  obtain ⟨index, latest, state⟩ := play
  rw [(supply_third running faulty two).1]
  have name : (playbackDataCause (useRecord (advancePlay s.take.play))).name = .playbackData := rfl
  generalize playbackDataCause (useRecord (advancePlay s.take.play)) = cause at name
  have active : (playAdvanced s).take.play.active = true := by rw [Playback.active_iff]; exact .inr (.inr state)
  have items : (takeCause cause (playAdvanced s)).take.play.index = (playAdvanced s).take.play.index ∧
      (takeCause cause (playAdvanced s)).take.play.latest = (playAdvanced s).take.play.latest ∧
      (takeCause cause (playAdvanced s)).take.play.faultTotal = (playAdvanced s).take.play.faultTotal ∧
      (takeCause cause (playAdvanced s)).take.play.faultRun = (playAdvanced s).take.play.faultRun := by
    rcases takeCause_take_cases cause (playAdvanced s) with h | ⟨-, -, h⟩ <;> rw [h]
    · exact ⟨rfl, rfl, rfl, rfl⟩
    · rw [abortedIfActive, if_pos active]; exact ⟨rfl, rfl, rfl, rfl⟩
  obtain ⟨index', latest', total', run'⟩ := items
  refine ⟨index'.trans index, latest'.trans latest, total'.trans total, run'.trans run, fun live normal => ?_⟩
  have live' : (playAdvanced s).mode.mode = .live := by rw [mode]; exact live
  have normal' : (playAdvanced s).stop.safety = .normal := by rw [stop]; exact normal
  have aborted := (Proofs.live_fromNormal cause live' normal').2.1
  rw [stopBegins_take, abortedIfActive, if_pos active] at aborted
  refine ⟨?_, by rw [aborted]; rfl, by rw [aborted]; exact congrArg (fun i => some (i, AbortReason.stop)) index,
    fun fresh => ⟨_, Proofs.noted_fault cause (by rw [live']; decide), ?_⟩⟩
  · rw [takeCause_controlled live' (by rw [name]; rfl) normal', enterStopping_stop]
  · unfold faultEntered
    rw [stop, fresh]
    exact name

/-- A RUNNING frame that is no third fault leaves the crane as it was (R147, R148). -/
theorem playAdvanced_leaves {s : State} (running : s.take.play.state = .running) :
    (playAdvanced s).stop = s.stop ∧ (playAdvanced s).cond = s.cond ∧ (playAdvanced s).lens = s.lens ∧
    (playAdvanced s).store.dir = s.store.dir ∧ (playAdvanced s).take.play.entry = s.take.play.entry ∧
    (playAdvanced s).take.play.state = .running ∧ (playAdvanced s).take.play.index = frameIndex s.take.play ∧
    (playAdvanced s).take.play.queue = queueAfter s.take.play ∧
    (playAdvanced s).take.play.latest = latestAfter s.take.play := by
  rw [(playAdvanced_eq running).1]
  exact ⟨rfl, rfl, rfl, rfl, rfl, running, rfl, rfl, rfl⟩

/-- The channels of such a frame are conditioned by what it finds, under the latest good values. -/
theorem conditioned_used {s : State} (running : s.take.play.state = .running)
    (few : usesRecord s.take.play ∨ s.take.play.faultRun ≠ 2) (n : Fin 12) :
    (conditioned s)[n] = conditionChannel (condContext s) s.link.part n (consoleValue s n)
      (valueFor s.take.play.mask (latestAfter s.take.play) n) s.cond.chans[n] s.lens[n] := by
  obtain ⟨stop, cond, lens, dir, entry, state, -⟩ := playAdvanced_leaves running
  rw [conditioned_at]
  simp only [supply_used running few, stop, cond, lens, dir, entry, state, condContext, running]

/-- A MOTION channel on TAKE to which a value is supplied in NORMAL takes it as its hold and its target (R15). -/
theorem conditionChannel_takes {x : CondContext} {part : Word} {n : Fin 12} {console value : Int} {c : Channel}
    {l : LensChannel} (live : x.mode = .live) (normal : x.safety = .normal)
    (motion : (sourced x n c l).desc.cls = .motion) (take : (sourced x n c l).source = .take)
    (direct : (sourced x n c l).fallback = false) :
    (conditionChannel x part n console (some value) c l).chan.takeHold = value ∧
    (conditionChannel x part n console (some value) c l).chan.target = value := by
  have cls : c.desc.cls = .motion := by rw [sourced_eq, (prepared_frame x n c l).1] at motion; exact motion
  rw [conditionChannel_ofMotion cls live (by rw [normal]; decide)]
  dsimp only
  rw [conditionMotion_normal normal]
  have supplied : suppliedWith (some value) (sourced x n c l) = { sourced x n c l with takeHold := value } :=
    if_pos ⟨.inl take, direct⟩
  have aim : motionAim { sourced x n c l with takeHold := value } console =
      ({ sourced x n c l with takeHold := value }, value) := by
    unfold motionAim; dsimp only; rw [take]
  rw [supplied, aim]
  exact ⟨rfl, rfl⟩

end Sys2Proof.Machine

namespace Sys2Proof.Proofs
open Sys2Proof.Machine Sys2Proof.Claims

/-- Settles O47: by play state; in RUNNING by whether the frame's own record stands good, then by the count of faults. -/
theorem runningFrameSupplied : Obligations.RunningFrameSupplied := by
  refine ⟨fun s away => ⟨supply_cue, supply_away away⟩, fun s running => ?_, fun s running => ?_,
    fun s values n value running faulty few latest live normal inside there motion take direct => ?_, fun s => ⟨?_, ?_⟩⟩
  · obtain ⟨shape, run, total, more, less⟩ := playAdvanced_eq running
    obtain ⟨good, faulty⟩ := useRecord_faults s.take.play
    rw [← run, ← total] at good faulty
    refine ⟨playAdvanced s, shape, good, faulty, more, less, supply_used running, fun bad two => ?_⟩
    obtain ⟨after, values⟩ := supply_third running bad two
    exact ⟨after.trans (by rw [playbackDataCause_eq]), values⟩
  · obtain ⟨pending, -, link, -, geo, zone⟩ := supply_frame s
    obtain ⟨-, run, total, -⟩ := playAdvanced_eq running
    obtain ⟨stop, -, -, -, -, -, index, queue, latest⟩ := playAdvanced_leaves running
    obtain ⟨goodRun, faultyRun⟩ := useRecord_faults s.take.play
    refine ⟨pending, link, zone, geo, ?_, fun r rest left here good => ?_, fun bad => ?_⟩
    · by_cases third : usesRecord s.take.play ∨ s.take.play.faultRun ≠ 2
      · rw [supply_used running third]; exact index
      · rw [not_or, not_not] at third; exact (supply_third_leaves running third.1 third.2).1
    · have uses : usesRecord s.take.play := ⟨r, rest, left, here, good⟩
      have left' : frameQueue s.take.play = r :: rest := left
      have after : queueAfter s.take.play = rest ∧ latestAfter s.take.play = some r.values := by
        unfold queueAfter latestAfter
        rw [left']
        exact ⟨if_pos here, if_pos ⟨here, good⟩⟩
      rw [supply_used running (.inl uses)]
      exact ⟨after.2, run.trans (goodRun uses).1, total.trans (goodRun uses).2, stop, queue.trans after.1,
        latest.trans after.2⟩
    · have faulty := (not_usesRecord_iff s.take.play).2 bad
      have same := (useRecord_faulty faulty).1
      by_cases two : s.take.play.faultRun = 2
      · obtain ⟨-, latest', total', run', stops⟩ := supply_third_leaves running faulty two
        refine ⟨latest', total', by rw [two]; exact run', fun few => absurd two few, fun _ live normal => ?_⟩
        obtain ⟨stopping, aborted, reason, -⟩ := stops live normal
        exact ⟨(supply_third running faulty two).2.trans (if_pos ⟨live, normal⟩), stopping, aborted, reason⟩
      · rw [supply_used running (.inr two)]
        exact ⟨latest.trans same, total.trans (faultyRun faulty).2, run.trans (faultyRun faulty).1,
          fun _ => ⟨stop, same⟩, fun h => absurd h two⟩
  · have same := (useRecord_faulty ((not_usesRecord_iff s.take.play).2 faulty)).1
    have given : valueFor s.take.play.mask (latestAfter s.take.play) n = some value := by
      rw [same, latest, valueFor_eq]; dsimp only; rw [if_pos inside]; exact there
    rw [conditioned_def, conditioned_used running (.inr few), given]
    exact conditionChannel_takes live normal motion take direct
  · intro quiet
    refine congrArg Host.Outcome.next (if_neg fun third => ?_)
    obtain ⟨running, two, bad⟩ := (thirdFault_iff _).1 third
    have bad' := (not_usesRecord_iff _).1 bad
    exact quiet.elim (absurd running) fun h => h.elim (absurd two) fun h => h bad'
  · intro running two bad
    have bad' := (not_usesRecord_iff s.take.play).2 bad
    obtain ⟨pending, -, link, service, geo, zone⟩ := supply_frame s
    obtain ⟨-, -, -, run, stops⟩ := supply_third_leaves running bad' two
    refine ⟨(supply s).1, congrArg Host.Outcome.next ((if_pos ((thirdFault_iff _).2 ⟨running, two, bad'⟩)).trans ?_),
      pending, link, zone, geo, service, run, fun live normal => ?_⟩
    · rw [supply_running running]
    · obtain ⟨stopping, aborted, -, fault⟩ := stops live normal
      exact ⟨stopping, aborted, fault⟩

end Sys2Proof.Proofs
end

section
/-! PROOFS. The codings of the status contents: each as the statements write it, and its length. -/

namespace Sys2Proof.Machine
open Sys2Proof.Claims

/-! ## Values in bytes -/

theorem ofInt_byte (x : Int) {j : Nat} (inside : j ≤ 3) :
    BitVec.ofInt 8 (x / 256 ^ j) = (BitVec.ofInt 32 x).extractLsb' (8 * j) 8 := by
  apply BitVec.eq_of_toNat_eq
  rw [BitVec.extractLsb'_toNat, BitVec.toNat_ofInt, BitVec.toNat_ofInt, Nat.shiftRight_eq_div_pow]
  interval_cases j <;> norm_num <;> omega

@[simp] theorem coded_i32 (x : Int) : coded 4 x = i32 x :=
  calc coded 4 x
    _ = [BitVec.ofInt 8 (x / 256 ^ 0), BitVec.ofInt 8 (x / 256 ^ 1), BitVec.ofInt 8 (x / 256 ^ 2),
          BitVec.ofInt 8 (x / 256 ^ 3)] := rfl
    _ = i32 x := by rw [ofInt_byte x (by decide), ofInt_byte x (by decide), ofInt_byte x (by decide),
        ofInt_byte x (by decide)]; rfl

@[simp] theorem i32_natCast (n : Nat) : i32 n = u32 n := by rw [i32, u32, BitVec.ofInt_natCast]

@[simp] theorem coded_u8 (n : Nat) : coded 1 n = u8 n := by
  have : coded 1 n = [BitVec.ofInt 8 ((n : Int) / 256 ^ 0)] := rfl
  rw [this, pow_zero, Int.ediv_one, BitVec.ofInt_natCast, u8]

@[simp] theorem coded_u16 (n : Nat) : coded 2 n = u16 n := by
  have byte (j : Nat) (h : j ≤ 1) : BitVec.ofInt 8 ((n : Int) / 256 ^ j) = (BitVec.ofNat 16 n).extractLsb' (8 * j) 8 := by
    apply BitVec.eq_of_toNat_eq
    rw [BitVec.extractLsb'_toNat, BitVec.toNat_ofInt, BitVec.toNat_ofNat, Nat.shiftRight_eq_div_pow]
    interval_cases j <;> norm_num <;> omega
  have : coded 2 n = [BitVec.ofInt 8 ((n : Int) / 256 ^ 0), BitVec.ofInt 8 ((n : Int) / 256 ^ 1)] := rfl
  rw [this, byte 0 (by decide), byte 1 (by decide)]; rfl

@[simp] theorem u32_toNat (w : Word) : u32 w.toNat = le32 w := by rw [u32, BitVec.ofNat_toNat, BitVec.setWidth_eq]

@[simp] theorem u16_toNat (h : Half) : u16 h.toNat = le16 h := by rw [u16, BitVec.ofNat_toNat, BitVec.setWidth_eq]

theorem u16_mask (m : BitVec 12) : u16 m.toNat = maskBytes m := by rw [u16, maskBytes, BitVec.ofNat_toNat]

@[simp] theorem marked_eq (b : Bool) : marked b = flagByte b := rfl

@[simp] theorem optional_map {α : Type} (k : Nat) (code : α → List Byte) (o : Option α) :
    optional k (o.map code) = optBytes k code o := by
  cases o <;> rfl

theorem toList_finRange {α : Type} {k : Nat} (v : Vector α k) : v.toList = (List.finRange k).map fun n => v[n] := by
  apply List.ext_getElem <;> simp

theorem flatMap_finRange {α : Type} {k : Nat} (v : Vector α k) (code : α → List Byte) :
    ((List.finRange k).flatMap fun n => code v[n]) = v.toList.flatMap code := by
  rw [toList_finRange, List.flatMap_map]

/-- The number whose bits below m are those that hold. -/
def bitSum (holds : Nat → Prop) [DecidablePred holds] (m : Nat) : Nat :=
  ((List.range m).map fun k => if holds k then 2 ^ k else 0).sum

section
variable (holds : Nat → Prop) [DecidablePred holds]

theorem bitSum_succ (m : Nat) : bitSum holds (m + 1) = (if holds m then 2 ^ m else 0) + bitSum holds m := by
  simp [bitSum, List.range_succ, Nat.add_comm]

theorem bitSum_lt (m : Nat) : bitSum holds m < 2 ^ m := by
  induction m with
  | zero => exact Nat.one_pos
  | succ m ih => rw [bitSum_succ, pow_succ]; split <;> omega

theorem bitSum_testBit (m k : Nat) : (bitSum holds m).testBit k = decide (k < m ∧ holds k) := by
  induction m with
  | zero => simp [bitSum]
  | succ m ih =>
    rw [bitSum_succ]
    by_cases top : holds m
    · rw [if_pos top, ← Nat.mul_one (2 ^ m), Nat.two_pow_add_eq_or_of_lt (bitSum_lt holds m), Nat.mul_one,
        Nat.testBit_or, ih, Nat.testBit_two_pow]
      by_cases here : m = k
      · subst here; simp [top]
      · have : k < m + 1 ↔ k < m := by omega
        simp [here, this]
    · rw [if_neg top, Nat.zero_add, ih]
      by_cases here : k = m
      · subst here; simp [top]
      · have : k < m + 1 ↔ k < m := by omega
        simp [this]

end

/-- Bit n of the word of a zone set stands where zone n is in the set (R190). -/
theorem zoneWord_getLsbD (ids : List Nat) (w : Word) (n : Nat) (inside : n < 32) :
    (ids.foldl (fun w n => w ||| BitVec.ofNat 32 (2 ^ n)) w).getLsbD n = (w.getLsbD n || decide (n ∈ ids)) := by
  induction ids generalizing w with
  | nil => simp
  | cons i ids ih =>
    have bit : (BitVec.ofNat 32 (2 ^ i)).getLsbD n = decide (n = i) := by
      rw [BitVec.getLsbD_ofNat, Nat.testBit_two_pow, decide_eq_true inside, Bool.true_and]
      exact decide_eq_decide.2 eq_comm
    rw [List.foldl_cons, ih, BitVec.getLsbD_or, bit, Bool.or_assoc]
    simp

@[simp] theorem codedZones_eq (ids : List Nat) : codedZones ids = zoneBits ids := by
  have byte (j : Nat) (low : j ≤ 3) :
      BitVec.ofNat 8 (bitSum (fun k => 8 * j + k ∈ ids) 8) =
        (ids.foldl (fun w n => w ||| BitVec.ofNat 32 (2 ^ n)) 0).extractLsb' (8 * j) 8 := by
    apply BitVec.eq_of_getLsbD_eq
    intro k inside
    rw [BitVec.getLsbD_ofNat, bitSum_testBit, BitVec.getLsbD_extractLsb', zoneWord_getLsbD _ _ _ (by omega)]
    simp [inside]
  calc codedZones ids
    _ = [BitVec.ofNat 8 (bitSum (fun k => 8 * 0 + k ∈ ids) 8), BitVec.ofNat 8 (bitSum (fun k => 8 * 1 + k ∈ ids) 8),
          BitVec.ofNat 8 (bitSum (fun k => 8 * 2 + k ∈ ids) 8), BitVec.ofNat 8 (bitSum (fun k => 8 * 3 + k ∈ ids) 8)] :=
        rfl
    _ = zoneBits ids := by
        rw [byte 0 (by decide), byte 1 (by decide), byte 2 (by decide), byte 3 (by decide)]; rfl

/-! ## Lengths -/

@[simp] theorem u8_length (n : Nat) : (u8 n).length = 1 := rfl
@[simp] theorem u16_length (n : Nat) : (u16 n).length = 2 := rfl
@[simp] theorem u32_length (n : Nat) : (u32 n).length = 4 := rfl
@[simp] theorem i32_length (x : Int) : (i32 x).length = 4 := rfl
@[simp] theorem flagByte_length (b : Bool) : (flagByte b).length = 1 := rfl
@[simp] theorem secondByte_length (b : Bool) : (secondByte b).length = 1 := rfl
@[simp] theorem maskBytes_length (m : BitVec 12) : (maskBytes m).length = 2 := rfl
@[simp] theorem kindByte_length (p : PerKind Bool) : (kindByte p).length = 1 := rfl
@[simp] theorem zoneBits_length (ids : List Nat) : (zoneBits ids).length = 4 := rfl
@[simp] theorem posBytes_length (p : Pos) : (posBytes p).length = 12 := rfl
@[simp] theorem zeros_length (n : Nat) : (zeros n).length = n := List.length_replicate

/-- A coding that lays every value in k bytes. -/
def Wide {α : Type} (k : Nat) (code : α → List Byte) : Prop := ∀ a, (code a).length = k

theorem optBytes_length {α : Type} {k : Nat} {code : α → List Byte} (wide : Wide k code) (o : Option α) :
    (optBytes k code o).length = k + 1 := by
  cases o with
  | none => simp [optBytes]
  | some a => simp [optBytes, wide a]

theorem flatMap_length {α : Type} {k : Nat} {code : α → List Byte} (wide : Wide k code) (l : List α) :
    (l.flatMap code).length = l.length * k := by
  induction l with
  | nil => simp
  | cons a l ih => rw [List.flatMap_cons, List.length_append, ih, wide a, List.length_cons, Nat.add_mul, Nat.one_mul,
      Nat.add_comm]

@[simp] theorem wide_u8 : Wide 1 u8 := fun _ => rfl
@[simp] theorem wide_u16 : Wide 2 u16 := fun _ => rfl
@[simp] theorem wide_i32 : Wide 4 i32 := fun _ => rfl
@[simp] theorem wide_le16 : Wide 2 le16 := fun _ => rfl
@[simp] theorem wide_le32 : Wide 4 le32 := fun _ => rfl
@[simp] theorem wide_posBytes : Wide 12 posBytes := fun _ => rfl
@[simp] theorem wide_conditionBytes : Wide 8 conditionBytes := fun _ => rfl
@[simp] theorem wide_pendingMapBytes : Wide 7 pendingMapBytes := fun _ => rfl
@[simp] theorem wide_activeMapBytes : Wide 24 activeMapBytes := fun _ => rfl
@[simp] theorem wide_resultBytes : Wide 13 resultBytes := fun _ => rfl
@[simp] theorem wide_code {α : Type} (f : α → Nat) : Wide 1 fun x => u8 (f x) := fun _ => rfl
@[simp] theorem wide_detailBytes : Wide 2 detailBytes := by
  rintro ⟨_ | n, item⟩ <;> rfl

end Sys2Proof.Machine
end

section
/-! PROOFS. StatusRepliesItsPage: the contents item by item, their lengths, and the page that a request reads. -/

namespace Sys2Proof.Machine
open Sys2Proof.Claims

/-! ## Lengths of the contents -/

@[simp] theorem snapshotBytes_length (x : Snapshot) : (snapshotBytes x).length = 111 := by
  have axes := flatMap_length (code := fun a : Int × Int => i32 a.1 ++ i32 a.2) (k := 8) (fun _ => rfl) x.axes.toList
  rw [snapshotBytes, List.length_append, axes, Vector.length_toList, List.length_append,
    optBytes_length wide_posBytes, u16_length]

@[simp] theorem geometryBytes_length (g : Geometry) : (geometryBytes g).length = 33 := by
  unfold geometryBytes
  cases g.record <;> cases g.head <;> rfl

@[simp] theorem zoneStateBytes_length (z : ZoneMonitor) : (zoneStateBytes z).length = 53 := by
  have crew := flatMap_length (code := fun l : CrewLine => secondByte l.active ++ u16 l.count) (k := 3)
    (fun _ => rfl) z.crew.toList
  have least := optBytes_length (code := fun c : Int × Nat => i32 c.1 ++ u8 c.2) (k := 5) (fun _ => rfl) z.least
  rw [Vector.length_toList] at crew
  simp [zoneStateBytes, crew, least]

theorem craneContent_length (s : State) : (craneContent s).length = 90 := by
  simp [craneContent]

theorem channelContent_length (c : Channel) (l : LensChannel) : (channelContent c l).length = 72 := by
  simp [channelContent, descriptorBytes, optBytes_length]

theorem portContent_length (l : Link) (p : PortId) :
    (portContent l p).length = match p with
      | .c => 26
      | .d => 27 := by
  cases p <;> simp [portContent, portBytes, counterBytes, optBytes_length]

theorem safetyContent_length (s : State) : (safetyContent s).length = 22 := by
  have conditions := flatMap_length (code := fun k => flagByte (stands s k)) (k := 1) (fun _ => rfl) (List.range 6)
  simp [safetyContent, conditions]

theorem faultContent_length (s : State) : (faultContent s).length = 140 := by
  unfold faultContent
  cases s.stop.fault with
  | none => exact zeros_length 140
  | some r =>
    have later := optBytes_length (code := fun x : CauseName × Word => u8 (causeCode x.1) ++ le32 x.2) (k := 5)
      (fun _ => rfl) r.lastLater
    simp [faultBytes, optBytes_length, later]

@[simp] theorem conditionBytes_length (c : Condition) : (conditionBytes c).length = 8 := rfl

@[simp] theorem metBytes_length (m : MetValue) : (metBytes m).length = 4 := by cases m <;> rfl

theorem captureContent_length (u : CaptureUnit) : (captureContent u).length = 151 := by
  unfold captureContent
  cases u.record with
  | none => simp [optBytes_length]
  | some r => simp [captureRecordBytes, optBytes_length]

theorem memoryContent_length (st : TakeStore) : (memoryContent st).length = 33 := by
  unfold memoryContent
  cases st.errRecord with
  | none => simp [optBytes_length]
  | some r => simp [memErrBytes, optBytes_length]

theorem entryContent_length (e : DirEntry) : (entryContent e).length = 114 := by
  have maps := flatMap_length wide_u16 e.mapIds.toList
  rw [Vector.length_toList] at maps
  simp [entryContent, maps, optBytes_length]

theorem playContent_length (s : State) : (playContent s).length = 57 := by
  have abort := optBytes_length (code := fun x : Nat × AbortReason => u32 x.1 ++ u8 (abortReasonCode x.2)) (k := 5)
    (fun _ => rfl) s.take.play.abort
  simp [playContent, abort]

theorem selfCheckContent_length (m : ModeController) : (selfCheckContent m).length = 25 := by
  simp [selfCheckContent, checksBytes, optBytes_length]

theorem lensContent_length (c : Channel) (l : LensChannel) : (lensContent c l).length = 79 := by
  have feedback := optBytes_length (code := fun x : Int => i32 x ++ flagByte l.feedbackClamped) (k := 5)
    (fun _ => rfl) l.feedback
  simp [lensContent, optBytes_length, feedback]

/-! ## The contents item by item -/

@[simp] theorem codedSnapshot_eq (x : Snapshot) : codedSnapshot x = snapshotBytes x := by
  have axes := flatMap_finRange x.axes fun a => i32 a.1 ++ i32 a.2
  have head : codedPos = posBytes := by
    funext p; simp [codedPos, posBytes]
  simp only [codedSnapshot, snapshotBytes, coded_i32, coded_u16, head, optional_map, axes]

theorem craneContent_eq (s : State) : craneContent s = craneLayout s := by
  have crew := flatMap_finRange s.zone.crew fun l => flagByte l.active ++ u16 l.count
  unfold craneContent geometryBytes zoneStateBytes craneLayout
  dsimp only
  cases s.geo.record <;> cases s.geo.head <;> simpa [codedPos, posBytes, zeros, secondByte] using crew.symm

theorem channelContent_eq (c : Channel) (l : LensChannel) : channelContent c l = channelLayout c l := by
  have lens : c.isLens = decide (c.desc.cls = .lens) := by rw [Bool.eq_iff_iff, Channel.isLens_iff, decide_eq_true_iff]
  simp [channelContent, channelLayout, descriptorBytes, secondByte, Channel.reportedPresent, lens]

theorem portBytes_eq (p : Port) (timer : Nat) : portBytes p timer = portItems p timer := by
  have faults : kindByte p.faultIn =
      [(if p.faultIn.symbol = true then 1 else 0) + (if p.faultIn.crc = true then 2 else 0) +
        (if p.faultIn.sequence = true then 4 else 0)] := by
    unfold kindByte
    cases p.faultIn.symbol <;> cases p.faultIn.crc <;> cases p.faultIn.sequence <;> rfl
  simp [portBytes, portItems, counterBytes, faults]

theorem portContent_eq (l : Link) (p : PortId) : portContent l p = portLayout l p := by
  cases p with
  | c => simp [portContent, portLayout, portBytes_eq]
  | d => simp [portContent, portLayout, portBytes_eq]

theorem any_single {α : Type} (b : Bool) (x : α) (p : α → Bool) : (if b = true then [x] else []).any p = (b && p x) := by
  cases b <;> simp

theorem any_unless {α : Type} (b : Bool) (x : α) (p : α → Bool) : (if b = true then [] else [x]).any p = (!b && p x) := by
  cases b <;> simp

/-- The six conditions of R77 by their codes. -/
theorem stands_iff (s : State) :
    stands s 0 = decide (s.zone.stopSet ≠ []) ∧ stands s 1 = !s.stop.gripMemory ∧ stands s 2 = s.link.consoleAbsent ∧
    stands s 3 = s.link.feedbackLost ∧ stands s 4 = !s.pins.estopInClosed ∧ stands s 5 = s.pins.supplyFail := by
  unfold stands standing
  cases s.zone.stopSet <;> simp [any_single, any_unless, Standing.code]

theorem safetyContent_eq (s : State) : safetyContent s = safetyLayout s := by
  obtain ⟨zone, grip, console, feedback, estop, supply⟩ := stands_iff s
  simp [safetyContent, safetyLayout, secondByte, List.range_succ, zone, grip, console, feedback, estop, supply]

theorem faultContent_eq (s : State) : faultContent s = faultLayout s := by
  unfold faultContent faultLayout
  cases s.stop.fault with
  | none => rfl
  | some r => simp [faultBytes]

theorem conditionBytes_eq (c : Condition) : conditionBytes c = codedCondition c := by
  simp [conditionBytes, codedCondition]

theorem captureContent_eq (u : CaptureUnit) : captureContent u = captureLayout u := by
  have condition : codedCondition = conditionBytes := funext fun c => (conditionBytes_eq c).symm
  unfold captureContent captureLayout
  cases u.record with
  | none => simp [condition, zeros]
  | some r => cases met : r.met <;> simp [condition, captureRecordBytes, metBytes, met, zeros, u8]

theorem memoryContent_eq (st : TakeStore) : memoryContent st = memoryLayout st := by
  have count : (st.dir.toList.countP fun e => e.state != .empty) =
      ((List.finRange 32).filter fun i => decide ((st.dir[i]).state ≠ .empty)).length := by
    rw [toList_finRange, List.countP_map, List.countP_eq_length_filter]
    congr 2; funext i
    show ((st.dir[i]).state != .empty) = _
    cases (st.dir[i]).state <;> rfl
  have recording : (st.dir.toList.any fun e => e.state == .recording) =
      decide (∃ i : Fin 32, (st.dir[i]).state = .recording) := by
    rw [toList_finRange, Bool.eq_iff_iff, decide_eq_true_iff, List.any_map, List.any_eq_true]
    simp
  unfold memoryContent memoryLayout
  rw [count, recording]
  cases st.errRecord with
  | none => simp [zeros]
  | some r => simp [memErrBytes]

theorem entryContent_eq (e : DirEntry) : entryContent e = entryLayout e := by
  have maps := flatMap_finRange e.mapIds u16
  simpa [entryContent, entryLayout, u16_mask] using maps.symm

theorem playContent_eq (s : State) : playContent s = playLayout s := by
  have marks : activeMarks s =
      if s.take.recording.state = .idle then 0 else (s.store.dir[s.take.recording.entry]).marks.length := by
    unfold activeMarks Recording.active
    cases s.take.recording.state <;> rfl
  unfold playContent playLayout
  dsimp only
  rw [coded_u8 (if s.take.recording.state = .idle then 0 else _), marks]
  simp [u16_mask]

theorem selfCheckContent_eq (m : ModeController) : selfCheckContent m = selfCheckLayout m := by
  unfold selfCheckContent selfCheckLayout
  dsimp only
  rw [coded_u8 (if m.check.result = .running then m.count else _)]
  simp [checksBytes]
  refine congrArg (optBytes 2 · m.check.detail) (funext fun d => ?_)
  unfold detailBytes
  cases d.channel <;> rfl

/-- A map's direction: 0 where its counts rise along the list, 1 where they fall (log entry 27). -/
theorem activeMapBytes_eq (m : LensMap) :
    activeMapBytes m = u16 m.mapId ++ (u8 m.points.length ++ (flagByte
      (match m.points with
        | p :: q :: _ => decide (q.2 ≤ p.2)
        | _ => false) ++ (le32 m.crc ++
      (pointBytes (m.points.headD (0, 0)) ++ pointBytes (m.points.getLastD (0, 0)))))) := by
  have falls : (!m.rising) = match m.points with
      | p :: q :: _ => decide (q.2 ≤ p.2)
      | _ => false := by
    unfold LensMap.rising
    cases m.points with
    | nil => rfl
    | cons p rest =>
      cases rest with
      | nil => rfl
      | cons q rest =>
        dsimp only
        rw [← decide_not]
        exact decide_eq_decide.2 Int.not_lt
  unfold activeMapBytes secondByte
  rw [falls]

theorem lensContent_eq (c : Channel) (l : LensChannel) : lensContent c l = lensLayout c l := by
  have active : activeMapBytes = _ := funext activeMapBytes_eq
  simp [lensContent, lensLayout, active, pointBytes]
  rfl

/-! ## The page read -/

/-- The page of a content that a READ_STATUS asks for (R189, R190; log entry 27). -/
theorem pageReply_eq (content : List Byte) (page : Byte) :
    pageReply content page =
      if page.toNat < (if content.length = 0 then 1 else (content.length + 34) / 35) then
        { result := .ok
          data := BitVec.ofNat 8 (if content.length = 0 then 1 else (content.length + 34) / 35) :: page ::
            (content.drop (35 * page.toNat)).take 35 }
      else { result := .badParam, data := [] } := by
  have count : pageCount content.length = if content.length = 0 then 1 else (content.length + 34) / 35 := by
    unfold pageCount ceilDiv
    split <;> omega
  unfold pageReply pageData
  rw [count, BitVec.ofNat_toNat, BitVec.setWidth_eq]

/-- READ_STATUS is taken in every mode, and a content read changes nothing but the reply. -/
theorem readStatus_answer {tag : Byte} {body : Body} {s : State} {r : Reply} (tagged : tag ≠ 0)
    (reads : body s = (s, r)) : (.next (request tag 0x02 body s) : Outcome) = .next (answer tag 0x02 r s) := by
  rw [request_runs body tagged (.inr rfl), reads]

theorem readSingle_eq (content : State → List Byte) (index page : Byte) (s : State) :
    readSingle content index page s =
      (s, if index = 0 then pageReply (content s) page else { result := .badParam, data := [] }) := by
  unfold readSingle; split <;> rfl

theorem readChannel_at (content : Channel → LensChannel → List Byte) {index : Byte} (page : Byte) (s : State) {n : Fin 12}
    (at_ : index.toNat = n.val) :
    readChannel content index page s = (s, pageReply (content s.cond.chans[n] s.lens[n]) page) := by
  have inside : index.toNat < 12 := by rw [at_]; exact n.isLt
  have named : channelOf? index = some n := (dif_pos inside).trans (congrArg some (Fin.ext at_))
  unfold readChannel
  rw [named] <;> rfl

theorem readChannel_outside (content : Channel → LensChannel → List Byte) {index : Byte} (page : Byte) (s : State)
    (outside : 12 ≤ index.toNat) :
    readChannel content index page s = (s, { result := .badParam, data := [] }) := by
  have named : channelOf? index = none := dif_neg (Nat.not_lt.2 outside)
  unfold readChannel
  rw [named] <;> rfl

theorem readPort_eq (index page : Byte) (s : State) :
    readPort index page s =
      (s, if index = 0 then pageReply (portContent s.link .c) page
        else if index = 1 then pageReply (portContent s.link .d) page
        else { result := .badParam, data := [] }) := by
  have first : index = 0 ↔ index.toNat = 0 := BitVec.toNat_inj.symm
  have second : index = 1 ↔ index.toNat = 1 := BitVec.toNat_inj.symm
  simp only [first, second]
  unfold readPort portOf?
  match index.toNat with
  | 0 => rfl
  | 1 => rfl
  | k + 2 => rfl

theorem readMemory_eq (index page : Byte) (s : State) :
    readMemory index page s =
      (s, if index = 0 then pageReply (memoryContent s.store) page
        else if index.toNat ≤ 241 then pageReply (badSetContent s.store index.toNat) page
        else { result := .badParam, data := [] }) := by
  unfold readMemory; split
  · rfl
  · split <;> rfl

theorem readEntry_at {index : Byte} (page : Byte) (s : State) {n : Fin 32} (at_ : index.toNat = n.val) :
    readEntry index page s = (s, pageReply (entryContent s.store.dir[n]) page) := by
  have inside : index.toNat < 32 := by rw [at_]; exact n.isLt
  unfold readEntry
  rw [dif_pos inside]
  simp only [at_]
  rfl

theorem readEntry_outside {index : Byte} (page : Byte) (s : State) (outside : 32 ≤ index.toNat) :
    readEntry index page s = (s, { result := .badParam, data := [] }) :=
  dif_neg (Nat.not_lt.2 outside)

end Sys2Proof.Machine

namespace Sys2Proof.Proofs
open Sys2Proof.Machine Sys2Proof.Claims

/-- Settles O8: the page of each selector, then each content against its table, then the lengths. -/
theorem statusRepliesItsPage : Obligations.StatusRepliesItsPage := by
  refine ⟨fun tag index page s tagged => ?_, fun u => ?_, ?_, fun s => ?_, fun s t => ?_⟩
  · dsimp only
    simp only [← pageReply_eq]
    refine ⟨?_, fun n at_ => ⟨?_, ?_⟩, fun outside => ⟨?_, ?_⟩, ?_, ?_, fun n at_ => ?_, fun outside => ?_⟩
    · simp only [List.forall_mem_cons, List.not_mem_nil, false_imp_iff, implies_true, and_true]
      exact ⟨readStatus_answer tagged (readSingle_eq _ _ _ _), readStatus_answer tagged (readSingle_eq _ _ _ _),
        readStatus_answer tagged (readSingle_eq _ _ _ _), readStatus_answer tagged (readSingle_eq _ _ _ _),
        readStatus_answer tagged (readSingle_eq _ _ _ _), readStatus_answer tagged (readSingle_eq _ _ _ _),
        readStatus_answer tagged (readSingle_eq _ _ _ _)⟩
    · exact readStatus_answer tagged (readChannel_at _ page s at_)
    · exact readStatus_answer tagged (readChannel_at _ page s at_)
    · exact readStatus_answer tagged (readChannel_outside _ page s outside)
    · exact readStatus_answer tagged (readChannel_outside _ page s outside)
    · exact readStatus_answer tagged (readPort_eq index page s)
    · exact readStatus_answer tagged (readMemory_eq index page s)
    · exact readStatus_answer tagged (readEntry_at page s at_)
    · exact readStatus_answer tagged (readEntry_outside page s outside)
  · unfold lastReplyContent
    cases u.lastReply <;> rfl
  · unfold codesGiven; decide
  · refine ⟨craneContent_eq s, safetyContent_eq s, faultContent_eq s, captureContent_eq _, memoryContent_eq _,
      playContent_eq s, selfCheckContent_eq _, portContent_eq _, fun i => entryContent_eq _,
      fun n => ⟨channelContent_eq _ _, lensContent_eq _ _⟩, fun n _ => ?_⟩
    simp [badSetContent, List.flatMap_assoc]
  · refine ⟨?_, ?_, faultContent_length s, ?_, ?_, ?_, ?_, fun p => ?_, fun i j => ?_, fun m n => ⟨?_, ?_⟩⟩
    · rw [craneContent_length, craneContent_length]
    · rw [safetyContent_length, safetyContent_length]
    · rw [captureContent_length, captureContent_length]
    · rw [memoryContent_length, memoryContent_length]
    · rw [playContent_length, playContent_length]
    · rw [selfCheckContent_length, selfCheckContent_length]
    · rw [portContent_length, portContent_length]
    · rw [entryContent_length, entryContent_length]
    · rw [channelContent_length, channelContent_length]
    · rw [lensContent_length, lensContent_length]

end Sys2Proof.Proofs
end

section
/-! PROOFS. SilenceSubstitutes: the frame that outbound work queues, and a SUBST frame originated. -/

namespace Sys2Proof.Machine
open Sys2Proof.Claims

/-! ## The frame queued -/

/-- The frame that the outbound work queues: under the part's cycle number, the console's own flags, timecode and service
field in it, each channel's output in its slot (R1, R27, R169). -/
theorem finishOutbound_queues (o : Outbound) (pl : Placement) (s : State) :
    ∃ f, (finishOutbound o pl s).link = { s.link with readyD := s.link.readyD ++ [f] } ∧
      f.kind = o.kind ∧ f.part = s.link.part ∧ f.consoleCycle = o.consoleCycle ∧ f.timecode = o.timecode ∧
      f.service = s.service.reply ∧ f.frame.kind = (match o.kind with
        | .cycle => kindCycle
        | .subst => kindSubst) ∧
      f.frame.flags = o.flags ∧ f.frame.cycle = s.link.part.setWidth 16 ∧ f.frame.timecode = o.timecode ∧
      f.frame.service = o.service ∧ f.frame.tracking = List.replicate 48 0 ∧
      ∀ n : Fin 12,
        (((finishOutbound o pl s).cond.chans[n]).desc.cls ≠ .unused →
          (f.frame.slots[n]).value = BitVec.ofInt 32 ((finishOutbound o pl s).cond.chans[n]).outPos ∧
          ((f.frame.slots[n]).flag = 0 ∨ (f.frame.slots[n]).flag = 1) ∧
          ((f.frame.slots[n]).flag = 1 ↔
            ((supply s).1.mode.mode = .live ∨ ((supply s).1.mode.mode = .arming ∧ (supply s).1.mode.granted = true)) ∧
              (supply s).1.stop.safety ≠ .dropped)) ∧
        (((finishOutbound o pl s).cond.chans[n]).desc.cls = .unused →
          f.frame.slots[n] = { flag := (o.slots[n]).flag &&& 0xFE, value := (o.slots[n]).value }) := by
  obtain ⟨-, -, -, link, -, -, service⟩ := stored_blocks s
  refine ⟨_, finishOutbound_link, rfl, congrArg Link.part link, rfl, rfl, congrArg ServiceUnit.reply service, ?_, rfl,
    congrArg (fun l : Link => l.part.setWidth 16) link, rfl, rfl, rfl, fun n => ?_⟩
  · cases o with
    | mk kind _ _ _ _ _ => cases kind <;> rfl
  · have held := finishOutbound_at (o := o) (pl := pl) (s := s) n
    have slot := outFrame_slot o pl (conditioned s) (supply s).1 n
    obtain ⟨-, carried, -⟩ := outFrame_carries o pl (conditioned s) (supply s).1 n
    rw [stored_def] at slot carried
    unfold holdOnly at held
    rw [held]
    refine ⟨fun used => ?_, fun unused => slot.trans (writeSlot_unused unused)⟩
    obtain ⟨value, flag, drives⟩ := carried used
    exact ⟨value, flag.symm, drives⟩

/-! ## The fault record stands -/

/-- The cause of a fault record that has been entered stands, whatever is raised later (R86). -/
def faultStands (s t : State) : Prop :=
  ∀ r, s.stop.fault = some r → ∃ r', t.stop.fault = some r' ∧ r'.cause = r.cause

theorem faultStands.trans {s t u : State} (h : faultStands s t) (g : faultStands t u) : faultStands s u := by
  intro r entered
  obtain ⟨r', there, same⟩ := h r entered
  obtain ⟨r'', there', same'⟩ := g r' there
  exact ⟨r'', there', same'.trans same⟩

theorem faultStands.of_stop {s t : State} (same : t.stop.fault = s.stop.fault) : faultStands s t :=
  fun r entered => ⟨r, same.trans entered, rfl⟩

theorem takeCause_faultStands (c : Cause) (s : State) : faultStands s (takeCause c s) := by
  by_cases parked : s.mode.mode = .parked
  · rw [takeCause_parked c parked]; exact .of_stop rfl
  · intro r entered
    refine ⟨_, Proofs.noted_fault c parked, ?_⟩
    unfold faultEntered
    rw [entered]

theorem takeCauses_faultStands (cs : List Cause) (s : State) : faultStands s (takeCauses cs s) := by
  induction cs generalizing s with
  | nil => exact .of_stop rfl
  | cons c cs ih => exact (takeCause_faultStands c s).trans (ih _)

theorem supply_faultStands (s : State) : faultStands s (supply s).1 := by
  by_cases running : s.take.play.state = .running
  · have advanced : faultStands s (playAdvanced s) := .of_stop (by rw [(playAdvanced_leaves running).1])
    rw [supply_running running, playFrame_eq]
    split
    · exact advanced.trans (takeCause_faultStands _ _)
    · exact advanced
  · by_cases cue : s.take.play.state = .cueing ∨ s.take.play.state = .cued
    · refine .of_stop ?_
      unfold supply; dsimp only
      rcases cue with h | h <;> rw [h] <;> dsimp only <;> split <;> rfl
    · rw [not_or] at cue
      rw [supply_away running cue.1 cue.2]; exact .of_stop rfl

theorem stopTick_faultStands (s : State) : faultStands s (stopTick s) := by
  by_cases rest : motionAtRest s = true
  · rw [stopTick_rests rest]; exact .of_stop rfl
  · by_cases late : s.stop.stopLimit ≤ satSucc 65535 s.stop.stopTimer
    · rw [stopTick_timesOut rest late]
      exact faultStands.trans (t := s.setStop { s.stop with stopTimer := satSucc 65535 s.stop.stopTimer }) (.of_stop rfl)
        (takeCause_faultStands _ _)
    · rw [stopTick_waits rest (Nat.not_le.1 late)]; exact .of_stop rfl

theorem finishOutbound_faultStands (o : Outbound) (pl : Placement) (s : State) :
    faultStands s (finishOutbound o pl s) := by
  have whole : faultStands (stored s) (handed o pl s) := by
    unfold handed
    rw [handOn_eq]
    have causes : faultStands (stored s) (handedCauses pl o.timecode (conditioned s) (stored s)) :=
      faultStands.trans (.of_stop (by rw [(handedOn_blocks _ _ _ _ _).2.2.1])) (takeCauses_faultStands _ _)
    split
    · exact causes.trans (stopTick_faultStands _)
    · exact causes
  refine (supply_faultStands s).trans (faultStands.trans (t := stored s) (.of_stop ?_)
    (whole.trans (.of_stop ?_)))
  · rw [(stored_blocks s).2.1]
  · rw [finishOutbound_blocks.2.2.1]

/-! ## A SUBST frame -/

/-- The next part counter value taken (R170, R172, R195). -/
theorem takePart_eq (s : State) :
    takePart s = { s with
      link := { s.link with part := s.link.part + 1 }
      mode := { s.mode with count := if s.mode.mode = .arming then min (s.mode.count + 1) 250 else s.mode.count }
      service := { s.service with reply := none }
      take := { s.take with cueScaleNow := s.take.cueScale }
      cond := { s.cond with chans := Vector.ofFn fun n : Fin 12 => { s.cond.chans[n] with pendingNew := false } } } := by
  obtain ⟨pending, timer, pins, geo, zone, stop, lens, store, take, capture⟩ := takePart_frame s
  obtain ⟨link, service, mode, cond⟩ :
      (takePart s).link = { s.link with part := s.link.part + 1 } ∧
      (takePart s).service = { s.service with reply := none } ∧
      (takePart s).mode =
        { s.mode with count := if s.mode.mode = .arming then min (s.mode.count + 1) 250 else s.mode.count } ∧
      (takePart s).cond =
        { s.cond with chans := Vector.ofFn fun n : Fin 12 => { s.cond.chans[n] with pendingNew := false } } := by
    have cond (u : State) (same : u.cond = s.cond) : (u.mapChans fun _ c => { c with pendingNew := false }).cond =
        { s.cond with chans := Vector.ofFn fun n : Fin 12 => { s.cond.chans[n] with pendingNew := false } } := by
      rw [← same]
      refine congrArg (fun v => { u.cond with chans := v }) (table_ext fun n => ?_)
      simp
    unfold takePart
    dsimp only
    split
    case isTrue h =>
      have arming : s.mode.mode = .arming := h
      rw [if_pos arming]
      exact ⟨rfl, rfl, rfl, cond _ rfl⟩
    case isFalse h =>
      have away : s.mode.mode ≠ .arming := h
      rw [if_neg away]
      exact ⟨rfl, rfl, rfl, cond _ rfl⟩
  exact State.eq_of_blocks pending timer pins link service mode cond geo zone stop lens store take capture

/-- The state that a SUBST frame is placed in. -/
abbrev substTaken (s : State) : State := { s with
  link := { s.link with part := s.link.part + 1, lastSubst := s.timer }
  mode := { s.mode with count := if s.mode.mode = .arming then min (s.mode.count + 1) 250 else s.mode.count }
  service := { s.service with reply := none }
  take := { s.take with cueScaleNow := s.take.cueScale }
  cond := { s.cond with chans := Vector.ofFn fun n : Fin 12 => { s.cond.chans[n] with pendingNew := false } } }

theorem originateSubst_eq (s : State) :
    originateSubst s =
      finishOutbound (substFrame (placeOutbound id (latestTimecode s) (substTaken s)).1)
        (placeOutbound id (latestTimecode s) (substTaken s)).2 (placeOutbound id (latestTimecode s) (substTaken s)).1 := by
  have taken : takePart (s.setLink { s.link with lastSubst := s.timer }) = substTaken s := takePart_eq _
  have timecode : substTimecode (substTaken s) = latestTimecode s := rfl
  unfold originateSubst
  dsimp only
  rw [taken, timecode]

/-- What a SUBST frame carries (R172). -/
theorem substFrame_carries {s u : State} (good : u.link.lastGood = s.link.lastGood) :
    (substFrame u).timecode = latestTimecode s ∧ (substFrame u).service.length = 40 ∧
    byteAt (substFrame u).service 0 = 0 ∧
    ∀ n : Fin 12, ((substFrame u).slots[n]).value = match s.link.lastGood with
      | none => 0
      | some g => g.values[n] := by
  refine ⟨?_, ?_, rfl, fun n => ?_⟩
  · show consoleTimecode u = latestTimecode s
    unfold consoleTimecode latestTimecode
    rw [good] <;> rfl
  · simp [substFrame]
  · rw [← good]
    exact congrArg Slot.value (Vector.getElem_ofFn _)

theorem originateSubst_originated (s : State) : substOriginated s (originateSubst s) := by
  obtain ⟨timecode, length, tag, values⟩ := substFrame_carries (s := s)
    (u := (placeOutbound id (latestTimecode s) (substTaken s)).1) (by rw [(placeOutbound_frame _ _ _).2.2.2.1])
  refine ⟨_, rfl, rfl, rfl, timecode, length, tag, values, ?_⟩
  rw [timecode]
  exact originateSubst_eq s

/-- The SUBST frame that waits for port D (R172). -/
theorem originateSubst_queues (s : State) :
    ∃ f, (originateSubst s).link = { s.link with
        part := s.link.part + 1, lastSubst := s.timer, readyD := s.link.readyD ++ [f] } ∧
      f.kind = .subst ∧ f.part = s.link.part + 1 ∧ f.consoleCycle = none ∧ f.timecode = latestTimecode s ∧
      f.service = none ∧ f.frame.kind = 0x02 ∧ f.frame.flags = 0 ∧ f.frame.cycle = (s.link.part + 1).setWidth 16 ∧
      f.frame.timecode = latestTimecode s ∧ byteAt f.frame.service 0 = 0 ∧
      ∀ n : Fin 12,
        (((originateSubst s).cond.chans[n]).desc.cls ≠ .unused →
          (f.frame.slots[n]).value = BitVec.ofInt 32 ((originateSubst s).cond.chans[n]).outPos ∧
          ((f.frame.slots[n]).flag = 0 ∨ (f.frame.slots[n]).flag = 1)) ∧
        (((originateSubst s).cond.chans[n]).desc.cls = .unused →
          (f.frame.slots[n]).flag.getLsbD 0 = false ∧ (f.frame.slots[n]).value = match s.link.lastGood with
            | none => 0
            | some g => g.values[n]) := by
  obtain ⟨-, -, -, link, service, -⟩ := placeOutbound_frame id (latestTimecode s) (substTaken s)
  obtain ⟨timecode, -, tag, values⟩ := substFrame_carries (s := s)
    (u := (placeOutbound id (latestTimecode s) (substTaken s)).1) (by rw [link])
  rw [originateSubst_eq]
  obtain ⟨f, queued, kind, part, cycle, stamped, reply, code, flags, number, stamp, field, -, slots⟩ :=
    finishOutbound_queues (substFrame (placeOutbound id (latestTimecode s) (substTaken s)).1)
      (placeOutbound id (latestTimecode s) (substTaken s)).2 (placeOutbound id (latestTimecode s) (substTaken s)).1
  rw [link] at queued part number
  rw [service] at reply
  refine ⟨f, queued, kind, part, cycle, stamped.trans timecode, reply, code, flags, number, stamp.trans timecode,
    by rw [field]; exact tag, fun n => ⟨fun used => ?_, fun unused => ?_⟩⟩
  · obtain ⟨value, flag, -⟩ := (slots n).1 used
    exact ⟨value, flag⟩
  · rw [(slots n).2 unused]
    exact ⟨(clear_enable _).1, values n⟩

theorem originateSubst_service (s : State) : (originateSubst s).service = { s.service with reply := none } := by
  rw [originateSubst_eq, (finishOutbound_frame _ _ _).2.2.1, (placeOutbound_frame _ _ _).2.2.2.2.1]

theorem originateSubst_faultStands (s : State) : faultStands s (originateSubst s) := by
  rw [originateSubst_eq]
  refine faultStands.trans (.of_stop ?_) (finishOutbound_faultStands _ _ _)
  rw [(placeOutbound_frame _ _ _).2.2.2.2.2.2.2.2.2.1]

/-- The decision of R196 changes the head's reference alone of the Geometry Unit (R40). -/
theorem settleDecision_geo (s : State) :
    (settleDecision s).geo = { s.geo with reference := (settleDecision s).geo.reference } := by
  unfold settleDecision
  split
  · rw [decideArming_eq]
    split
    · rfl
    · rw [(leaveArming_frame _).2.2.2.2.2.1] <;> rfl
  · rfl

/-- Outside ARMING no decision is due (R196). -/
theorem settleDecision_away {s : State} (away : s.mode.mode ≠ .arming) : settleDecision s = s :=
  if_neg fun h => away h.1

end Sys2Proof.Machine

namespace Sys2Proof.Proofs
open Sys2Proof.Machine Sys2Proof.Claims

/-- Settles O37: the frame of a SUBST, originated at the moment due, after the cause at the silence limit. -/
theorem silenceSubstitutes : Obligations.SilenceSubstitutes := by
  refine fun s => ⟨fun absent => congrArg Host.Outcome.next (if_pos absent),
    fun present => congrArg Host.Outcome.next (if_neg (Bool.eq_false_iff.1 present)), fun i due_ => ?_⟩
  intro due decided cause before
  obtain ⟨pending, timer, link, service, zone, -⟩ := settleDecision_frame { s with timer := max s.timer due }
  have geo := settleDecision_geo { s with timer := max s.timer due }
  have silent : i = .consoleSilenceTimeout →
      before = takeCause cause { decided with link := { decided.link with consoleAbsent := true } } := by
    rintro rfl; exact if_neg nofun
  have paced : i = .substPeriodElapsed → before = decided := by
    rintro rfl; exact if_pos rfl
  have runs : exec i s = .next (originateSubst before) := by
    rcases due_ with ⟨rfl, present⟩ | ⟨rfl, absent⟩
    · rw [silent rfl]
      exact congrArg Host.Outcome.next (if_neg (Bool.eq_false_iff.1 present))
    · rw [paced rfl]
      refine congrArg Host.Outcome.next ((if_pos absent).trans ?_)
      have moment : due = s.link.lastSubst + substPeriod s.link := by
        refine (if_pos rfl).trans (congrArg (s.link.lastSubst + ·) ?_)
        unfold substPeriod
        cases s.link.period <;> rfl
      rw [← moment]
      rfl
  have found : before.pending = s.pending ∧ before.timer = max s.timer due ∧
      before.link = { s.link with consoleAbsent := true } ∧
      before.geo = { s.geo with reference := before.geo.reference } ∧ before.service = s.service ∧
      before.zone = s.zone := by
    rcases due_ with ⟨rfl, present⟩ | ⟨rfl, absent⟩
    · rw [silent rfl]
      obtain ⟨pending', timer', link', service', geo', zone'⟩ :=
        takeCause_frame cause { decided with link := { decided.link with consoleAbsent := true } }
      rw [pending', timer', link', service', geo', zone']
      exact ⟨pending, timer, congrArg (fun l : Link => { l with consoleAbsent := true }) link, geo, service, zone⟩
    · rw [paced rfl]
      exact ⟨pending, timer, link.trans (congrArg (fun b => { s.link with consoleAbsent := b }) absent), geo, service,
        zone⟩
  obtain ⟨pending', timer', link', geo', service', zone'⟩ := found
  obtain ⟨f, queued, kind, part, cycle, -, -, code, flags, number, stamp, -, slots⟩ := originateSubst_queues before
  obtain ⟨pending'', timer'', geo'', zone''⟩ := originateSubst_frame before
  have timecode : latestTimecode before = latestTimecode s := by unfold latestTimecode; rw [link']
  rw [link'] at queued part number slots
  rw [timer'] at queued
  refine ⟨_, f, runs, rfl, originateSubst_originated before, pending''.trans pending', timer''.trans timer',
    zone''.trans zone', ?_, ?_, queued, kind, part, cycle, code, flags, number, stamp.trans timecode, slots,
    fun is live fresh => ?_⟩
  · rw [geo'']; exact geo'
  · rw [originateSubst_service, service']
  · have undecided : decided = { s with timer := max s.timer due } :=
      settleDecision_away (s := { s with timer := max s.timer due }) (by rw [live]; decide)
    obtain ⟨r, entered, named⟩ := originateSubst_faultStands before _ (by
      rw [silent is, undecided]; exact noted_fault cause (by rw [live]; decide))
    refine ⟨r, entered, (congrArg Cause.name named).trans ?_⟩
    unfold faultEntered
    rw [fresh]

end Sys2Proof.Proofs
end

section
/-! PROOFS. The lines and the ports: what an error counted on a port changes, and which operations leave the crew lines
and ESTOP_IN as they were. -/

namespace Sys2Proof.Machine
open Sys2Proof.Claims

/-! ## A cause reads nothing of a port -/

section
variable (x : Port) (s : State)

/-- Port C replaced. -/
def State.withPortC : State := s.setLink { s.link with portC := x }

theorem withPortC_interruptRecording :
    interruptRecording (s.withPortC x) = (interruptRecording s).withPortC x := by
  rw [interruptRecording, interruptRecording, apply_ite (State.withPortC x)]; rfl

theorem withPortC_abortActive (reason : AbortReason) :
    abortActive reason (s.withPortC x) = (abortActive reason s).withPortC x := by
  rw [abortActive, abortActive, apply_ite (State.withPortC x)]; rfl

theorem withPortC_stopBegins : stopBegins (s.withPortC x) = (stopBegins s).withPortC x := by
  rw [stopBegins, withPortC_abortActive, withPortC_interruptRecording]; rfl

theorem withPortC_enterStopping (n : CauseName) : enterStopping n (s.withPortC x) = (enterStopping n s).withPortC x :=
  withPortC_stopBegins x
    (s.setStop { s.stop with safety := .stopping, stopTimer := 0, softStop := n == .gripReleased })

theorem withPortC_enterDropped : enterDropped (s.withPortC x) = (enterDropped s).withPortC x := by
  unfold enterDropped
  dsimp only
  have opened : openChain ((s.withPortC x).setStop { (s.withPortC x).stop with safety := .dropped, softStop := false }) =
      (openChain (s.setStop { s.stop with safety := .dropped, softStop := false })).withPortC x := rfl
  have normal : (s.withPortC x).stop.safety = s.stop.safety := rfl
  rw [opened, normal, withPortC_stopBegins, ← apply_ite (State.withPortC x)]; rfl

theorem withPortC_laterSoft (n : CauseName) : laterSoft n (s.withPortC x) = (laterSoft n s).withPortC x := by
  rw [laterSoft, laterSoft, apply_ite (State.withPortC x)]; rfl

theorem withPortC_actLive (n : CauseName) : actLive n (s.withPortC x) = (actLive n s).withPortC x := by
  have safety : (s.withPortC x).stop.safety = s.stop.safety := rfl
  unfold actLive
  rw [safety]
  cases n.cls <;> cases s.stop.safety
  case c.normal => exact withPortC_enterStopping x s n
  case c.stopping | c.held => exact withPortC_laterSoft x s n
  case c.dropped | i.dropped => rfl
  case i.normal | i.stopping | i.held => exact withPortC_enterDropped x s

theorem withPortC_causeNoted (c : Cause) : causeNoted c (s.withPortC x) = (causeNoted c s).withPortC x := by
  have entered : faultEntered c (s.withPortC x) = faultEntered c s := rfl
  have handed : (handCause c (s.withPortC x)).capture = (handCause c s).capture :=
    testCapture_congr _ _ _ _ _ rfl rfl rfl rfl rfl
  unfold causeNoted
  rw [entered, handed]; rfl

theorem withPortC_abortByCause (c : Cause) : abortByCause c (s.withPortC x) = (abortByCause c s).withPortC x := by
  unfold abortByCause
  cases c.name <;> rfl

/-- A cause is taken alike whatever stands in port C. -/
theorem withPortC_takeCause (c : Cause) : takeCause c (s.withPortC x) = (takeCause c s).withPortC x := by
  cases mode : s.mode.mode with
  | parked => rw [takeCause_parked c mode, takeCause_parked c (s := s.withPortC x) mode]
  | arming =>
    rw [takeCause_arming c mode, takeCause_arming c (s := s.withPortC x) mode, withPortC_causeNoted,
      withPortC_abortByCause]
  | live =>
    rw [takeCause_live c mode, takeCause_live c (s := s.withPortC x) mode, withPortC_causeNoted, withPortC_actLive]

end

/-! ## An error counted on a port -/

/-- A port with one more error of a kind (R168). -/
def errorCounted (k : ErrKind) (p : Port) : Port :=
  { p with counters := p.counters.put k (errorStep p.threshold (p.roll.get k) p.autoClear (p.counters.get k)).1 }

/-- Whether that error raises LINK_FAULT (R168). -/
def raisesFault (k : ErrKind) (p : Port) : Prop :=
  (errorStep p.threshold (p.roll.get k) p.autoClear (p.counters.get k)).2 = true ∧ p.faultIn.get k = true

theorem portError_counts {p : PortId} {k : ErrKind} {s : State} (listens : (s.link.port p).rx.listening = true)
    (raises : raisesFault k (s.link.port p)) :
    portError p k s =
      takeCause (linkCause p k) (s.setLink (s.link.putPort p (errorCounted k (s.link.port p)))) := by
  unfold portError
  exact (if_pos listens).trans (if_pos raises)

theorem portError_quiet {p : PortId} {k : ErrKind} {s : State} (listens : (s.link.port p).rx.listening = true)
    (raises : ¬ raisesFault k (s.link.port p)) :
    portError p k s = s.setLink (s.link.putPort p (errorCounted k (s.link.port p))) := by
  unfold portError
  exact (if_pos listens).trans (if_neg raises)

/-- The link after an error: its port alone has changed (R168). -/
theorem portError_link {p : PortId} {k : ErrKind} {s : State} (listens : (s.link.port p).rx.listening = true) :
    (portError p k s).link = s.link.putPort p (errorCounted k (s.link.port p)) := by
  by_cases raises : raisesFault k (s.link.port p)
  · rw [portError_counts listens raises, (takeCause_frame _ _).2.2.1]; rfl
  · rw [portError_quiet listens raises]; rfl

/-- An error is counted alike before and after the frame's group has moved the receiver of port C. -/
theorem portError_setRx {k : ErrKind} {r : Receiver} {s : State} (before : s.link.portC.rx.listening = true)
    (after : r.listening = true) :
    portError .c k (setRx .c r s) = setRx .c r (portError .c k s) := by
  have setRx_eq (t : State) : setRx .c r t = t.withPortC { t.link.portC with rx := r } := rfl
  by_cases raises : raisesFault k s.link.portC
  · rw [portError_counts (p := .c) (s := setRx .c r s) after raises, portError_counts (p := .c) before raises, setRx_eq,
      setRx_eq, (takeCause_frame _ _).2.2.1]
    exact withPortC_takeCause { errorCounted k s.link.portC with rx := r }
      (s.setLink (s.link.putPort .c (errorCounted k s.link.portC))) (linkCause .c k)
  · rw [portError_quiet (p := .c) (s := setRx .c r s) after raises, portError_quiet (p := .c) before raises]; rfl

end Sys2Proof.Machine
end

section
/-! PROOFS. The crew lines as they were seen and ESTOP_IN: no operation of a frame's work changes them. -/

namespace Sys2Proof.Machine
open Sys2Proof.Claims

/-- The crew lines as they were seen and ESTOP_IN are as they were. -/
def inputsKept (s t : State) : Prop :=
  t.pins.crewSeen = s.pins.crewSeen ∧ t.pins.estopInClosed = s.pins.estopInClosed

theorem inputsKept.of_pins {s t : State} (same : t.pins = s.pins) : inputsKept s t := by
  unfold inputsKept; rw [same]; exact ⟨rfl, rfl⟩

theorem inputsKept.trans {s t u : State} (h : inputsKept s t) (g : inputsKept t u) : inputsKept s u :=
  ⟨g.1.trans h.1, g.2.trans h.2⟩

/-! ## Causes -/

theorem leaveArming_inputs (s : State) : inputsKept s (leaveArming s) := ⟨rfl, rfl⟩

theorem actLive_inputs (n : CauseName) (s : State) : inputsKept s (actLive n s) := by
  rcases actLive_cases n s with ⟨_, _, e⟩ | ⟨_, _, e⟩ | ⟨_, _, e⟩ | ⟨_, e⟩ <;> rw [e]
  · exact .of_pins (enterStopping_frame n s).2.2.1
  · exact .of_pins (by simp)
  · unfold inputsKept
    rw [enterDropped_pins]
    exact ⟨rfl, rfl⟩
  · exact .of_pins rfl

theorem abortByCause_inputs (c : Cause) (s : State) : inputsKept s (abortByCause c s) := by
  unfold abortByCause
  cases c.name <;> exact ⟨rfl, rfl⟩

theorem causeNoted_inputs (c : Cause) (s : State) : inputsKept s (causeNoted c s) := ⟨rfl, rfl⟩

theorem takeCause_inputs (c : Cause) (s : State) : inputsKept s (takeCause c s) := by
  cases mode : s.mode.mode with
  | parked => rw [takeCause_parked c mode]; exact .of_pins rfl
  | arming => rw [takeCause_arming c mode]; exact (causeNoted_inputs c s).trans (abortByCause_inputs _ _)
  | live => rw [takeCause_live c mode]; exact (causeNoted_inputs c s).trans (actLive_inputs _ _)

theorem takeCauses_inputs (cs : List Cause) (s : State) : inputsKept s (takeCauses cs s) := by
  induction cs generalizing s with
  | nil => exact .of_pins rfl
  | cons c cs ih => exact (takeCause_inputs c s).trans (ih _)

theorem settleDecision_inputs (s : State) : inputsKept s (settleDecision s) := by
  unfold settleDecision
  split
  · rw [decideArming_eq]
    split
    · exact .of_pins (enterLive_frame _).2.2.1
    · exact leaveArming_inputs _
  · exact .of_pins rfl

theorem portError_inputs (p : PortId) (k : ErrKind) (s : State) : inputsKept s (portError p k s) := by
  unfold portError
  dsimp only
  split
  · split
    · exact takeCause_inputs _ (s.setLink _)
    · exact .of_pins rfl
  · exact .of_pins rfl

/-! ## The work of an outbound frame -/

theorem takeFlags_inputs (b : Byte) (s : State) : inputsKept s (takeFlags b s) := by
  have stopReq : inputsKept s (stopReqArrives b s) := by
    unfold stopReqArrives
    split
    · exact takeCause_inputs _ s
    · exact .of_pins rfl
  have grip (t : State) : inputsKept t (gripArrives b t) := by
    unfold gripArrives
    split
    · exact takeCause_inputs _ t
    · exact .of_pins rfl
  have resume (t : State) : inputsKept t (autoResume b t) := by
    unfold autoResume
    split
    · exact .of_pins rfl
    · exact .of_pins rfl
  unfold takeFlags
  exact (stopReq.trans (grip _)).trans (resume (State.setStop _ _))

theorem supply_inputs (s : State) : inputsKept s (supply s).1 := by
  by_cases running : s.take.play.state = .running
  · have advanced : inputsKept s (playAdvanced s) := .of_pins (startRead_frame _).2.2.1
    rw [supply_running running, playFrame_eq]
    split
    · exact advanced.trans (takeCause_inputs _ _)
    · exact advanced
  · by_cases cue : s.take.play.state = .cueing ∨ s.take.play.state = .cued
    · refine .of_pins ?_
      unfold supply; dsimp only
      rcases cue with h | h <;> rw [h] <;> dsimp only <;> split <;> rfl
    · rw [not_or] at cue
      rw [supply_away running cue.1 cue.2]; exact .of_pins rfl

theorem stopTick_inputs (s : State) : inputsKept s (stopTick s) := by
  by_cases rest : motionAtRest s = true
  · rw [stopTick_rests rest]; exact .of_pins rfl
  · by_cases late : s.stop.stopLimit ≤ satSucc 65535 s.stop.stopTimer
    · rw [stopTick_timesOut rest late]
      exact takeCause_inputs _ (s.setStop _)
    · rw [stopTick_waits rest (Nat.not_le.1 late)]; exact .of_pins rfl

theorem handOn_inputs (pl : Placement) (w : Word) (b : Bool) (r : Vector Conditioned 12) (s : State) :
    inputsKept s (handOn pl w b r s) := by
  have causes : inputsKept s (handedCauses pl w r s) :=
    inputsKept.trans (.of_pins (by simp [handedOn])) (takeCauses_inputs _ _)
  rw [handOn_eq]
  split
  · exact causes.trans (stopTick_inputs _)
  · exact causes

theorem finishOutbound_inputs (o : Outbound) (pl : Placement) (s : State) : inputsKept s (finishOutbound o pl s) := by
  have kept : inputsKept (supply s).1 (stored s) := by
    rw [← stored_def]
    exact .of_pins (storeConditioned_frame _ _).2.2.1
  rw [finishOutbound_eq]
  exact ((supply_inputs s).trans kept).trans ((handOn_inputs _ _ _ _ _).trans (.of_pins (queueD_frame _ _).2.2.1))

end Sys2Proof.Machine
end

section
/-! PROOFS. What a request leaves of the state as the frame that carries it found it, and how it is answered. -/

namespace Sys2Proof.Machine
open Sys2Proof.Claims

/-! ## The front of the part as a console frame leaves it -/

/-- A link that differs in nothing that a console frame has written: the settings and counters of its ports, its timer
settings, its losses and what waits for the console may differ. -/
def linkFront (k l : Link) : Prop :=
  l = { k with
    portC := { l.portC with rx := k.portC.rx }, portD := l.portD, silenceLimit := l.silenceLimit
    returnTimeout := l.returnTimeout, inFlight := l.inFlight, lossCount := l.lossCount, feedbackLost := l.feedbackLost
    totalLost := l.totalLost, armingLoss := l.armingLoss, sentC := l.sentC }

theorem linkFront.refl (l : Link) : linkFront l l := rfl

theorem linkFront.trans {k l m : Link} (h : linkFront k l) (g : linkFront l m) : linkFront k m := by
  unfold linkFront at *
  rw [h] at g
  exact g

/-- What a request keeps of the state that it finds. -/
structure FrontKept (s t : State) : Prop where
  pending : t.pending = s.pending
  timer : t.timer = s.timer
  inputs : inputsKept s t
  crew : t.zone.crew = s.zone.crew
  link : linkFront s.link t.link

theorem FrontKept.trans {s t u : State} (h : FrontKept s t) (g : FrontKept t u) : FrontKept s u where
  pending := g.pending.trans h.pending
  timer := g.timer.trans h.timer
  inputs := h.inputs.trans g.inputs
  crew := g.crew.trans h.crew
  link := h.link.trans g.link

theorem FrontKept.of_blocks {s t : State} (pending : t.pending = s.pending := by simp)
    (timer : t.timer = s.timer := by simp) (pins : t.pins = s.pins := by simp) (zone : t.zone = s.zone := by simp)
    (link : t.link = s.link := by simp) : FrontKept s t where
  pending := pending
  timer := timer
  inputs := .of_pins pins
  crew := congrArg ZoneMonitor.crew zone
  link := by rw [link]; exact .refl _

theorem FrontKept.refl (s : State) : FrontKept s s := .of_blocks

theorem FrontKept.of_link {s : State} {l : Link} (link : linkFront s.link l) : FrontKept s (s.setLink l) where
  pending := rfl
  timer := rfl
  inputs := .of_pins rfl
  crew := rfl
  link := link

theorem takeCause_front (c : Cause) (s : State) : FrontKept s (takeCause c s) := by
  obtain ⟨pending, timer, link, -, -, zone⟩ := takeCause_frame c s
  exact ⟨pending, timer, takeCause_inputs c s, congrArg ZoneMonitor.crew zone, by rw [link]; exact .refl _⟩

theorem abortArming_front (r : CheckResult) (e : AbortEvent) (m : Checks → Checks) (d : Option CheckDetail)
    (s : State) : FrontKept s (abortArming r e m d s) := ⟨rfl, rfl, ⟨rfl, rfl⟩, rfl, .refl _⟩

theorem answer_front (tag code : Byte) (r : Reply) (s : State) : FrontKept s (answer tag code r s) := .of_blocks

/-! ## The entries that time out -/

theorem afterLoss_front (e : InFlight) (s : State) : FrontKept s (afterLoss e s) := by
  have counted (s : State) : FrontKept s (s.setLink (lossCounted s.link)) := .of_link rfl
  have taken : FrontKept s (lossTaken s) := by
    unfold lossTaken
    split
    · exact (counted s).trans (takeCause_front _ _)
    · exact counted s
  have noted (s : State) : FrontKept s (s.setLink (lossNoted s.link)) := .of_link rfl
  have emptied (s : State) : FrontKept s (s.mapAllLens fun _ l => emptyWindow l) := .of_blocks
  have sent (s : State) : FrontKept s (sendConstructed e s) := .of_link rfl
  rw [afterLoss_eq]
  exact ((taken.trans (noted _)).trans (emptied _)).trans (sent _)

theorem loseEntries_front (n : Nat) (s : State) : FrontKept s (loseEntries n s) := by
  induction n generalizing s with
  | zero => exact .refl s
  | succ n ih =>
    refine FrontKept.trans (t := loseOldest s) ?_ (ih _)
    unfold loseOldest
    split
    case h_1 => exact .refl s
    case h_2 e rest _ =>
      have removed : FrontKept s (s.setLink { s.link with inFlight := rest }) :=
        .of_link (l := { s.link with inFlight := rest }) rfl
      exact removed.trans (afterLoss_front _ _)

/-! ## Bodies -/

/-- A request's own rule leaves what the frame found, and its reply has at most 37 bytes. -/
def serves (s : State) (u : State × Reply) : Prop := FrontKept s u.1 ∧ u.2.data.length ≤ 37

theorem serves_refuse (r : Result) (s : State) : serves s (refuse r s) := ⟨.refl s, Nat.zero_le _⟩

theorem serves_plain {s t : State} (r : Result) (front : FrontKept s t) : serves s (t, plain r) := ⟨front, Nat.zero_le _⟩

theorem serves_page (content : List Byte) (page : Byte) (s : State) : serves s (s, pageReply content page) := by
  refine ⟨.refl s, ?_⟩
  show (pageReply content page).data.length ≤ 37
  unfold pageReply pageData
  split
  · simp only [List.length_cons, List.length_take]; omega
  · exact Nat.zero_le _

theorem readSingle_serves (content : State → List Byte) (index page : Byte) (s : State) :
    serves s (readSingle content index page s) := by
  unfold readSingle; split
  · exact serves_page _ _ s
  · exact serves_refuse _ s

theorem readChannel_serves (content : Channel → LensChannel → List Byte) (index page : Byte) (s : State) :
    serves s (readChannel content index page s) := by
  unfold readChannel; split
  · exact serves_refuse _ s
  · exact serves_page _ _ s

theorem readPort_serves (index page : Byte) (s : State) : serves s (readPort index page s) := by
  unfold readPort; split
  · exact serves_refuse _ s
  · exact serves_page _ _ s

theorem readMemory_serves (index page : Byte) (s : State) : serves s (readMemory index page s) := by
  unfold readMemory; (repeat' split)
  · exact serves_page _ _ s
  · exact serves_page _ _ s
  · exact serves_refuse _ s

theorem readEntry_serves (index page : Byte) (s : State) : serves s (readEntry index page s) := by
  unfold readEntry; split
  · exact serves_page _ _ s
  · exact serves_refuse _ s

theorem setChannelBody_serves (channel cls role kind : Byte) (f : ChannelFields) (s : State) :
    serves s (setChannelBody channel cls role kind f s) := by
  have written (n : Fin 12) (d : Descriptor) : FrontKept s (writeDescriptor n d s) := by
    unfold writeDescriptor; dsimp only; split <;> exact .of_blocks
  unfold setChannelBody; (repeat' split)
  · exact serves_refuse _ s
  · exact serves_refuse _ s
  · exact serves_refuse _ s
  · exact serves_plain _ (written _ _)

theorem setSourceBody_serves (mask : Half) (source : Byte) (s : State) : serves s (setSourceBody mask source s) := by
  unfold setSourceBody; (repeat' split)
  · exact serves_refuse _ s
  · exact serves_refuse _ s
  · exact serves_refuse _ s
  · exact serves_plain _ .of_blocks

theorem stageWriteBody_serves (offset : Half) (bytes : List Byte) (s : State) :
    serves s (stageWriteBody offset bytes s) := by
  unfold stageWriteBody; split
  · exact serves_refuse _ s
  · exact serves_plain _ .of_blocks

theorem commitGeometryBody_serves (length : Half) (crc : Word) (s : State) :
    serves s (commitGeometryBody length crc s) := by
  unfold commitGeometryBody; (repeat' split)
  · exact serves_refuse _ s
  · exact serves_refuse _ s
  · exact serves_refuse _ s
  · exact serves_refuse _ s
  · exact serves_plain _ .of_blocks
  · exact serves_refuse _ s

theorem commitZoneBody_serves (length : Half) (crc : Word) (s : State) : serves s (commitZoneBody length crc s) := by
  have crew (z : ZoneMonitor) (id : BankId) (b : Bank) : (z.putBank id b).crew = z.crew := by cases id <;> rfl
  unfold commitZoneBody; (repeat' split)
  · exact serves_refuse _ s
  · exact serves_refuse _ s
  · exact serves_refuse _ s
  · exact serves_refuse _ s
  · exact serves_plain _ ⟨rfl, rfl, .of_pins rfl, crew _ _ _, .refl _⟩

theorem commitMapBody_serves (channel : Byte) (length : Half) (crc : Word) (s : State) :
    serves s (commitMapBody channel length crc s) := by
  unfold commitMapBody; (repeat' split)
  · exact serves_refuse _ s
  · exact serves_refuse _ s
  · exact serves_refuse _ s
  · exact serves_refuse _ s
  · exact serves_refuse _ s
  · exact serves_plain _ .of_blocks

theorem armBody_serves (s : State) : serves s (armBody s) := by
  unfold armBody; split
  · refine serves_plain _ ?_
    unfold armParked; split
    · exact .of_blocks
    · unfold beginArming
      exact ⟨by simp, by simp, ⟨by simp [closeChain], by simp [closeChain]⟩, by simp, by simp; rfl⟩
  · exact serves_refuse _ s

theorem leaveLive_front (s : State) : FrontKept s (leaveLive s) :=
  ⟨by simp, by simp, ⟨by simp [leaveLive, openChain], by simp [leaveLive, openChain]⟩, by simp, by simp; exact .refl _⟩

theorem parkBody_serves (s : State) : serves s (parkBody s) := by
  have parked : FrontKept s (parkLive s) := by
    unfold parkLive
    dsimp only
    split
    · have aborted : FrontKept s (abortPlay .park s) := .of_blocks
      exact (aborted.trans (leaveLive_front _)).trans .of_blocks
    · exact (leaveLive_front s).trans .of_blocks
  unfold parkBody; (repeat' split)
  · exact serves_refuse _ s
  · exact serves_plain _ (abortArming_front _ _ _ _ s)
  · exact serves_plain _ parked
  · exact serves_refuse _ s

theorem stopBody_serves (s : State) : serves s (stopBody s) := by
  unfold stopBody; split
  · exact serves_refuse _ s
  · exact serves_plain _ ((takeCause_front _ _).trans (abortArming_front _ _ _ _ _))
  · exact serves_plain _ (takeCause_front _ s)

theorem resumeBody_serves (s : State) : serves s (resumeBody s) := by
  unfold resumeBody; split
  · exact serves_refuse _ s
  · unfold resumeHeld; split
    · exact serves_plain _ .of_blocks
    · exact ⟨.refl s, by simp [u8]⟩
  · exact serves_refuse _ s

theorem releaseFaultBody_serves (s : State) : serves s (releaseFaultBody s) := by
  unfold releaseFaultBody; (repeat' split)
  · exact serves_refuse _ s
  · exact serves_refuse _ s
  · exact serves_plain _ .of_blocks

theorem putPort_front (p : PortId) (x : Port) (l : Link) (same : x.rx = (l.port p).rx) : linkFront l (l.putPort p x) := by
  cases p with
  | c => unfold linkFront; rw [← show x.rx = l.portC.rx from same]; rfl
  | d => rfl

/-- While the silence timer has not run for as long as any limit, a shorter one expires nothing (R172). -/
theorem setLinkBody_serves (x : Option LinkSettings) {s : State} (fresh : s.timer < s.link.silenceFrom + 1000) :
    serves s (setLinkBody x s) := by
  unfold setLinkBody; split
  · exact serves_refuse _ s
  case h_2 x =>
    refine serves_plain _ ?_
    have written : FrontKept s
        (s.setLink (s.link.putPort x.port (writeSettings x (s.link.port x.port)))) := .of_link (putPort_front _ _ _ rfl)
    refine written.trans ?_
    have limit : 1000 ≤ clampNat 1000 50000 x.timer := (clampNat_bounds (by omega) x.timer).1
    unfold writeTimer
    split
    case h_1 port =>
      rw [port]
      refine (if_neg ?_).symm ▸ .of_link rfl
      simp only [silenceDue, Bool.and_eq_true, decide_eq_true_eq, not_and, Nat.not_le]
      intro _
      exact Nat.lt_of_lt_of_le fresh (Nat.add_le_add_left limit s.link.silenceFrom)
    case h_2 =>
      have timed (u : State) :
          FrontKept u (u.setLink { u.link with returnTimeout := clampNat 100 2000 x.timer }) := .of_link rfl
      exact (timed _).trans (loseEntries_front _ _)

theorem clearCountersBody_serves (port kinds : Byte) (s : State) : serves s (clearCountersBody port kinds s) := by
  unfold clearCountersBody; split
  · exact serves_refuse _ s
  · exact serves_plain _ (.of_link (putPort_front _ _ _ rfl))

theorem setSyncBody_serves (cycles required : Byte) (s : State) : serves s (setSyncBody cycles required s) := by
  unfold setSyncBody; (repeat' split)
  · exact serves_refuse _ s
  · exact serves_refuse _ s
  · exact serves_plain _ .of_blocks

theorem recordBody_serves (take mask : Half) (s : State) : serves s (recordBody take mask s) := by
  unfold recordBody; (repeat' split)
  · exact serves_refuse _ s
  · exact serves_refuse _ s
  · exact serves_plain _ (.of_blocks rfl rfl rfl rfl rfl)
  · exact serves_refuse _ s

theorem recordEndBody_serves (s : State) : serves s (recordEndBody s) := by
  unfold recordEndBody; dsimp only; (repeat' split)
  · exact serves_refuse _ s
  · exact serves_plain _ (.of_blocks rfl rfl rfl rfl rfl)
  · exact serves_plain _ .of_blocks
  · exact serves_plain _ .of_blocks

theorem markBody_serves (s : State) : serves s (markBody s) := by
  unfold markBody; dsimp only; (repeat' split)
  · exact serves_refuse _ s
  · exact serves_refuse _ s
  · exact serves_refuse _ s
  · exact serves_plain _ .of_blocks

theorem cueBody_serves (take : Half) (mark : Byte) (s : State) : serves s (cueBody take mark s) := by
  have begun (i : Fin 32) : FrontKept s (beginCue i mark.toNat s) := by
    refine .of_blocks ?_ ?_ ?_ ?_ ?_ <;> simp [beginCue, compareMaps]
  unfold cueBody; dsimp only; (repeat' split)
  · exact serves_refuse _ s
  · exact serves_refuse _ s
  · exact serves_refuse _ s
  · exact serves_refuse _ s
  · exact serves_refuse _ s
  · exact serves_plain _ (begun _)

theorem setTriggerBody_serves (kind : Byte) (timecode : Word) (scale : Half) (s : State) :
    serves s (setTriggerBody kind timecode scale s) := by
  unfold setTriggerBody; split
  · exact serves_refuse _ s
  · exact serves_plain _ .of_blocks

theorem goBody_serves (s : State) : serves s (goBody s) := by
  unfold goBody; (repeat' split)
  · exact serves_refuse _ s
  · exact serves_refuse _ s
  · exact serves_plain _ .of_blocks

theorem deleteTakeBody_serves (take : Half) (s : State) : serves s (deleteTakeBody take s) := by
  unfold deleteTakeBody; dsimp only; (repeat' split)
  · exact serves_refuse _ s
  · exact serves_refuse _ s
  · exact serves_refuse _ s
  · exact serves_refuse _ s
  · exact serves_refuse _ s
  · exact serves_plain _ .of_blocks

theorem formatBody_serves (s : State) : serves s (formatBody s) := by
  unfold formatBody; split
  · exact serves_refuse _ s
  · exact serves_plain _ .of_blocks

theorem setMemoryBody_serves (singles : Byte) (s : State) : serves s (setMemoryBody singles s) := by
  unfold setMemoryBody; split
  · exact serves_refuse _ s
  · exact serves_plain _ .of_blocks

theorem lensCalibrateBody_serves (channel : Byte) (s : State) : serves s (lensCalibrateBody channel s) := by
  unfold lensCalibrateBody; (repeat' split)
  · exact serves_refuse _ s
  · exact serves_refuse _ s
  · exact serves_refuse _ s
  · exact serves_refuse _ s
  · exact serves_plain _ .of_blocks

theorem armCaptureBody_serves (kind channel : Byte) (value : Word) (direction scope : Byte) (s : State) :
    serves s (armCaptureBody kind channel value direction scope s) := by
  unfold armCaptureBody; (repeat' split)
  · exact serves_refuse _ s
  · exact serves_refuse _ s
  · exact serves_plain _ .of_blocks

theorem softResetBody_serves (s : State) : serves s (softResetBody s) := by
  refine serves_plain _ ?_
  rw [softReset_blocks]
  exact ⟨rfl, rfl, ⟨rfl, rfl⟩, rfl, .refl _⟩

end Sys2Proof.Machine
end

section
/-! PROOFS. The request of a service field: as it is read, executed and answered. -/

namespace Sys2Proof.Machine
open Sys2Proof.Claims

/-! ## A request answered -/

/-- What a request of a tag and a code leaves: nothing for tag 0, else its reply and the record of it (R181, R184). -/
structure Answered (tag code : Byte) (s t : State) : Prop where
  front : FrontKept s t
  untagged : tag = 0 → t = s
  tagged : tag ≠ 0 → ∃ r : Reply, r.data.length ≤ 37 ∧ t.service.reply = some (tag, r) ∧
    t.service.lastReply = some { tag := tag, code := code, result := r.result }

theorem answer_answered {tag code : Byte} {r : Reply} {s t : State} (tagged : tag ≠ 0) (served : serves s (t, r)) :
    Answered tag code s (answer tag code r t) where
  front := served.1.trans (answer_front _ _ _ _)
  untagged zero := absurd zero tagged
  tagged _ := ⟨r, served.2, rfl, rfl⟩

theorem request_answered {tag code : Byte} {body : Body} {s : State} (served : serves s (body s)) :
    Answered tag code s (request tag code body s) := by
  rcases request_cases tag code body s with ⟨zero, same⟩ | ⟨tagged, refused⟩ | ⟨tagged, run⟩
  · rw [same]
    exact ⟨.refl s, fun _ => rfl, fun tagged => absurd zero tagged⟩
  · rw [refused]
    exact answer_answered tagged (serves_refuse _ s)
  · rw [run]
    exact answer_answered tagged served

/-- The code of a request (section 10.4), 0 for an event. -/
def codeOf (i : Instr) : Byte := ((encodeParams i).map Prod.fst).getD 0

/-- Every request is answered under its tag and its code; an event is no request. -/
theorem runRequest_answered (i : Instr) {s : State} (fresh : s.timer < s.link.silenceFrom + 1000) :
    Answered (i.tag?.getD 0) (codeOf i) s (runRequest i s) := by
  cases i with
  | identify => exact request_answered ⟨.refl s, show 10 ≤ 37 by omega⟩
  | readStatusCrane => exact request_answered (readSingle_serves _ _ _ s)
  | readStatusChannel => exact request_answered (readChannel_serves _ _ _ s)
  | readStatusPort => exact request_answered (readPort_serves _ _ s)
  | readStatusSafety => exact request_answered (readSingle_serves _ _ _ s)
  | readStatusFaultRecord => exact request_answered (readSingle_serves _ _ _ s)
  | readStatusCaptureRecord => exact request_answered (readSingle_serves _ _ _ s)
  | readStatusMemory => exact request_answered (readMemory_serves _ _ s)
  | readStatusDirectoryEntry => exact request_answered (readEntry_serves _ _ s)
  | readStatusPlayStatus => exact request_answered (readSingle_serves _ _ _ s)
  | readStatusSelfCheck => exact request_answered (readSingle_serves _ _ _ s)
  | readStatusLensChannel => exact request_answered (readChannel_serves _ _ _ s)
  | readStatusLastReply => exact request_answered (readSingle_serves _ _ _ s)
  | setChannel => exact request_answered (setChannelBody_serves _ _ _ _ _ s)
  | setSource => exact request_answered (setSourceBody_serves _ _ s)
  | stageWrite tag offset bytes =>
    by_cases long : tag ≠ 0 ∧ 32 < bytes.length
    · rw [show runRequest (.stageWrite tag offset bytes) s = answer tag 0x18 (plain .badParam) s from if_pos long]
      exact answer_answered long.1 (serves_refuse _ s)
    · rw [show runRequest (.stageWrite tag offset bytes) s = request tag 0x18 (stageWriteBody offset bytes) s from
        if_neg long]
      exact request_answered (stageWriteBody_serves _ _ s)
  | commitGeometry => exact request_answered (commitGeometryBody_serves _ _ s)
  | commitZoneShadow => exact request_answered (commitZoneBody_serves _ _ s)
  | commitLensMap => exact request_answered (commitMapBody_serves _ _ _ s)
  | zoneSwap => exact request_answered (serves_plain _ ⟨rfl, rfl, .of_pins rfl, rfl, .refl _⟩)
  | arm => exact request_answered (armBody_serves s)
  | park => exact request_answered (parkBody_serves s)
  | stop => exact request_answered (stopBody_serves s)
  | resume => exact request_answered (resumeBody_serves s)
  | releaseFault => exact request_answered (releaseFaultBody_serves s)
  | setStop => exact request_answered (serves_plain _ .of_blocks)
  | setLink => exact request_answered (setLinkBody_serves _ fresh)
  | clearCounters => exact request_answered (clearCountersBody_serves _ _ s)
  | setSync => exact request_answered (setSyncBody_serves _ _ s)
  | record => exact request_answered (recordBody_serves _ _ s)
  | recordEnd => exact request_answered (recordEndBody_serves s)
  | mark => exact request_answered (markBody_serves s)
  | cue => exact request_answered (cueBody_serves _ _ s)
  | setTrigger => exact request_answered (setTriggerBody_serves _ _ _ s)
  | go => exact request_answered (goBody_serves s)
  | abortPlay => exact request_answered (serves_plain _ .of_blocks)
  | deleteTake => exact request_answered (deleteTakeBody_serves _ s)
  | format => exact request_answered (formatBody_serves s)
  | releaseMemoryError => exact request_answered (serves_plain _ .of_blocks)
  | setMemory => exact request_answered (setMemoryBody_serves _ s)
  | lensCalibrate => exact request_answered (lensCalibrateBody_serves _ s)
  | setEmbed => exact request_answered (serves_plain _ .of_blocks)
  | armCapture => exact request_answered (armCaptureBody_serves _ _ _ _ _ s)
  | releaseCapture => exact request_answered (serves_plain _ .of_blocks)
  | softReset => exact request_answered (softResetBody_serves s)
  | _ => exact ⟨.refl s, fun _ => rfl, fun tagged => absurd rfl tagged⟩

/-- A request in a frame has the meaning of its row (R182). -/
theorem runRequest_exec {i : Instr} {tag : Byte} (request : i.tag? = some tag) (s : State) :
    runRequest i s = stateAfter s (exec i s) := by
  cases i <;> cases request <;> rfl

/-! ## A service field read -/

/-- What a service field's bytes 0 and 1 are to the request that is read from it. -/
def readAs (f : List Byte) : Decoded → Prop
  | .nothing => byteAt f 0 = 0
  | .command i => byteAt f 0 ≠ 0 ∧ i.tag? = some (byteAt f 0) ∧ codeOf i = byteAt f 1
  | .rejected tag code why => tag ≠ 0 ∧ tag = byteAt f 0 ∧ code = byteAt f 1 ∧ (why = .badTarget → code = 0x19)

theorem readAs_orReject {f : List Byte} {why : Reject} {r : Option Instr} (tagged : byteAt f 0 ≠ 0)
    (target : why = .badTarget → byteAt f 1 = 0x19)
    (command : ∀ i, r = some i → i.tag? = some (byteAt f 0) ∧ codeOf i = byteAt f 1) :
    readAs f (orReject (byteAt f 0) (byteAt f 1) why r) := by
  cases r with
  | none => exact ⟨tagged, rfl, rfl, target⟩
  | some i => exact ⟨tagged, command i rfl⟩

theorem decodeSelector_reads {tag sel index page : Byte} {i : Instr} (found : decodeSelector tag sel index page = some i) :
    i.tag? = some tag ∧ codeOf i = 0x02 := by
  unfold decodeSelector at found
  split at found <;> cases found <;> exact ⟨rfl, rfl⟩

theorem decodeTarget_reads {tag target channel : Byte} {length : Half} {crc : Word} {i : Instr}
    (found : decodeTarget tag target channel length crc = some i) : i.tag? = some tag ∧ codeOf i = 0x19 := by
  unfold decodeTarget at found
  split at found <;> cases found <;> exact ⟨rfl, rfl⟩

theorem decodeParams_reads {f : List Byte} (tagged : byteAt f 0 ≠ 0) : readAs f (decodeParams f) := by
  have code {k : Byte} (is : (byteAt f 1).toNat = k.toNat) : k = byteAt f 1 := (BitVec.eq_of_toNat_eq is).symm
  unfold decodeParams
  dsimp only
  split
  case h_2 is =>
    refine readAs_orReject tagged nofun fun i found => ?_
    obtain ⟨tag, selected⟩ := decodeSelector_reads found
    exact ⟨tag, selected.trans (code (k := 0x02) is)⟩
  case h_6 is =>
    refine readAs_orReject tagged (fun _ => (code (k := 0x19) is).symm) fun i found => ?_
    obtain ⟨tag, targeted⟩ := decodeTarget_reads found
    exact ⟨tag, targeted.trans (code (k := 0x19) is)⟩
  case h_33 => exact ⟨tagged, rfl, rfl, nofun⟩
  all_goals exact ⟨tagged, rfl, code ‹_›⟩

theorem decodeService_reads (f : List Byte) : readAs f (decodeService f) := by
  unfold decodeService
  dsimp only
  split
  case isTrue zero => exact zero
  case isFalse tagged =>
    split
    · exact ⟨tagged, rfl, rfl, nofun⟩
    · split
      · exact ⟨tagged, rfl, rfl, nofun⟩
      · split
        · exact ⟨tagged, rfl, rfl, nofun⟩
        · exact decodeParams_reads tagged

/-- A service field served: the request it spells is answered under its tag and its code (R181 to R184). -/
theorem serve_answered (f : List Byte) {s : State} (fresh : s.timer < s.link.silenceFrom + 1000) :
    Answered (byteAt f 0) (byteAt f 1) s (serve f s) := by
  have read := decodeService_reads f
  unfold serve
  cases spelled : decodeService f with
  | nothing =>
    rw [spelled] at read
    exact ⟨.refl s, fun _ => rfl, fun tagged => absurd read tagged⟩
  | command i =>
    rw [spelled] at read
    obtain ⟨-, tag, code⟩ := read
    have run := runRequest_answered i fresh
    rw [tag, code] at run
    exact run
  | rejected tag code why =>
    rw [spelled] at read
    obtain ⟨tagged, tag_, code_, target⟩ := read
    rw [← tag_, ← code_]
    cases why with
    | tooLong | unknownCode | wrongLength => exact answer_answered tagged (serves_refuse _ s)
    | badSelector => exact request_answered (serves_refuse _ s)
    | badTarget =>
      rw [target rfl]
      exact request_answered (serves_refuse _ s)

/-- The state that a request which a service field spells leaves is its row's (R182). -/
theorem serve_command {f : List Byte} {i : Instr} {s t : State} (spelled : decodeService f = .command i)
    (run : exec i s = .next t) : serve f s = t := by
  have read := decodeService_reads f
  rw [spelled] at read
  obtain ⟨-, tag, -⟩ := read
  unfold serve
  rw [spelled]
  exact (runRequest_exec tag s).trans (congrArg (stateAfter s) run)

end Sys2Proof.Machine
end

section
/-! PROOFS. GoodConsoleFrameForwarded: a good console frame taken in, its request served, its conditioned frame queued. -/

namespace Sys2Proof.Machine
open Sys2Proof.Claims

/-! ## The drives as they were granted -/

/-- What decides ENABLE is as it was: the crane mode, the drives granted, and whether they are dropped (R27). -/
structure DrivesAlike (s t : State) : Prop where
  mode : t.mode.mode = s.mode.mode
  granted : t.mode.granted = s.mode.granted
  dropped : t.stop.safety = .dropped ↔ s.stop.safety = .dropped

theorem DrivesAlike.trans {s t u : State} (h : DrivesAlike s t) (g : DrivesAlike t u) : DrivesAlike s u where
  mode := g.mode.trans h.mode
  granted := g.granted.trans h.granted
  dropped := g.dropped.trans h.dropped

theorem DrivesAlike.of_blocks {s t : State} (mode : t.mode = s.mode) (stop : t.stop.safety = s.stop.safety) :
    DrivesAlike s t where
  mode := by rw [mode]
  granted := by rw [mode]
  dropped := by rw [stop]

/-- A controlled cause neither drops the drives nor ends a drop (R66, R69). -/
theorem takeCause_drives {c : Cause} (controlled : c.name.cls = .c) (s : State) : DrivesAlike s (takeCause c s) := by
  have mode := takeCause_mode controlled s
  refine ⟨by rw [mode], by rw [mode], ?_⟩
  cases crane : s.mode.mode with
  | parked => rw [takeCause_parked c crane]
  | arming =>
    rw [takeCause_arming c crane, (abortByCause_frame c _).2.2.2.2.2.2.2.1]; rfl
  | live =>
    cases safety : s.stop.safety with
    | normal => rw [takeCause_controlled crane controlled safety, enterStopping_stop]; exact ⟨nofun, nofun⟩
    | stopping | held =>
      rw [takeCause_later crane controlled (by rw [safety]; simp), laterSoft_stop]
      simp [causeNoted, safety]
    | dropped =>
      rw [takeCause_dropped c crane safety]
      exact ⟨fun _ => rfl, fun _ => safety⟩

theorem portError_drives (p : PortId) (k : ErrKind) (s : State) : DrivesAlike s (portError p k s) := by
  have counted (l : Link) : DrivesAlike s (s.setLink l) := .of_blocks rfl rfl
  unfold portError
  dsimp only
  split
  · split
    · exact (counted _).trans (takeCause_drives rfl _)
    · exact counted _
  · exact .of_blocks rfl rfl

theorem takeFlags_drives (b : Byte) (s : State) : DrivesAlike s (takeFlags b s) := by
  have stopReq : DrivesAlike s (stopReqArrives b s) := by
    unfold stopReqArrives
    split
    · exact takeCause_drives rfl s
    · exact .of_blocks rfl rfl
  have grip (t : State) : DrivesAlike t (gripArrives b t) := by
    unfold gripArrives
    split
    · exact takeCause_drives rfl t
    · exact .of_blocks rfl rfl
  have resume (t : State) : DrivesAlike t (autoResume b t) := by
    unfold autoResume
    split
    case isTrue auto =>
      obtain ⟨-, held, -⟩ := auto
      exact ⟨rfl, rfl, by rw [held]; exact ⟨nofun, nofun⟩⟩
    · exact .of_blocks rfl rfl
  have noted (t : State) : DrivesAlike t
      (t.setStop { t.stop with stopReqMemory := stopReqFlag b, gripMemory := gripFlag b }) := .of_blocks rfl rfl
  unfold takeFlags
  exact ((stopReq.trans (grip _)).trans (noted _)).trans (resume _)

theorem supply_drives (s : State) : DrivesAlike s (supply s).1 := by
  by_cases running : s.take.play.state = .running
  · have advanced : DrivesAlike s (playAdvanced s) :=
      .of_blocks (startRead_frame _).2.2.2.2.2.1 (by rw [(playAdvanced_leaves running).1])
    rw [supply_running running, playFrame_eq]
    split
    · exact advanced.trans (takeCause_drives rfl _)
    · exact advanced
  · by_cases cue : s.take.play.state = .cueing ∨ s.take.play.state = .cued
    · have same : (supply s).1.mode = s.mode ∧ (supply s).1.stop = s.stop := by
        unfold supply; dsimp only
        rcases cue with h | h <;> rw [h] <;> dsimp only <;> split <;> exact ⟨rfl, rfl⟩
      exact .of_blocks same.1 (by rw [same.2])
    · rw [not_or] at cue
      rw [supply_away running cue.1 cue.2]; exact .of_blocks rfl rfl

/-! ## Descriptors -/

/-- A frame's outbound work changes no descriptor. -/
theorem finishOutbound_desc (o : Outbound) (pl : Placement) (s : State) (n : Fin 12) :
    ((finishOutbound o pl s).cond.chans[n]).desc = (s.cond.chans[n]).desc := by
  have held := finishOutbound_at (o := o) (pl := pl) (s := s) n
  unfold holdOnly at held
  rw [held, ← conditioned_def]
  show ((conditionAll (supply s).2 (supply s).1)[n]).chan.desc = _
  rw [conditionAll_at, conditionChannel_desc]
  exact (supply_steady s).desc n

/-! ## The frame read and timed -/

/-- A good CYCLE frame is of class good (R167). -/
theorem classify_good {clean : Bool} {bytes : List Byte} (good : goodCycle clean bytes) :
    classify kindCycle clean bytes = .good := by
  obtain ⟨rfl, length, crc, kind⟩ := good
  have intact : frameIntact bytes = true := by
    unfold frameIntact
    rw [crc, Bool.and_eq_true]
    exact ⟨decide_eq_true length, beq_self_eq_true _⟩
  unfold classify
  rw [intact]
  exact if_pos kind

/-- A receiver that listens has taken in a whole good frame (R166). -/
theorem rxFrame_good {r : Receiver} : rxFrame true r = frameTaken true r := by
  unfold rxFrame frameTaken
  cases sync : r.sync with
  | unsync | framed => rfl
  | symbol =>
    by_cases first : r.goodRun = 0
    · simp [first]
    · simp only [if_pos, if_neg first, show 2 ≤ r.goodRun + 1 by omega]

theorem frameTaken_listening {good : Bool} {r : Receiver} (listens : r.listening = true) :
    (frameTaken good r).listening = true := by
  unfold frameTaken
  split
  case isTrue symbol =>
    (repeat' split) <;> simp [Receiver.listening, symbol]
  case isFalse => exact listens

theorem periodOk_iff (n : Nat) : periodOk n = true ↔ 500 ≤ n ∧ n ≤ 4000 := by
  unfold periodOk
  rw [Bool.and_eq_true, decide_eq_true_eq, decide_eq_true_eq]

/-- The sequence test (R169). -/
theorem sequenceFails_iff (l : Link) (now : Nat) (cycle : Half) :
    sequenceFails l now cycle = true ↔ ∃ before, l.lastArrival = some before ∧ l.consoleAbsent = false ∧
      (now - before < 500 ∨ 4000 < now - before ∨ ∃ e, l.expected = some e ∧ e ≠ cycle) := by
  unfold sequenceFails
  cases l.lastArrival with
  | none => exact ⟨nofun, nofun⟩
  | some before =>
    have inside : periodOk (now - before) = false ↔ now - before < 500 ∨ 4000 < now - before := by
      rw [← Bool.not_eq_true, periodOk_iff]; omega
    simp only [Bool.and_eq_true, Bool.not_eq_true', Bool.or_eq_true, inside, Option.some.injEq, exists_eq_left']
    refine and_congr_right fun _ => ?_
    rw [or_assoc]
    refine or_congr_right (or_congr_right ?_)
    cases l.expected with
    | none => exact ⟨nofun, nofun⟩
    | some e => simp

/-! ## A good frame adopted -/

theorem adoptConsole_eq (f : Frame) (s : State) :
    adoptConsole f s = { s with
      link := { s.link with
        silenceFrom := s.timer, consoleAbsent := false, part := s.link.part + 1
        offset := (s.link.part + 1).setWidth 16 - f.cycle, lastGood := some (goodRecord f) }
      mode := { s.mode with count := if s.mode.mode = .arming then min (s.mode.count + 1) 250 else s.mode.count }
      service := { s.service with reply := none }
      take := { s.take with cueScaleNow := s.take.cueScale }
      cond := { s.cond with chans := Vector.ofFn fun n : Fin 12 => { s.cond.chans[n] with pendingNew := false } } } := by
  unfold adoptConsole
  dsimp only
  rw [takePart_eq]
  rfl

/-- A console frame timed at a receiver that has taken it in (R166, R169). -/
def arrivalNoted (cycle : Half) (s : State) : State :=
  s.setLink (noteArrival s.timer (some cycle)
    { s.link with portC := { s.link.portC with rx := frameTaken true s.link.portC.rx } })

/-- The state with the SEQUENCE error of a frame that fails the sequence test counted (R169). -/
def sequenceCounted (cycle : Half) (s : State) : State :=
  if sequenceFails s.link s.timer cycle = true then portError .c .sequence s else s

theorem sequenceCounted_blocks (cycle : Half) {s : State} (listens : s.link.portC.rx.listening = true) :
    (sequenceCounted cycle s).pending = s.pending ∧ (sequenceCounted cycle s).timer = s.timer ∧
    inputsKept s (sequenceCounted cycle s) ∧ (sequenceCounted cycle s).service = s.service ∧
    (sequenceCounted cycle s).geo = s.geo ∧ (sequenceCounted cycle s).zone = s.zone ∧
    (sequenceCounted cycle s).link = { s.link with portC := (sequenceCounted cycle s).link.portC } ∧
    (sequenceCounted cycle s).link.portC.rx = s.link.portC.rx ∧ DrivesAlike s (sequenceCounted cycle s) := by
  unfold sequenceCounted
  split
  · obtain ⟨pending, timer, service, geo, zone⟩ := portError_frame .c .sequence s
    have link := portError_link (p := .c) (k := .sequence) listens
    refine ⟨pending, timer, portError_inputs _ _ s, service, geo, zone, ?_, ?_, portError_drives _ _ s⟩ <;>
      rw [link] <;> rfl
  · exact ⟨rfl, rfl, .of_pins rfl, rfl, rfl, rfl, rfl, rfl, .of_blocks rfl rfl⟩

theorem sequenceCounted_steady (cycle : Half) (s : State) : Steady s (sequenceCounted cycle s) := by
  unfold sequenceCounted
  split
  · exact portError_steady _ _ s
  · exact .refl s

/-- A good console frame taken in: an arming decision still due made, the SEQUENCE error counted, the receiver moved, the
arrival timed, then the frame's work (R167, R169, R170). -/
theorem consoleFrame_good {clean : Bool} {bytes : List Byte} {s : State} (listens : s.link.portC.rx.listening = true)
    (good : goodCycle clean bytes) :
    consoleFrame clean bytes s = goodConsole (parseFrame bytes)
      (arrivalNoted (halfAt bytes 2) (sequenceCounted (halfAt bytes 2) (settleDecision s))) := by
  have link : (settleDecision s).link = s.link := (settleDecision_frame s).2.2.1
  have hears : (settleDecision s).link.portC.rx.listening = true := by rw [link]; exact listens
  have moved : takeIn .c .good clean (settleDecision s) =
      setRx .c (frameTaken true (settleDecision s).link.portC.rx) (settleDecision s) := by
    rw [← rxFrame_good]; rfl
  unfold consoleFrame
  dsimp only
  rw [classify_good good, if_pos rfl, moved]
  refine congrArg (goodConsole (parseFrame bytes)) ?_
  have after : (frameTaken true (settleDecision s).link.portC.rx).listening = true := frameTaken_listening hears
  have test : sequenceFails (setRx .c (frameTaken true (settleDecision s).link.portC.rx) (settleDecision s)).link
      (setRx .c (frameTaken true (settleDecision s).link.portC.rx) (settleDecision s)).timer (halfAt bytes 2) =
      sequenceFails (settleDecision s).link (settleDecision s).timer (halfAt bytes 2) := rfl
  have cycle : (parseFrame bytes).cycle = halfAt bytes 2 := rfl
  obtain ⟨-, -, -, -, -, -, -, rx, -⟩ := sequenceCounted_blocks (halfAt bytes 2) hears
  rw [cycle, test]
  have same : (if sequenceFails (settleDecision s).link (settleDecision s).timer (halfAt bytes 2) = true then
        portError .c .sequence (setRx .c (frameTaken true (settleDecision s).link.portC.rx) (settleDecision s))
      else setRx .c (frameTaken true (settleDecision s).link.portC.rx) (settleDecision s)) =
      setRx .c (frameTaken true (sequenceCounted (halfAt bytes 2) (settleDecision s)).link.portC.rx)
        (sequenceCounted (halfAt bytes 2) (settleDecision s)) := by
    rw [rx, portError_setRx hears after]
    unfold sequenceCounted
    split <;> rfl
  rw [same]
  rfl

/-! ## Its flags, its placement and its request -/

/-- A state that a frame's flags and its placement have passed through. -/
def flagged (r : State → State) (f : Frame) (s : State) : State := (placeOutbound r f.timecode (takeFlags f.flags s)).1

theorem flagged_blocks (r : State → State) (f : Frame) (s : State) :
    (flagged r f s).link = s.link ∧ (flagged r f s).service = s.service ∧ (flagged r f s).geo = s.geo ∧
    (flagged r f s).zone = s.zone ∧ (flagged r f s).timer = s.timer := by
  obtain ⟨-, timer, link, service, geo, zone⟩ := takeFlags_frame f.flags s
  obtain ⟨-, timer', -, link', service', -, -, geo', zone', -⟩ :=
    placeOutbound_frame r f.timecode (takeFlags f.flags s)
  exact ⟨link'.trans link, service'.trans service, geo'.trans geo, zone'.trans zone, timer'.trans timer⟩

theorem flagged_front (r : State → State) (f : Frame) (s : State) : FrontKept s (flagged r f s) := by
  obtain ⟨pending, timer, link, -, -, zone⟩ := takeFlags_frame f.flags s
  obtain ⟨pending', timer', pins', link', -, -, -, -, zone', -⟩ :=
    placeOutbound_frame r f.timecode (takeFlags f.flags s)
  have flags : FrontKept s (takeFlags f.flags s) :=
    ⟨pending, timer, takeFlags_inputs _ s, congrArg ZoneMonitor.crew zone, by rw [link]; exact .refl _⟩
  exact flags.trans (.of_blocks pending' timer' pins' zone' link')

theorem flagged_drives (r : State → State) (f : Frame) (s : State) : DrivesAlike s (flagged r f s) := by
  obtain ⟨-, -, -, -, -, mode, -, -, -, stop, -⟩ := placeOutbound_frame r f.timecode (takeFlags f.flags s)
  exact (takeFlags_drives _ s).trans (.of_blocks mode (by rw [← stop]; rfl))

theorem flagged_desc (r : State → State) (f : Frame) (s : State) (n : Fin 12) :
    ((flagged r f s).cond.chans[n]).desc = (s.cond.chans[n]).desc :=
  ((takeFlags_steady _ s).trans (placeOutbound_steady _ _ _)).desc n

/-- What a good frame's work leaves of a fresh state, and the frame that it queues (R170, R173, R181, R182). -/
theorem goodConsole_queues (f : Frame) {u : State} :
    let a := adoptConsole f u
    let placed := flagged (serve f.service) f a
    let v := serve f.service placed
    let t := goodConsole f u
    t = finishOutbound (consoleOutbound f) (placeOutbound (serve f.service) f.timecode (takeFlags f.flags a)).2 v ∧
    FrontKept a v ∧ Answered (byteAt f.service 0) (byteAt f.service 1) placed v := by
  intro a placed v t
  have fresh : placed.timer < placed.link.silenceFrom + 1000 := by
    obtain ⟨link, -, -, -, timer⟩ := flagged_blocks (serve f.service) f a
    show (flagged (serve f.service) f a).timer < (flagged (serve f.service) f a).link.silenceFrom + 1000
    rw [link, timer, show a = _ from adoptConsole_eq f u]
    exact Nat.lt_add_of_pos_right (by omega)
  have answered := serve_answered f.service fresh
  exact ⟨rfl, (flagged_front _ _ a).trans answered.front, answered⟩

end Sys2Proof.Machine

namespace Sys2Proof.Proofs
open Sys2Proof.Machine Sys2Proof.Claims

/-- Settles O35: the frame timed and adopted, its flags, its placement and its request, then the frame queued. -/
theorem goodConsoleFrameForwarded : Obligations.GoodConsoleFrameForwarded := by
  intro elapsed clean bytes s synced good now cycle tag decided late counted record period port
  have listens : s.link.portC.rx.listening = true := bne_iff_ne.2 synced
  have settled : decided = settleDecision { s with timer := now } := rfl
  obtain ⟨pending, timer, link, service, zone, -⟩ := settleDecision_frame { s with timer := now }
  rw [← settled] at pending timer link service zone
  have hears : decided.link.portC.rx.listening = true := by rw [link]; exact listens
  have count : counted = sequenceCounted cycle decided := by
    have fails : sequenceFails decided.link decided.timer cycle = true ↔ late := by
      rw [sequenceFails_iff, link, timer]
    show (if late then _ else _) = _
    unfold sequenceCounted
    by_cases h : late
    · exact (if_pos h).trans (if_pos (fails.2 h)).symm
    · exact (if_neg h).trans (if_neg (mt fails.1 h)).symm
  obtain ⟨pending_, timer_, inputs_, service_, geo_, zone_, link_, rx_, drives_⟩ := sequenceCounted_blocks cycle hears
  rw [← count] at pending_ timer_ inputs_ service_ geo_ zone_ link_ rx_ drives_
  have run : exec (.consoleFrameArrival elapsed clean bytes) s =
      .next (goodConsole (parseFrame bytes) (arrivalNoted cycle counted)) := by
    rw [count]
    exact congrArg Host.Outcome.next ((if_pos listens).trans
      (consoleFrame_good (s := { s with timer := now }) listens good))
  have part : counted.link.part = s.link.part := by rw [link_, link]
  have timed : (noteArrival now (some cycle) { counted.link with portC := port }).period = period := by
    have arrival : counted.link.lastArrival = s.link.lastArrival := by rw [link_, link]
    have before : counted.link.period = s.link.period := by rw [link_, link]
    unfold noteArrival
    dsimp only
    rw [arrival, before]
    cases last : s.link.lastArrival with
    | none => simp only [period, last]
    | some before =>
      simp only [period, last]
      by_cases inside : 500 ≤ now - before ∧ now - before ≤ 4000
      · rw [if_pos inside, if_pos ((periodOk_iff _).2 inside)]
      · rw [if_neg inside, if_neg (mt (periodOk_iff _).1 inside)]
  have adopted := adoptConsole_eq (parseFrame bytes) (arrivalNoted cycle counted)
  have heard : (arrivalNoted cycle counted).link =
      { counted.link with
        portC := port, period := period, expected := some (cycle + 1), lastArrival := some now } := by
    rw [← timed]
    unfold arrivalNoted
    rw [timer_, timer, rx_, link]
    rfl
  have noted : (goodRecord (parseFrame bytes)) = record := by
    have values : (parseFrame bytes).slots.map Slot.value = Vector.ofFn fun n : Fin 12 => wordAt bytes (9 + 5 * n) :=
      table_ext fun n => by simp [parseFrame]
    unfold goodRecord
    rw [values]
    rfl
  have alink : (adoptConsole (parseFrame bytes) (arrivalNoted cycle counted)).link = { counted.link with
      portC := port, period := period, expected := some (cycle + 1), lastArrival := some now, silenceFrom := now
      consoleAbsent := false, part := s.link.part + 1, offset := (s.link.part + 1).setWidth 16 - cycle
      lastGood := some record } := by
    rw [adopted, heard, noted, ← part]
    rw [show (arrivalNoted cycle counted).timer = now from timer_.trans timer]
    rfl
  obtain ⟨whole, front, answered⟩ := goodConsole_queues (parseFrame bytes) (u := arrivalNoted cycle counted)
  have blocks : ∀ a, a = adoptConsole (parseFrame bytes) (arrivalNoted cycle counted) →
      a.mode = { counted.mode with
        count := if counted.mode.mode = .arming then min (counted.mode.count + 1) 250 else counted.mode.count } ∧
      a.stop = counted.stop ∧ a.zone = counted.zone ∧ a.store = counted.store ∧ a.lens = counted.lens ∧
      a.take = { counted.take with cueScaleNow := counted.take.cueScale } ∧
      (∀ n : Fin 12, a.cond.chans[n] = { counted.cond.chans[n] with pendingNew := false }) ∧
      a.pending = counted.pending ∧ a.timer = counted.timer ∧ a.pins = counted.pins ∧ a.geo = counted.geo ∧
      a.service = { counted.service with reply := none } := by
    rintro a rfl
    rw [adopted]
    exact ⟨rfl, rfl, rfl, rfl, rfl, rfl, fun n => Vector.getElem_ofFn _, rfl, rfl, rfl, rfl, rfl⟩
  rw [whole] at run
  generalize adoptConsole (parseFrame bytes) (arrivalNoted cycle counted) = a at *
  obtain ⟨amode, astop, azone, astore, alens, atake, achans, apending, atimer, apins, ageo, aservice⟩ := blocks a rfl
  generalize placement : flagged (serve (parseFrame bytes).service) (parseFrame bytes) a = placed at *
  generalize served : serve (parseFrame bytes).service placed = v at *
  obtain ⟨f, queued, kind, fpart, fcycle, stamp, reply, code, flags, number, timecode, field, tracking, slots⟩ :=
    finishOutbound_queues (consoleOutbound (parseFrame bytes))
      (placeOutbound (serve (parseFrame bytes).service) (parseFrame bytes).timecode
        (takeFlags (parseFrame bytes).flags a)).2 v
  obtain ⟨pending', timer', service', geo', zone'⟩ := finishOutbound_frame (consoleOutbound (parseFrame bytes))
      (placeOutbound (serve (parseFrame bytes).service) (parseFrame bytes).timecode
        (takeFlags (parseFrame bytes).flags a)).2 v
  have vlink := front.link
  unfold linkFront at vlink
  rw [alink] at vlink
  have ready : v.link.readyD = s.link.readyD := (congrArg Link.readyD vlink).trans (by rw [link_, link])
  have vpart : v.link.part = s.link.part + 1 := congrArg Link.part vlink
  have tag_ : byteAt (parseFrame bytes).service 0 = tag := rfl
  have code_ : byteAt (parseFrame bytes).service 1 = byteAt bytes 69 := rfl
  rw [tag_, code_] at answered
  have inputs : inputsKept s (finishOutbound (consoleOutbound (parseFrame bytes))
      (placeOutbound (serve (parseFrame bytes).service) (parseFrame bytes).timecode
        (takeFlags (parseFrame bytes).flags a)).2 v) :=
    ((((settleDecision_inputs { s with timer := now }).trans inputs_).trans (.of_pins apins)).trans front.inputs).trans
      (finishOutbound_inputs _ _ v)
  have given : v = serve (parseFrame bytes).service (flagged (serve (parseFrame bytes).service) (parseFrame bytes) a) := by
    rw [placement, served]
  refine ⟨_, f, run, ?_, ?_, ?_, ?_, ?_, ?_, ?_, ?_, ?_, ?_, ?_, ?_, ?_, ?_, ?_, ?_, kind, ?_, fcycle, stamp, code, flags,
    ?_, timecode, field, tracking, fun n => ⟨fun used => ?_, fun unused => ?_⟩, ?_, fun tagged => ?_, fun zero => ?_⟩
  · exact pending'.trans (front.pending.trans (apending.trans (pending_.trans pending)))
  · exact timer'.trans (front.timer.trans (atimer.trans (timer_.trans timer)))
  · exact inputs.1
  · exact inputs.2
  · rw [zone', front.crew, azone, zone_, zone]
  · rw [queued]; exact vpart
  · rw [queued]; exact congrArg Link.lastGood vlink
  · rw [queued]; exact congrArg Link.silenceFrom vlink
  · rw [queued]; exact congrArg Link.consoleAbsent vlink
  · rw [queued]; exact congrArg Link.lastArrival vlink
  · rw [queued]; exact congrArg Link.expected vlink
  · rw [queued]; exact congrArg Link.offset vlink
  · rw [queued]; exact congrArg Link.period vlink
  · rw [queued]; exact congrArg (fun l : Link => l.portC.rx) vlink
  · rw [queued, ready]
  · rw [queued]; exact (congrArg Link.sentD vlink).trans (by rw [link_, link])
  · exact fpart.trans vpart
  · rw [number, vpart]
  · obtain ⟨value, flag, -⟩ := (slots n).1 used
    exact ⟨value, flag⟩
  · have slot : (consoleOutbound (parseFrame bytes)).slots[n] =
        { flag := byteAt bytes (8 + 5 * n), value := wordAt bytes (9 + 5 * n) } := Vector.getElem_ofFn _
    rw [(slots n).2 unused, slot]
  · refine ⟨a, _, alink, amode, astop, azone.trans (zone_.trans zone), astore, alens, atake, achans, rfl, ?_, ?_⟩
    · rw [given]; rfl
    · intro i u spelled ran
      rw [reply, given]
      exact congrArg (fun u : State => u.service.reply) (serve_command spelled ran)
  · obtain ⟨r, short, replied, record_⟩ := answered.tagged tagged
    exact ⟨r, reply.trans replied, by rw [service']; exact replied, short, by rw [service']; exact record_⟩
  · have same : v = placed := answered.untagged zero
    obtain ⟨plink, pservice, pgeo, pzone, -⟩ := flagged_blocks (serve (parseFrame bytes).service) (parseFrame bytes) a
    have geo := settleDecision_geo { s with timer := now }
    have adopts : DrivesAlike counted a := ⟨by rw [amode], by rw [amode], by rw [astop]⟩
    have flagged_ := flagged_drives (serve (parseFrame bytes).service) (parseFrame bytes) a
    have held := flagged_desc (serve (parseFrame bytes).service) (parseFrame bytes) a
    rw [placement] at plink pservice pgeo pzone flagged_ held
    rw [same] at queued geo' zone' service' reply slots ⊢
    refine ⟨?_, ?_, ?_, ?_, ?_, fun n used => ?_⟩
    · rw [zone', pzone, azone, zone_, zone]
    · rw [geo', pgeo, ageo, geo_]; exact geo
    · rw [service', pservice, aservice, service_, service]
    · rw [reply, pservice, aservice]
    · rw [queued, plink, alink, link_, link]
    · have steady : Steady { s with timer := now } counted := by
        rw [count]; exact (settleDecision_steady _).trans (sequenceCounted_steady _ _)
      have desc : (a.cond.chans[n]).desc = (s.cond.chans[n]).desc := by
        rw [achans]; exact steady.desc n
      obtain ⟨-, -, flag⟩ := (slots n).1 (by rw [finishOutbound_desc, held, desc]; exact used)
      obtain ⟨mode, granted, dropped⟩ := ((drives_.trans adopts).trans flagged_).trans (supply_drives placed)
      rw [flag, mode, granted, ne_eq, ne_eq, dropped]

end Sys2Proof.Proofs
end

section
/-! PROOFS. The frames toward the console: the tracking area, the service field, a constructed return. -/

namespace Sys2Proof.Machine
open Sys2Proof.Claims

/-! ## The walk over the tracking fields -/

section
variable (embed : BitVec 7) (all : List (Bool × List Byte))

/-- Field k is written: its embed bit is set and it fits before the end of the area (R154). -/
def fieldWritten (k : Nat) : Prop :=
  embed.getLsbD k = true ∧ writePlace embed all k + (all.getD k (false, [])).2.length ≤ 48

theorem writePlace_written {k : Nat} (written : fieldWritten embed all k) :
    writePlace embed all (k + 1) = writePlace embed all k + (all.getD k (false, [])).2.length := if_pos written

theorem writePlace_skipped {k : Nat} (skipped : ¬ fieldWritten embed all k) :
    writePlace embed all (k + 1) = writePlace embed all k := if_neg skipped

theorem writePlace_le (k : Nat) : writePlace embed all k ≤ 48 := by
  induction k with
  | zero => exact Nat.le_of_ble_eq_true rfl
  | succ k ih =>
    by_cases written : fieldWritten embed all k
    · rw [writePlace_written embed all written]; exact written.2
    · rw [writePlace_skipped embed all written]; exact ih

/-- What the walk has made of the fields before field i: the bytes written so far reach the write position, each written
field stands at its place, and the mask says which of them were present. -/
structure Walked (i mask : Nat) (out : List Byte) : Prop where
  place : writePlace embed all i = 1 + out.length
  below : mask < 2 ^ i
  bit : ∀ k, k < i → (mask.testBit k = true ↔ fieldWritten embed all k ∧ (all.getD k (false, [])).1 = true)
  bytes : ∀ k, k < i → fieldWritten embed all k → ∀ j, j < (all.getD k (false, [])).2.length →
    byteAt out (writePlace embed all k - 1 + j) = byteAt (all.getD k (false, [])).2 j

theorem Walked.start : Walked embed all 0 0 [] := ⟨rfl, Nat.one_pos, nofun, nofun⟩

theorem writePlace_pos (k : Nat) : 1 ≤ writePlace embed all k := by
  induction k with
  | zero => exact Nat.le_refl 1
  | succ k ih =>
    by_cases written : fieldWritten embed all k
    · rw [writePlace_written embed all written]; omega
    · rw [writePlace_skipped embed all written]; exact ih

/-- A written field ends before the write position of any later one. -/
theorem writePlace_ends {k i : Nat} (before : k < i) (written : fieldWritten embed all k) :
    writePlace embed all k + (all.getD k (false, [])).2.length ≤ writePlace embed all i := by
  induction i with
  | zero => omega
  | succ i ih =>
    have grows : writePlace embed all i ≤ writePlace embed all (i + 1) := by
      by_cases next : fieldWritten embed all i
      · rw [writePlace_written embed all next]; omega
      · rw [writePlace_skipped embed all next]
    rcases Nat.lt_succ_iff_lt_or_eq.1 before with earlier | rfl
    · exact (ih earlier).trans grows
    · rw [writePlace_written embed all written]

theorem byteAt_append_left {a b : List Byte} {i : Nat} (inside : i < a.length) : byteAt (a ++ b) i = byteAt a i :=
  List.getD_append _ _ _ _ inside

theorem Walked.skip {i mask : Nat} {out : List Byte} (walked : Walked embed all i mask out)
    (skipped : ¬ fieldWritten embed all i) : Walked embed all (i + 1) mask out where
  place := by rw [writePlace_skipped embed all skipped]; exact walked.place
  below := Nat.lt_of_lt_of_le walked.below (Nat.pow_le_pow_right (by omega) (by omega))
  bit k before := by
    rcases Nat.lt_succ_iff_lt_or_eq.1 before with earlier | rfl
    · exact walked.bit k earlier
    · rw [Nat.testBit_lt_two_pow walked.below]
      exact ⟨nofun, fun h => absurd h.1 skipped⟩
  bytes k before written := by
    rcases Nat.lt_succ_iff_lt_or_eq.1 before with earlier | rfl
    · exact walked.bytes k earlier written
    · exact absurd written skipped

theorem Walked.write {i mask : Nat} {out : List Byte} (walked : Walked embed all i mask out)
    (written : fieldWritten embed all i) :
    Walked embed all (i + 1) (if (all.getD i (false, [])).1 = true then mask + 2 ^ i else mask)
      (out ++ (all.getD i (false, [])).2) where
  place := by rw [writePlace_written embed all written, walked.place, List.length_append, Nat.add_assoc]
  below := by
    have := walked.below
    rw [Nat.pow_succ]
    split <;> omega
  bit k before := by
    rcases Nat.lt_succ_iff_lt_or_eq.1 before with earlier | rfl
    · rw [← walked.bit k earlier]
      split
      · rw [Nat.add_comm, Nat.testBit_two_pow_add_gt earlier]
      · rfl
    · have clear := Nat.testBit_lt_two_pow walked.below
      split
      case isTrue present =>
        rw [Nat.add_comm, Nat.testBit_two_pow_add_eq, clear]
        exact ⟨fun _ => ⟨written, present⟩, fun _ => rfl⟩
      case isFalse absent =>
        rw [clear]
        exact ⟨nofun, fun h => absurd h.2 absent⟩
  bytes k before written_ j inside := by
    have start := walked.place
    rcases Nat.lt_succ_iff_lt_or_eq.1 before with earlier | rfl
    · have ends := writePlace_ends embed all earlier written_
      have pos := writePlace_pos embed all k
      rw [byteAt_append_left (by omega)]
      exact walked.bytes k earlier written_ j inside
    · rw [start, Nat.add_sub_cancel_left]
      exact byteAt_append _ _ _

/-- The walk over the fields from field i on ends past the last of them. -/
theorem placeFields_walked (fields : List (Bool × List Byte)) {i mask : Nat} {out : List Byte}
    (from_ : all.drop i = fields) (walked : Walked embed all i mask out) :
    Walked embed all (i + fields.length) (placeFields embed fields i mask out).1
      (placeFields embed fields i mask out).2 := by
  induction fields generalizing i mask out with
  | nil => exact walked
  | cons field rest ih =>
    have here : all.getD i (false, []) = field := by
      have head := congrArg (fun l => l[0]?) from_
      simp only [List.getElem?_drop, Nat.add_zero, List.getElem?_cons_zero] at head
      rw [List.getD_eq_getElem?_getD, head]; rfl
    have later : all.drop (i + 1) = rest := by rw [← List.drop_drop, from_]; rfl
    have step := walked.place
    rw [List.length_cons, ← Nat.add_assoc, Nat.add_right_comm]
    obtain ⟨present, bytes⟩ := field
    unfold placeFields
    by_cases written : fieldWritten embed all i
    · have fits := written
      unfold fieldWritten at fits
      rw [here, step] at fits
      rw [if_pos fits]
      have next := walked.write embed all written
      rw [here] at next
      exact ih later next
    · have misses := written
      unfold fieldWritten at misses
      rw [here, step] at misses
      rw [if_neg misses]
      exact ih later (walked.skip embed all written)

/-- The tracking area holds the fields that the embed mask selects and that fit (R152, R154). -/
theorem trackingArea_tracks (seven : all.length = 7) : tracks embed all (trackingArea embed all) := by
  have walked := placeFields_walked embed all all (List.drop_zero) (.start embed all)
  rw [seven, Nat.zero_add] at walked
  obtain ⟨place, below, bit, bytes⟩ := walked
  have full := writePlace_le embed all 7
  unfold trackingArea
  dsimp only
  generalize (placeFields embed all 0 0 []).1 = mask at *
  generalize (placeFields embed all 0 0 []).2 = out at *
  refine ⟨?_, ?_, fun k before => ⟨?_, fun written j inside => ?_⟩, fun j past short => ?_⟩
  · simp only [List.length_cons, List.length_append, List.length_replicate]; omega
  · rw [byteAt_zero, BitVec.getLsbD_ofNat, Nat.testBit_lt_two_pow below]; rfl
  · rw [byteAt_zero, BitVec.getLsbD_ofNat, decide_eq_true (show k < 8 by omega), Bool.true_and]
    exact bit k before
  · have ends := writePlace_ends embed all before written
    have pos := writePlace_pos embed all k
    have place_ : writePlace embed all k + j = (writePlace embed all k - 1 + j) + 1 := by omega
    rw [place_, byteAt_succ, byteAt_append_left (by omega)]
    exact bytes k before written j inside
  · obtain ⟨i, rfl⟩ : ∃ i, j = (out.length + i) + 1 := ⟨j - out.length - 1, by omega⟩
    rw [byteAt_succ, byteAt_append]
    exact List.getD_replicate _ (by omega)

end

/-! ## The frames toward the console -/

theorem trackingFields_eq (e : InFlight) (s : State) :
    trackingFields e.part e.timecode e.phase e.sync s = trackedFields e s := by
  have act : takeActivity s.take =
      (match s.take.recording.state with
        | .recordArmed => .recordArmed
        | .recording => .recording
        | .idle => playActivity s.take.play.state,
      if s.take.recording.state = .idle then s.take.play.index else s.take.recording.index) := by
    unfold takeActivity
    cases s.take.recording.state <;> rfl
  have lens : [Role.zoom, .focus, .iris].flatMap (fun r => match roleHolder s.cond.chans .lens r with
        | none => i32 0
        | some n => i32 ((s.lensOf n).feedback.getD 0)) =
      [Role.zoom, .focus, .iris].flatMap fun r => i32 (match roleHolder s.cond.chans .lens r with
        | none => 0
        | some n => ((s.lens[n]).feedback).getD 0) :=
    congrArg (fun field => [Role.zoom, .focus, .iris].flatMap field)
      (funext fun r => by cases roleHolder s.cond.chans .lens r <;> rfl)
  unfold trackingFields trackedFields
  dsimp only
  rw [act]
  exact congrArg (fun bytes => [_, _, _, _, (true, bytes), _, _]) (lens.trans rfl)

/-- The tracking record of a return (R152 to R155). -/
theorem trackingRecord_tracks (e : InFlight) (s : State) :
    tracks s.capture.embed (trackedFields e s) (trackingRecord e s) := by
  unfold trackingRecord
  rw [trackingFields_eq]
  exact trackingArea_tracks _ _ rfl

theorem replyField_carries (r : Option (Byte × Reply)) : carriesReply r (replyField r) := by
  cases r with
  | none => exact ⟨nofun, fun _ => rfl⟩
  | some u =>
    obtain ⟨tag, reply⟩ := u
    refine ⟨fun _ _ same => ?_, nofun⟩
    cases same
    refine ⟨rfl, rfl, rfl, fun k inside => ?_⟩
    rw [Nat.add_comm]
    exact byteAt_append_left inside

theorem returnFrame_headed (e : InFlight) (offset : Half) (f : Frame) (kind : f.kind = returnKind e.kind)
    (cycle : f.cycle = returnCycle e offset) : headedFor offset e f := by
  refine ⟨kind.trans ?_, cycle.trans ?_⟩
  · cases e.kind <;> rfl
  · unfold returnCycle
    cases e.consoleCycle <;> rfl

/-- The constructed return of an entry, as it is sent (R177). -/
theorem sendConstructed_link (e : InFlight) (s : State) :
    ∃ f, (sendConstructed e s).link = { s.link with sentC := s.link.sentC ++ [f] } ∧
      staleReturn s.link.offset e f ∧ tracks s.capture.embed (trackedFields e s) f.tracking := by
  have tracked := trackingRecord_tracks e s
  refine ⟨_, rfl, ⟨returnFrame_headed e _ _ rfl rfl, rfl, rfl, replyField_carries _, tracked.1, fun n => ?_⟩, tracked⟩
  refine ⟨congrArg Slot.value (Vector.getElem_ofFn _), ?_⟩
  refine (congrArg (fun x : Slot => x.flag.extractLsb' 4 4) (Vector.getElem_ofFn _)).trans ?_
  refine BitVec.eq_of_getLsbD_eq fun i inside => ?_
  rw [BitVec.getLsbD_extractLsb', decide_eq_true inside, Bool.true_and]
  refine (append_bit _ _ _).trans ?_
  rw [if_neg (by omega), Nat.add_sub_cancel_left]
  rfl

/-- A matched return as it is forwarded (R177). -/
theorem forwardReturn_link (e : InFlight) (f : Frame) (s : State) :
    ∃ g, (forwardReturn e f s).link = { s.link with sentC := s.link.sentC ++ [g] } ∧
      headedFor s.link.offset e g ∧ g.flags = f.flags ∧ g.timecode = f.timecode ∧ g.slots = f.slots ∧
      carriesReply e.service g.service ∧ tracks s.capture.embed (trackedFields e s) g.tracking :=
  ⟨_, rfl, returnFrame_headed e _ _ rfl rfl, rfl, rfl, rfl, replyField_carries _, trackingRecord_tracks e s⟩

end Sys2Proof.Machine
end

section
/-! PROOFS. What a sequence of causes leaves of a state, with whatever else leaves the blocks of the causes alone. -/

namespace Sys2Proof.Machine
open Sys2Proof.Claims

/-- A fault record that has been entered stands: its cause, mode and safety state, and its later causes counted on
(R86). -/
def faultKept (s t : State) : Prop :=
  ∀ r, s.stop.fault = some r → ∃ r', t.stop.fault = some r' ∧ r'.cause = r.cause ∧ r'.mode = r.mode ∧
    r'.safety = r.safety ∧ min r.laterCount 255 ≤ r'.laterCount

theorem faultKept.of_stop {s t : State} (same : t.stop.fault = s.stop.fault) : faultKept s t :=
  fun r entered => ⟨r, same.trans entered, rfl, rfl, rfl, Nat.min_le_left _ _⟩

theorem faultKept.trans {s t u : State} (h : faultKept s t) (g : faultKept t u) : faultKept s u := by
  intro r entered
  obtain ⟨r', there, cause, mode, safety, later⟩ := h r entered
  obtain ⟨r'', there', cause', mode', safety', later'⟩ := g r' there
  exact ⟨r'', there', cause'.trans cause, mode'.trans mode, safety'.trans safety, by omega⟩

theorem faultKept.entered {s t : State} (h : faultKept s t) (entered : s.stop.fault ≠ none) : t.stop.fault ≠ none := by
  obtain ⟨r, there⟩ := Option.ne_none_iff_exists'.1 entered
  obtain ⟨r', there', -⟩ := h r there
  rw [there']; exact nofun

/-- A state that follows another by causes: what they keep, and that a stop, once begun, goes on. -/
structure Passes (s t : State) : Prop where
  pending : t.pending = s.pending
  timer : t.timer = s.timer
  service : t.service = s.service
  inputs : inputsKept s t
  live : t.mode.mode = .live ↔ s.mode.mode = .live
  held : ∀ n : Fin 12, holdOnly s.cond.chans[n] t.cond.chans[n]
  take : t.take = s.take ∨ (s.mode.mode = .live ∧ s.stop.safety = .normal ∧ t.stop.safety ≠ .normal)
  stopped : s.stop.safety ≠ .normal → t.stop.safety ≠ .normal
  dropped : s.stop.safety = .dropped → t.stop.safety = .dropped
  fault : faultKept s t
  noted : s.mode.mode ≠ .parked → t.mode.mode ≠ .parked ∨ t.stop.fault ≠ none

theorem Passes.of_blocks {s t : State} (pending : t.pending = s.pending := by simp)
    (timer : t.timer = s.timer := by simp) (service : t.service = s.service := by simp)
    (pins : t.pins = s.pins := by simp) (mode : t.mode.mode = s.mode.mode := by simp) (cond : t.cond = s.cond := by simp)
    (take : t.take = s.take := by simp) (stop : t.stop = s.stop := by simp) : Passes s t where
  pending := pending
  timer := timer
  service := service
  inputs := .of_pins pins
  live := by rw [mode]
  held n := by rw [cond]; exact holdOnly_refl _
  take := .inl take
  stopped := by rw [stop]; exact id
  dropped := by rw [stop]; exact id
  fault := .of_stop (by rw [stop])
  noted := by rw [mode]; exact .inl

theorem Passes.refl (s : State) : Passes s s := .of_blocks

theorem Passes.trans {s t u : State} (h : Passes s t) (g : Passes t u) : Passes s u where
  pending := g.pending.trans h.pending
  timer := g.timer.trans h.timer
  service := g.service.trans h.service
  inputs := h.inputs.trans g.inputs
  live := g.live.trans h.live
  held n := holdOnly_trans (h.held n) (g.held n)
  take := by
    rcases h.take with same | ⟨live, normal, stopped⟩
    · rcases g.take with same' | ⟨live, normal, stopped⟩
      · exact .inl (same'.trans same)
      · exact .inr ⟨h.live.1 live, by_contra fun off => h.stopped off normal, stopped⟩
    · exact .inr ⟨live, normal, g.stopped stopped⟩
  stopped off := g.stopped (h.stopped off)
  dropped off := g.dropped (h.dropped off)
  fault := h.fault.trans g.fault
  noted used := by
    rcases h.noted used with mode | entered
    · exact g.noted mode
    · exact .inr (g.fault.entered entered)

/-- Where a stop has begun, or none can, the take engine is left alone. -/
theorem Passes.take_settled {s t : State} (h : Passes s t) (off : s.stop.safety ≠ .normal) : t.take = s.take :=
  h.take.resolve_right fun began => off began.2.1

theorem abortByCause_mode (c : Cause) (s : State) :
    (abortByCause c s).mode.mode = s.mode.mode ∨ (abortByCause c s).mode.mode = .parked := by
  unfold abortByCause
  cases c.name
  case followingError | driveFault | estopChain | zoneTableCorrupt => exact .inr rfl
  all_goals exact .inl rfl

theorem takeCause_faultKept (c : Cause) (s : State) : faultKept s (takeCause c s) := by
  by_cases parked : s.mode.mode = .parked
  · rw [takeCause_parked c parked]; exact .of_stop rfl
  · intro r entered
    refine ⟨_, Proofs.noted_fault c parked, ?_⟩
    unfold faultEntered
    rw [entered]
    exact ⟨rfl, rfl, rfl, show min r.laterCount 255 ≤ min (r.laterCount + 1) 255 by omega⟩

/-- A cause that finds a LIVE crane leaves it in no NORMAL, and in DROPPED where it is immediate (R67 to R69). -/
theorem takeCause_stops (c : Cause) {s : State} (live : s.mode.mode = .live) :
    (takeCause c s).stop.safety ≠ .normal ∧ (s.stop.safety = .dropped → (takeCause c s).stop.safety = .dropped) ∧
    (c.name.cls = .i → (takeCause c s).stop.safety = .dropped) := by
  rw [takeCause_live c live]
  rcases actLive_cases c.name (causeNoted c s) with ⟨ctl, at_, e⟩ | ⟨ctl, at_, e⟩ | ⟨_, at_, e⟩ | ⟨at_, e⟩ <;> rw [e]
  · have normal : s.stop.safety = .normal := at_
    rw [enterStopping_stop]
    exact ⟨nofun, by rw [normal]; exact nofun, by rw [ctl]; exact nofun⟩
  · have later : s.stop.safety = .stopping ∨ s.stop.safety = .held := at_
    rw [laterSoft_stop]
    show s.stop.safety ≠ .normal ∧ (s.stop.safety = .dropped → s.stop.safety = .dropped) ∧ _
    refine ⟨by rcases later with h | h <;> rw [h] <;> exact nofun, id, by rw [ctl]; exact nofun⟩
  · rw [enterDropped_stop]
    exact ⟨nofun, fun _ => rfl, fun _ => rfl⟩
  · have dropped : (causeNoted c s).stop.safety = .dropped := at_
    rw [dropped]
    exact ⟨nofun, fun _ => rfl, fun _ => rfl⟩

/-- A cause that finds the crane ARMING or PARKED leaves the safety state. -/
theorem takeCause_safety (c : Cause) {s : State} (away : s.mode.mode ≠ .live) :
    (takeCause c s).stop.safety = s.stop.safety := by
  cases mode : s.mode.mode with
  | live => exact absurd mode away
  | parked => rw [takeCause_parked c mode]
  | arming => rw [takeCause_arming c mode, (abortByCause_frame c _).2.2.2.2.2.2.2.1]; rfl

theorem takeCause_passes (c : Cause) (s : State) : Passes s (takeCause c s) := by
  obtain ⟨pending, timer, -, service, -, -⟩ := takeCause_frame c s
  have inputs := takeCause_inputs c s
  have held := takeCause_holdOnly c s
  have fault := takeCause_faultKept c s
  by_cases live : s.mode.mode = .live
  · obtain ⟨off, dropped, -⟩ := takeCause_stops c live
    have mode := takeCause_mode_live c live
    refine ⟨pending, timer, service, inputs, by rw [mode], held, ?_, fun _ => off, dropped, fault, fun _ => ?_⟩
    · exact (takeCause_take_cases c s).imp_right fun ⟨_, normal, _⟩ => ⟨live, normal, off⟩
    · rw [mode, live]; exact .inl nofun
  · have safety := takeCause_safety c live
    refine ⟨pending, timer, service, inputs, ?_, held, ?_, by rw [safety]; exact id, by rw [safety]; exact id, fault,
      fun used => ?_⟩
    · cases mode : s.mode.mode with
      | live => exact absurd mode live
      | parked => rw [takeCause_parked c mode, mode]
      | arming =>
        rw [takeCause_arming c mode]
        rcases abortByCause_mode c (causeNoted c s) with same | parked
        · rw [same]; exact (congrArg (· = CraneMode.live) mode).to_iff
        · rw [parked]; exact ⟨nofun, nofun⟩
    · exact (takeCause_take_cases c s).imp_right fun ⟨now, _⟩ => absurd now live
    · rw [Proofs.noted_fault c used]; exact .inr nofun

theorem takeCauses_passes (cs : List Cause) (s : State) : Passes s (takeCauses cs s) := by
  induction cs generalizing s with
  | nil => exact .refl s
  | cons c cs ih => exact (takeCause_passes c s).trans (ih _)

theorem setLink_passes (l : Link) (s : State) : Passes s (s.setLink l) := .of_blocks

theorem portError_passes (p : PortId) (k : ErrKind) (s : State) : Passes s (portError p k s) := by
  unfold portError
  dsimp only
  split
  · split
    · exact (setLink_passes _ s).trans (takeCause_passes _ _)
    · exact setLink_passes _ s
  · exact .refl s

/-! ## The lenses of a drop -/

/-- A lens channel changes only where the drives have been dropped, its running calibration ended with them (R106). -/
def dropsLens (s t : State) : Prop :=
  ∀ n : Fin 12, t.lens[n] =
    if t.stop.safety = .dropped ∧ s.stop.safety ≠ .dropped then calibrationFailed .dropped s.lens[n] else s.lens[n]

theorem dropsLens.of_lens {s t : State} (lens : t.lens = s.lens)
    (dropped : t.stop.safety = .dropped ↔ s.stop.safety = .dropped) : dropsLens s t := by
  intro n
  rw [lens, if_neg fun now => now.2 (dropped.1 now.1)]

theorem dropsLens.trans {s t u : State} (h : dropsLens s t) (g : dropsLens t u)
    (first : s.stop.safety = .dropped → t.stop.safety = .dropped)
    (second : t.stop.safety = .dropped → u.stop.safety = .dropped) : dropsLens s u := by
  intro n
  rw [g n, h n]
  by_cases before : s.stop.safety = .dropped
  · simp only [before, first before, ne_eq, not_true_eq_false, and_false, if_false]
  · by_cases between : t.stop.safety = .dropped
    · simp only [before, between, second between, ne_eq, not_false_eq_true, not_true_eq_false, and_false, and_true,
        if_false, if_true]
    · simp only [between, before, ne_eq, not_false_eq_true, and_true, if_false]

theorem takeCause_dropsLens (c : Cause) (s : State) : dropsLens s (takeCause c s) := by
  by_cases live : s.mode.mode = .live
  · rw [takeCause_live c live]
    have safety : (causeNoted c s).stop.safety = s.stop.safety := rfl
    have lens : (causeNoted c s).lens = s.lens := rfl
    rcases actLive_cases c.name (causeNoted c s) with ⟨_, at_, e⟩ | ⟨_, at_, e⟩ | ⟨_, at_, e⟩ | ⟨at_, e⟩ <;> rw [e]
    · rw [safety] at at_
      exact .of_lens (enterStopping_frame _ _).2.2.2.2.2.2.2.2.1 (by rw [enterStopping_stop, at_]; exact ⟨nofun, nofun⟩)
    · exact .of_lens (by simp [lens]) (by rw [laterSoft_stop]; rfl)
    · intro n
      rw [enterDropped_lens, enterDropped_stop, lens, if_pos ⟨rfl, at_⟩]
    · exact .of_lens lens Iff.rfl
  · refine .of_lens ?_ (by rw [takeCause_safety c live])
    cases mode : s.mode.mode with
    | live => exact absurd mode live
    | parked => rw [takeCause_parked c mode]
    | arming => rw [takeCause_arming c mode, (abortByCause_frame c _).2.2.2.2.2.2.2.2.1]; rfl

theorem takeCauses_dropsLens (cs : List Cause) (s : State) : dropsLens s (takeCauses cs s) := by
  induction cs generalizing s with
  | nil => exact .of_lens rfl Iff.rfl
  | cons c cs ih =>
    exact (takeCause_dropsLens c s).trans (ih _) (takeCause_passes c s).dropped (takeCauses_passes cs _).dropped

/-! ## The Capture Unit through causes -/

/-- A unit that awaits no cause is as it was (R159). -/
def captureKept (s t : State) : Prop :=
  (s.capture.state ≠ .armed ∨ ∀ k, s.capture.condition = some k → k.kind ≠ .anyStop) → t.capture = s.capture

theorem captureKept.of_capture {s t : State} (same : t.capture = s.capture) : captureKept s t := fun _ => same

theorem captureKept.trans {s t u : State} (h : captureKept s t) (g : captureKept t u) : captureKept s u := by
  intro idle
  have first := h idle
  rw [← first] at idle
  exact (g idle).trans first

theorem takeCauses_captureKept (cs : List Cause) (s : State) : captureKept s (takeCauses cs s) :=
  takeCauses_capture_kept cs

theorem takeCause_captureKept (c : Cause) (s : State) : captureKept s (takeCause c s) := takeCause_capture_kept c

theorem portError_captureKept (p : PortId) (k : ErrKind) (s : State) : captureKept s (portError p k s) := by
  unfold portError
  dsimp only
  split
  · split
    · have counted (l : Link) : captureKept s (s.setLink l) := .of_capture rfl
      exact (counted _).trans (takeCause_captureKept _ _)
    · exact .of_capture rfl
  · exact .of_capture rfl

/-! ## Controlled causes entered in an empty record -/

theorem takeCauses_later {cs : List Cause} (controlled : ∀ c ∈ cs, c.name.cls = .c) {s : State} {r : FaultRecord}
    (used : s.mode.mode ≠ .parked) (entered : s.stop.fault = some r) (low : r.laterCount ≤ 255) :
    ∃ r', (takeCauses cs s).stop.fault = some r' ∧ r'.cause = r.cause ∧ r'.mode = r.mode ∧ r'.safety = r.safety ∧
      r'.laterCount = min (r.laterCount + cs.length) 255 := by
  induction cs generalizing s r with
  | nil => exact ⟨r, entered, rfl, rfl, rfl, (Nat.min_eq_left low).symm⟩
  | cons c cs ih =>
    have next := Proofs.noted_fault c used
    have mode := takeCause_mode (controlled c List.mem_cons_self) s
    obtain ⟨r', there, cause, mode', safety, later⟩ := ih (fun d hd => controlled d (List.mem_cons_of_mem c hd))
      (s := takeCause c s) (by rw [mode]; exact used) next
      (by unfold faultEntered; rw [entered]; exact Nat.min_le_right _ _)
    unfold faultEntered at cause mode' safety later
    rw [entered] at cause mode' safety later
    refine ⟨r', there, cause, mode', safety, later.trans ?_⟩
    rw [List.length_cons]
    show min (min (r.laterCount + 1) 255 + cs.length) 255 = _
    omega

/-- The first of several controlled causes fills an empty record, the others are counted in it (R85, R86). -/
theorem takeCauses_entered {c : Cause} {cs : List Cause} (controlled : ∀ d ∈ c :: cs, d.name.cls = .c) {s : State}
    (used : s.mode.mode ≠ .parked) (empty : s.stop.fault = none) :
    ∃ r, (takeCauses (c :: cs) s).stop.fault = some r ∧ r.cause = c ∧ r.mode = s.mode.mode ∧
      r.safety = s.stop.safety ∧ r.laterCount = min cs.length 255 := by
  have mode := takeCause_mode (controlled c List.mem_cons_self) s
  obtain ⟨r', there, cause, mode', safety, later⟩ :=
    takeCauses_later (fun d hd => controlled d (List.mem_cons_of_mem c hd)) (s := takeCause c s)
      (by rw [mode]; exact used) (Proofs.noted_fault c used) (by unfold faultEntered; rw [empty]; exact Nat.zero_le _)
  unfold faultEntered at cause mode' safety later
  rw [empty] at cause mode' safety later
  exact ⟨r', there, cause, mode', safety, later.trans (by rw [Nat.zero_add])⟩

end Sys2Proof.Machine
end

section
/-! PROOFS. The entries lost ahead of a return, and the Zone Monitor's evaluation of it. -/

namespace Sys2Proof.Machine
open Sys2Proof.Claims

/-! ## Losses -/

/-- What the loss of the oldest entries leaves (R176): the rest of the list, a constructed return for each, the losses
counted, and each running calibration's window emptied. -/
structure LossesTaken (ahead tail : List InFlight) (s t : State) : Prop where
  passes : Passes s t
  capture : captureKept s t
  dropped : t.stop.safety = .dropped ↔ s.stop.safety = .dropped
  lens : ∀ n : Fin 12, t.lens[n] = if ahead = [] then s.lens[n] else windowEmptied s.lens[n]
  geo : t.geo = s.geo
  zone : t.zone = s.zone
  total : s.link.totalLost ≤ 65535 → t.link.totalLost = min (s.link.totalLost + ahead.length) 65535
  link : ∃ lost, t.link = { s.link with
      inFlight := tail, lossCount := t.link.lossCount, feedbackLost := t.link.feedbackLost
      totalLost := t.link.totalLost, armingLoss := t.link.armingLoss, sentC := s.link.sentC ++ lost } ∧
    List.Forall₂ (staleReturn s.link.offset) ahead lost

theorem windowEmptied_twice (l : LensChannel) : windowEmptied (windowEmptied l) = windowEmptied l := by
  unfold windowEmptied
  by_cases seeks : l.cal = .seekLow ∨ l.cal = .seekHigh
  · rw [if_pos seeks, if_pos seeks]
  · rw [if_neg seeks, if_neg seeks]

theorem emptyWindow_eq (l : LensChannel) : emptyWindow l = windowEmptied l := by
  unfold emptyWindow windowEmptied
  by_cases seeks : l.cal = .seekLow ∨ l.cal = .seekHigh
  · rw [if_pos seeks, if_pos ((LensChannel.calibrating_iff l).2 seeks)]
  · rw [if_neg seeks, if_neg (mt (LensChannel.calibrating_iff l).1 seeks)]

theorem lossTaken_passes (s : State) :
    Passes s (lossTaken s) ∧ captureKept s (lossTaken s) ∧ DrivesAlike s (lossTaken s) ∧ (lossTaken s).lens = s.lens ∧
    (lossTaken s).geo = s.geo ∧ (lossTaken s).zone = s.zone ∧ (lossTaken s).link = lossCounted s.link := by
  have counted : captureKept s (s.setLink (lossCounted s.link)) := .of_capture rfl
  have alike : DrivesAlike s (s.setLink (lossCounted s.link)) := .of_blocks rfl rfl
  unfold lossTaken
  split
  · obtain ⟨-, -, link, -, geo, zone⟩ :=
      takeCause_frame (plainCause .feedbackLost) (s.setLink (lossCounted s.link))
    have drives : DrivesAlike (s.setLink (lossCounted s.link)) _ := takeCause_drives (c := plainCause .feedbackLost) rfl _
    have lens : (takeCause (plainCause .feedbackLost) (s.setLink (lossCounted s.link))).lens = s.lens := by
      refine Vector.ext fun n inside => ?_
      have kept := takeCause_dropsLens (plainCause .feedbackLost) (s.setLink (lossCounted s.link)) ⟨n, inside⟩
      rw [if_neg fun now => now.2 (drives.dropped.1 now.1)] at kept
      exact kept
    exact ⟨(setLink_passes _ s).trans (takeCause_passes _ _), counted.trans (takeCause_captureKept _ _),
      alike.trans drives, lens, geo, zone, link⟩
  · exact ⟨setLink_passes _ s, counted, alike, rfl, rfl, rfl, rfl⟩

theorem afterLoss_taken (e : InFlight) (s : State) :
    Passes s (afterLoss e s) ∧ captureKept s (afterLoss e s) ∧ DrivesAlike s (afterLoss e s) ∧
    (∀ n : Fin 12, (afterLoss e s).lens[n] = windowEmptied s.lens[n]) ∧ (afterLoss e s).geo = s.geo ∧
    (afterLoss e s).zone = s.zone ∧ ∃ f, staleReturn s.link.offset e f ∧ (afterLoss e s).link = { s.link with
      lossCount := satSucc 255 s.link.lossCount, feedbackLost := s.link.feedbackLost || decide (s.link.lossCount + 1 = 3)
      totalLost := satSucc 65535 s.link.totalLost, armingLoss := true, sentC := s.link.sentC ++ [f] } := by
  obtain ⟨passes, capture, drives, lens, geo, zone, link⟩ := lossTaken_passes s
  rw [afterLoss_eq]
  generalize lossTaken s = u at *
  obtain ⟨f, sent, stale, -⟩ := sendConstructed_link e ((u.setLink (lossNoted u.link)).mapAllLens fun _ l => emptyWindow l)
  rw [(State.mapAllLens_frame _ _).2.2.2.1] at sent stale
  have noted : Passes u ((u.setLink (lossNoted u.link)).mapAllLens fun _ l => emptyWindow l) := .of_blocks
  refine ⟨(passes.trans noted).trans (setLink_passes _ _), ?_, ?_, fun n => ?_, geo, zone, f, ?_, ?_⟩
  · exact capture.trans (.of_capture rfl)
  · exact drives.trans (.of_blocks rfl rfl)
  · rw [← lens, ← emptyWindow_eq]
    exact State.mapAllLens_at _ (fun _ l => emptyWindow l) n
  · have offset : (lossNoted u.link).offset = s.link.offset := by rw [link]; rfl
    rw [← offset]
    exact stale
  · rw [sent, link]; rfl

theorem loseEntries_taken (ahead : List InFlight) {tail : List InFlight} {s : State}
    (list : s.link.inFlight = ahead ++ tail) : LossesTaken ahead tail s (loseEntries ahead.length s) := by
  induction ahead generalizing s with
  | nil =>
    refine ⟨.refl s, .of_capture rfl, Iff.rfl, fun n => rfl, rfl, rfl, fun low => (Nat.min_eq_left low).symm, [], ?_, .nil⟩
    rw [List.append_nil, ← show s.link.inFlight = tail from list]
    rfl
  | cons e ahead ih =>
    have oldest : loseOldest s = afterLoss e (s.setLink { s.link with inFlight := ahead ++ tail }) := by
      unfold loseOldest; rw [list]; rfl
    have removed : Passes s (s.setLink { s.link with inFlight := ahead ++ tail }) := setLink_passes _ s
    obtain ⟨passes, capture, drives, lens, geo, zone, f, stale, link⟩ :=
      afterLoss_taken e (s.setLink { s.link with inFlight := ahead ++ tail })
    show LossesTaken (e :: ahead) tail s (loseEntries ahead.length (loseOldest s))
    rw [oldest]
    generalize afterLoss e (s.setLink { s.link with inFlight := ahead ++ tail }) = u at *
    have rest := ih (s := u) (by rw [link]; rfl)
    obtain ⟨lost, link', stales⟩ := rest.link
    refine ⟨(removed.trans passes).trans rest.passes, ?_, ?_, fun n => ?_, rest.geo.trans geo, rest.zone.trans zone,
      fun low => ?_, f :: lost, ?_, ?_⟩
    · exact captureKept.trans (t := u) capture rest.capture
    · exact rest.dropped.trans drives.dropped
    · rw [rest.lens n, lens n, if_neg (List.cons_ne_nil e ahead)]
      split
      · rfl
      · exact windowEmptied_twice _
    · have once : u.link.totalLost = min (s.link.totalLost + 1) 65535 := by
        rw [link]
        show satSucc 65535 s.link.totalLost = _
        rfl
      rw [rest.total (by omega), once, List.length_cons]
      omega
    · rw [link', link, List.append_assoc]; rfl
    · rw [link] at stales
      exact .cons stale stales

end Sys2Proof.Machine
end

section
/-! PROOFS. A matched return evaluated: its causes, the head, the zones and the lenses. -/

namespace Sys2Proof.Machine
open Sys2Proof.Claims

/-! ## The zones -/

/-- The Zone Monitor's state before its step 3 (R49 to R51). -/
def zonesSampled (s : State) : ZoneMonitor := sampleCrew s.pins.crewSeen (exchangeBanks s.zone)

/-- The Zone Monitor's state after its step 5 (R52). -/
def zonesFormed (s : State) : ZoneMonitor := formScale s.geo (zonesSampled s)

/-- The SLOW_ENTER test of an evaluation (R158, R159). -/
def slowTested (part : Word) (s : State) : State :=
  testCapture .slowEnter s.take.play.state
    (fun _ => if s.zone.scale = 256 ∧ (zonesFormed s).scale < 256 then some (.number (zonesFormed s).scale) else none)
    part (consoleTimecode s) (s.setZone (zonesFormed s))

/-- The ZONE_STOP causes of an evaluation taken (R57). -/
def zonesStopped (part : Word) (s : State) : State :=
  takeCauses (zoneStops s.geo (zonesSampled s)) (slowTested part s)

theorem zonesSampled_scale (s : State) : (zonesSampled s).scale = s.zone.scale := by
  show (exchangeBanks s.zone).scale = s.zone.scale
  unfold exchangeBanks
  split <;> rfl

theorem slowTested_frame (part : Word) (s : State) :
    (slowTested part s).pending = s.pending ∧ (slowTested part s).timer = s.timer ∧ (slowTested part s).pins = s.pins ∧
    (slowTested part s).link = s.link ∧ (slowTested part s).service = s.service ∧ (slowTested part s).mode = s.mode ∧
    (slowTested part s).cond = s.cond ∧ (slowTested part s).geo = s.geo ∧ (slowTested part s).zone = zonesFormed s ∧
    (slowTested part s).stop = s.stop ∧ (slowTested part s).lens = s.lens ∧ (slowTested part s).store = s.store ∧
    (slowTested part s).take = s.take :=
  testCapture_frame _ _ _ _ _ (s.setZone (zonesFormed s))

theorem zonesStopped_zone (part : Word) (s : State) : (zonesStopped part s).zone = zonesFormed s :=
  (takeCauses_frame _ _).2.2.2.2.2.trans (slowTested_frame part s).2.2.2.2.2.2.2.2.1

theorem evaluateZones_eq (part : Word) (s : State) :
    evaluateZones part s =
      afterPass (passEnd (zonesFormed s)) ((zonesStopped part s).setZone (verifyStep part (zonesFormed s))) := by
  have tested : testCapture .slowEnter s.take.play.state
      (fun _ => if (zonesSampled s).scale = 256 ∧ (zonesFormed s).scale < 256 then
        some (.number (zonesFormed s).scale) else none)
      part (consoleTimecode (s.setZone (zonesFormed s))) (s.setZone (zonesFormed s)) = slowTested part s := by
    rw [zonesSampled_scale]; rfl
  have model (u : State) (same : testCapture .slowEnter s.take.play.state
      (fun _ => if (zonesSampled s).scale = 256 ∧ (zonesFormed s).scale < 256 then
        some (.number (zonesFormed s).scale) else none)
      part (consoleTimecode (s.setZone (zonesFormed s))) (s.setZone (zonesFormed s)) = u) :
      evaluateZones part s = afterPass (passEnd (takeCauses (zoneStops u.geo (zonesSampled s)) u).zone)
        ((takeCauses (zoneStops u.geo (zonesSampled s)) u).setZone
          (verifyStep part (takeCauses (zoneStops u.geo (zonesSampled s)) u).zone)) := by
    subst same; rfl
  have geo : (slowTested part s).geo = s.geo := (slowTested_frame part s).2.2.2.2.2.2.2.1
  have zone : (takeCauses (zoneStops s.geo (zonesSampled s)) (slowTested part s)).zone = zonesFormed s :=
    zonesStopped_zone part s
  rw [model _ tested, geo, zone]
  rfl

theorem afterPass_passes (r : Option PassResult) (s : State) : Passes s (afterPass r s) := by
  unfold afterPass
  split
  · exact .of_blocks
  · exact takeCause_passes _ s
  · exact .refl s

theorem afterPass_dropsLens (r : Option PassResult) (s : State) : dropsLens s (afterPass r s) := by
  unfold afterPass
  split
  · exact .of_lens rfl Iff.rfl
  · exact takeCause_dropsLens _ s
  · exact .of_lens rfl Iff.rfl

theorem afterPass_captureKept (r : Option PassResult) (s : State) : captureKept s (afterPass r s) := by
  unfold afterPass
  split
  · exact .of_capture rfl
  · exact takeCause_captureKept _ s
  · exact .of_capture rfl

theorem zonesStopped_passes (part : Word) (s : State) : Passes s (zonesStopped part s) := by
  obtain ⟨pending, timer, pins, -, service, mode, cond, -, -, stop, -, -, take⟩ := slowTested_frame part s
  have tested : Passes s (slowTested part s) :=
    .of_blocks pending timer service pins (by rw [mode]) cond take stop
  exact tested.trans (takeCauses_passes _ _)

theorem evaluateZones_passes (part : Word) (s : State) : Passes s (evaluateZones part s) := by
  have read (u : State) (z : ZoneMonitor) : Passes u (u.setZone z) := .of_blocks
  rw [evaluateZones_eq]
  exact ((zonesStopped_passes part s).trans (read _ _)).trans (afterPass_passes _ _)

theorem evaluateZones_dropsLens (part : Word) (s : State) : dropsLens s (evaluateZones part s) := by
  obtain ⟨-, -, -, -, -, -, -, -, -, stop, lens, -, -⟩ := slowTested_frame part s
  have tested : dropsLens s (slowTested part s) := .of_lens lens (by rw [stop])
  have stopped : dropsLens s (zonesStopped part s) :=
    tested.trans (takeCauses_dropsLens _ _) (by rw [stop]; exact id) (takeCauses_passes _ _).dropped
  have read : dropsLens s ((zonesStopped part s).setZone (verifyStep part (zonesFormed s))) := stopped
  rw [evaluateZones_eq]
  exact read.trans (afterPass_dropsLens _ _) (zonesStopped_passes part s).dropped (afterPass_passes _ _).dropped

theorem evaluateZones_captureKept (part : Word) (s : State) :
    captureKept (slowTested part s) (evaluateZones part s) := by
  have stopped : captureKept (slowTested part s)
      ((zonesStopped part s).setZone (verifyStep part (zonesFormed s))) := takeCauses_captureKept _ _
  rw [evaluateZones_eq]
  exact stopped.trans (afterPass_captureKept _ _)

theorem evaluateZones_zone (part : Word) (s : State) :
    (evaluateZones part s).zone = verifyStep part (zonesFormed s) := by
  rw [evaluateZones_eq, (afterPass_frame _ _).2.2.2.2.2]; rfl

/-- The cursor stands at the header after a verify step exactly where it has ended a pass (R61, R62). -/
theorem verifyStep_ended {part : Word} {z : ZoneMonitor} (ended : (verifyStep part z).cursor = .header) :
    passEnd z = some (verifyStep part z).pass := by
  unfold verifyStep at ended ⊢
  cases result : passEnd z with
  | none => rw [result] at ended; cases ended
  | some r => rfl

/-- What the end of a verify pass does (R62, R196). -/
theorem evaluateZones_pass {part : Word} {s : State} (ended : (evaluateZones part s).zone.cursor = .header) :
    ((evaluateZones part s).zone.pass = .pass → (evaluateZones part s).mode.verified = true) ∧
    ((evaluateZones part s).zone.pass = .mismatch → s.mode.mode = .live →
      (evaluateZones part s).stop.safety = .dropped) := by
  rw [evaluateZones_zone] at ended ⊢
  have result := verifyStep_ended ended
  rw [evaluateZones_eq, result]
  refine ⟨fun matches_ => ?_, fun differs live => ?_⟩
  · rw [matches_]; rfl
  · rw [differs]
    have still : (zonesStopped part s).mode.mode = .live := (zonesStopped_passes part s).live.2 live
    exact (takeCause_stops (plainCause .zoneTableCorrupt)
      (s := (zonesStopped part s).setZone (verifyStep part (zonesFormed s))) still).2.2 rfl

theorem zoneStops_controlled {g : Geometry} {z : ZoneMonitor} {c : Cause} (stop : c ∈ zoneStops g z) :
    c.name.cls = .c := by
  obtain ⟨f, -, rfl⟩ := List.mem_map.1 stop
  rfl

/-- Causes taken in a LIVE crane leave it in no NORMAL. -/
theorem takeCauses_off {cs : List Cause} (some_ : cs ≠ []) {s : State} (live : s.mode.mode = .live) :
    (takeCauses cs s).stop.safety ≠ .normal := by
  cases cs with
  | nil => exact absurd rfl some_
  | cons c cs => exact (takeCauses_passes cs _).stopped (takeCause_stops c live).1

theorem takeCauses_noted {cs : List Cause} (some_ : cs ≠ []) {s : State} (used : s.mode.mode ≠ .parked) :
    (takeCauses cs s).stop.fault ≠ none := by
  cases cs with
  | nil => exact absurd rfl some_
  | cons c cs => exact (takeCauses_passes cs _).fault.entered (by rw [Proofs.noted_fault c used]; exact nofun)

/-- What the zones newly in their stop band do (R57, R65, R85, R86). -/
theorem evaluateZones_stops (part : Word) (s : State) :
    (zoneStops s.geo (zonesSampled s) ≠ [] → s.mode.mode = .live → (evaluateZones part s).stop.safety ≠ .normal) ∧
    (zoneStops s.geo (zonesSampled s) ≠ [] → s.mode.mode ≠ .parked → (evaluateZones part s).stop.fault ≠ none) ∧
    (∀ c more, zoneStops s.geo (zonesSampled s) = c :: more → s.mode.mode ≠ .parked → s.stop.fault = none →
      ∃ r, (evaluateZones part s).stop.fault = some r ∧ r.cause = c ∧ r.mode = s.mode.mode ∧ r.safety = s.stop.safety ∧
        min more.length 255 ≤ r.laterCount) ∧
    (zoneStops s.geo (zonesSampled s) = [] →
      ¬ ((evaluateZones part s).zone.cursor = .header ∧ (evaluateZones part s).zone.pass = .mismatch) →
      (evaluateZones part s).stop = s.stop) := by
  obtain ⟨-, -, -, -, -, mode, -, -, -, stop, -⟩ := slowTested_frame part s
  have after : Passes ((zonesStopped part s).setZone (verifyStep part (zonesFormed s))) (evaluateZones part s) := by
    rw [evaluateZones_eq]; exact afterPass_passes _ _
  refine ⟨fun some_ live => after.stopped ?_, fun some_ used => after.fault.entered ?_, fun c more is used empty => ?_,
    fun none_ whole => ?_⟩
  · exact takeCauses_off some_ (by rw [mode]; exact live)
  · exact takeCauses_noted some_ (by rw [mode]; exact used)
  · obtain ⟨r, there, cause, mode', safety, later⟩ := takeCauses_entered (c := c) (cs := more)
      (fun d member => zoneStops_controlled (is ▸ member)) (s := slowTested part s) (by rw [mode]; exact used)
      (by rw [stop]; exact empty)
    rw [← is] at there
    obtain ⟨r', there', cause', mode'', safety', later'⟩ := after.fault r there
    refine ⟨r', there', cause'.trans cause, mode''.trans (mode'.trans (by rw [mode])),
      safety'.trans (safety.trans (by rw [stop])), ?_⟩
    omega
  · have stopped : (zonesStopped part s).stop = s.stop := by
      unfold zonesStopped
      rw [none_]
      exact stop
    rw [evaluateZones_zone] at whole
    rw [evaluateZones_eq]
    cases result : passEnd (zonesFormed s) with
    | none => exact stopped
    | some r =>
      cases r with
      | mismatch =>
        refine absurd ?_ whole
        unfold verifyStep
        rw [result]
        exact ⟨rfl, rfl⟩
      | pass | none => exact stopped

end Sys2Proof.Machine
end

section
/-! PROOFS. A matched return evaluated, mapped, tested and forwarded. -/

namespace Sys2Proof.Machine
open Sys2Proof.Claims

/-! ## The model's steps, each with a name -/

/-- The run of losses ended and the return's own causes taken (R174, R175). -/
def returnCaused (e : InFlight) (f : Frame) (s : State) : State :=
  takeCauses (returnCauses (endLosses s) e f) (endLosses s)

/-- The head evaluated for a return (R35). -/
def headEvaluated (e : InFlight) (f : Frame) (s : State) : State :=
  (returnCaused e f s).setGeo (evaluateHead (returnCaused e f s).cond.chans e.part (returnCaused e f s).geo)

/-- The FEEDBACK_CROSSES test of a return (R158). -/
def feedbackTested (part : Word) (s : State) : State :=
  testCrossing .feedbackCrosses s.take.play.state (fun n => (s.chan n).feedback) part (consoleTimecode s) s

/-- A return once evaluated: mapped, tested and forwarded. -/
def returnFinished (e : InFlight) (f : Frame) (z : State) : State :=
  forwardReturn e f (feedbackTested e.part (mapReturn e.part z))

theorem matchedReturn_eq (e : InFlight) (f : Frame) (s : State) :
    matchedReturn e f s = returnFinished e f (evaluateZones e.part (headEvaluated e f s)) := rfl

theorem endLosses_passes (s : State) : Passes s (endLosses s) := setLink_passes _ s

theorem returnCaused_passes (e : InFlight) (f : Frame) (s : State) : Passes s (returnCaused e f s) :=
  (endLosses_passes s).trans (takeCauses_passes _ _)

theorem headEvaluated_passes (e : InFlight) (f : Frame) (s : State) : Passes s (headEvaluated e f s) := by
  have placed (u : State) (g : Geometry) : Passes u (u.setGeo g) := .of_blocks
  exact (returnCaused_passes e f s).trans (placed _ _)

theorem headEvaluated_dropsLens (e : InFlight) (f : Frame) (s : State) : dropsLens s (headEvaluated e f s) := by
  have ended : dropsLens s (endLosses s) := .of_lens rfl Iff.rfl
  have caused : dropsLens s (returnCaused e f s) :=
    ended.trans (takeCauses_dropsLens _ _) (endLosses_passes s).dropped (takeCauses_passes _ _).dropped
  exact caused

theorem headEvaluated_captureKept (e : InFlight) (f : Frame) (s : State) : captureKept s (headEvaluated e f s) := by
  have ended : captureKept s (endLosses s) := .of_capture rfl
  exact ended.trans (takeCauses_captureKept _ _)

theorem headEvaluated_blocks (e : InFlight) (f : Frame) (s : State) :
    (headEvaluated e f s).geo = evaluateHead (headEvaluated e f s).cond.chans e.part s.geo ∧
    (headEvaluated e f s).zone = s.zone ∧
    (headEvaluated e f s).link = { s.link with lossCount := 0, feedbackLost := false } := by
  obtain ⟨-, -, link, -, geo, zone⟩ := takeCauses_frame (returnCauses (endLosses s) e f) (endLosses s)
  refine ⟨?_, zone, link⟩
  show evaluateHead (returnCaused e f s).cond.chans e.part (returnCaused e f s).geo = _
  rw [show (returnCaused e f s).geo = s.geo from geo]; rfl

/-! ## The head reads descriptors and feedback alone -/

theorem roleFeedback_congr {v w : Vector Channel 12} (same : ∀ n : Fin 12, holdOnly v[n] w[n]) (r : Role) :
    roleFeedback w r = roleFeedback v r := by
  have desc (n : Fin 12) : (w[n]).desc = (v[n]).desc := by
    have only := same n
    unfold holdOnly at only
    rw [only]
  have feedback (n : Fin 12) : (w[n]).feedback = (v[n]).feedback := by
    have only := same n
    unfold holdOnly at only
    rw [only]
  unfold roleFeedback roleHolder
  simp only [desc, feedback]

theorem evaluateHead_congr {v w : Vector Channel 12} (same : ∀ n : Fin 12, holdOnly v[n] w[n]) (part : Word)
    (g : Geometry) : evaluateHead w part g = evaluateHead v part g := by
  unfold evaluateHead headInputs
  simp only [roleFeedback_congr same]

/-! ## What is left when the return has been forwarded -/

theorem mapFeedback_eq (c : Channel) (l : LensChannel) : mapFeedback c l = feedbackMapped c l := by
  unfold mapFeedback feedbackMapped
  by_cases lens : c.desc.cls = .lens
  · rw [if_pos lens, if_pos ((Channel.isLens_iff c).2 lens)] <;> cases l.active <;> rfl
  · rw [if_neg lens, if_neg (mt (Channel.isLens_iff c).1 lens)]

theorem feedbackTested_frame (part : Word) (s : State) :
    (feedbackTested part s).pending = s.pending ∧ (feedbackTested part s).timer = s.timer ∧
    (feedbackTested part s).pins = s.pins ∧ (feedbackTested part s).link = s.link ∧
    (feedbackTested part s).service = s.service ∧ (feedbackTested part s).mode = s.mode ∧
    (feedbackTested part s).cond = s.cond ∧ (feedbackTested part s).geo = s.geo ∧
    (feedbackTested part s).zone = s.zone ∧ (feedbackTested part s).stop = s.stop ∧
    (feedbackTested part s).lens = s.lens ∧ (feedbackTested part s).store = s.store ∧
    (feedbackTested part s).take = s.take :=
  testCrossing_frame _ _ _ _ _ s

/-- What follows the evaluation of a return changes the link, the lenses and the Capture Unit alone. -/
theorem returnFinished_blocks (e : InFlight) (f : Frame) (z : State) :
    (returnFinished e f z).pending = z.pending ∧ (returnFinished e f z).timer = z.timer ∧
    (returnFinished e f z).pins = z.pins ∧ (returnFinished e f z).service = z.service ∧
    (returnFinished e f z).mode = z.mode ∧ (returnFinished e f z).cond = z.cond ∧ (returnFinished e f z).geo = z.geo ∧
    (returnFinished e f z).zone = z.zone ∧ (returnFinished e f z).stop = z.stop ∧
    (returnFinished e f z).take = z.take ∧
    (returnFinished e f z).capture = (feedbackTested e.part (mapReturn e.part z)).capture := by
  obtain ⟨pending, timer, pins, -, service, mode, cond, geo, zone, stop, -, -, take⟩ :=
    feedbackTested_frame e.part (mapReturn e.part z)
  exact ⟨pending, timer, pins, service, mode, cond, geo, zone, stop, take, rfl⟩

theorem returnFinished_lens (e : InFlight) (f : Frame) (z : State) (n : Fin 12) :
    (returnFinished e f z).lens[n] = stallStep e.part z.cond.chans[n] (feedbackMapped z.cond.chans[n] z.lens[n]) := by
  have lens : (returnFinished e f z).lens = (mapReturn e.part z).lens :=
    (feedbackTested_frame e.part _).2.2.2.2.2.2.2.2.2.2.1
  rw [lens, ← mapFeedback_eq]
  exact State.mapAllLens_at _ _ n

theorem returnFinished_link (e : InFlight) (f : Frame) (z : State) :
    ∃ g, (returnFinished e f z).link = { z.link with sentC := z.link.sentC ++ [g] } ∧
      headedFor z.link.offset e g ∧ g.flags = f.flags ∧ g.timecode = f.timecode ∧ g.slots = f.slots ∧
      carriesReply e.service g.service ∧
      tracks (returnFinished e f z).capture.embed (trackedFields e (returnFinished e f z)) g.tracking := by
  have link : (feedbackTested e.part (mapReturn e.part z)).link = z.link := (feedbackTested_frame _ _).2.2.2.1
  obtain ⟨g, sent, headed, flags, timecode, slots, reply, tracked⟩ :=
    forwardReturn_link e f (feedbackTested e.part (mapReturn e.part z))
  rw [link] at sent headed
  exact ⟨g, sent, headed, flags, timecode, slots, reply, tracked⟩

/-- The state that a matched return has been evaluated in. -/
@[irreducible] def returnEvaluated (e : InFlight) (f : Frame) (s : State) : State :=
  evaluateZones e.part (headEvaluated e f s)

theorem returnEvaluated_def (e : InFlight) (f : Frame) (s : State) :
    evaluateZones e.part (headEvaluated e f s) = returnEvaluated e f s := by unfold returnEvaluated; rfl

theorem matchedReturn_finishes (e : InFlight) (f : Frame) (s : State) :
    matchedReturn e f s = returnFinished e f (returnEvaluated e f s) := by
  rw [matchedReturn_eq, returnEvaluated_def]

/-- The evaluation of a return: the head and the zones for its frame, and what the causes raised in it leave. -/
theorem returnEvaluated_blocks (e : InFlight) (f : Frame) (s : State) :
    (returnEvaluated e f s).geo = evaluateHead (returnEvaluated e f s).cond.chans e.part s.geo ∧
    (returnEvaluated e f s).link = { s.link with lossCount := 0, feedbackLost := false } ∧
    (headEvaluated e f s).geo = (returnEvaluated e f s).geo ∧
    zonesSampled (headEvaluated e f s) =
      sampleCrew (returnEvaluated e f s).pins.crewSeen (exchangeBanks s.zone) ∧
    (returnEvaluated e f s).zone = verifyStep e.part (formScale (returnEvaluated e f s).geo
      (sampleCrew (returnEvaluated e f s).pins.crewSeen (exchangeBanks s.zone))) ∧
    Passes s (returnEvaluated e f s) ∧ dropsLens s (returnEvaluated e f s) := by
  obtain ⟨geo, zone, link⟩ := headEvaluated_blocks e f s
  obtain ⟨-, -, link', -, geo'⟩ := evaluateZones_frame e.part (headEvaluated e f s)
  have passes := evaluateZones_passes e.part (headEvaluated e f s)
  have zone' := evaluateZones_zone e.part (headEvaluated e f s)
  have lens := evaluateZones_dropsLens e.part (headEvaluated e f s)
  rw [returnEvaluated_def] at link' geo' passes zone' lens
  have sampled : zonesSampled (headEvaluated e f s) =
      sampleCrew (returnEvaluated e f s).pins.crewSeen (exchangeBanks s.zone) := by
    unfold zonesSampled
    rw [zone, passes.inputs.1]
  refine ⟨?_, link'.trans link, geo'.symm, sampled, ?_, (headEvaluated_passes e f s).trans passes,
    (headEvaluated_dropsLens e f s).trans lens (headEvaluated_passes e f s).dropped passes.dropped⟩
  · rw [geo', geo, evaluateHead_congr passes.held]
  · rw [zone', zonesFormed, sampled, geo']

/-! ## A return that raises nothing of its own -/

/-- A slot of a channel that follows and whose drive is ready raises nothing (R175). -/
theorem slotCauses_none {s : State} {e : InFlight} {f : Frame} {n : Fin 12}
    (quiet : (s.cond.chans[n]).desc.cls ≠ .unused → (e.outputs[n]).enable = true →
      ((s.cond.chans[n]).desc.followLimit = 0 ∨ (e.outputs[n]).calibrated = true ∨
        ((e.outputs[n]).value - (f.slots[n]).value.toInt).natAbs ≤ (s.cond.chans[n]).desc.followLimit) ∧
      ((f.slots[n]).flag.extractLsb' 4 4 = 1 ∨ (f.slots[n]).flag.extractLsb' 4 4 = 2)) :
    slotCauses s e f n = [] := by
  unfold slotCauses
  dsimp only
  by_cases sent : ((s.chan n).used && (e.outputs[n]).enable) = true
  · rw [if_pos sent]
    obtain ⟨used, enable⟩ := Bool.and_eq_true_iff.1 sent
    obtain ⟨follows, ready⟩ := quiet ((Channel.used_iff _).1 used) enable
    rw [if_pos (show slotStatus f.slots[n] = statusReady ∨ slotStatus f.slots[n] = statusNotReady from ready),
      List.append_nil]
    refine if_neg ?_
    rintro ⟨limited, uncalibrated, beyond⟩
    rcases follows with zero | calibrated | near
    · exact limited zero
    · rw [calibrated] at uncalibrated; cases uncalibrated
    · exact absurd beyond (Nat.not_lt.2 near)
  · exact if_neg sent

theorem returnCauses_none {s : State} {e : InFlight} {f : Frame}
    (quiet : ∀ n : Fin 12, slotCauses s e f n = []) : returnCauses s e f = [] := by
  unfold returnCauses
  exact List.flatMap_eq_nil_iff.2 fun n _ => quiet n

/-- A return without causes of its own meets the zones as the losses left the crane. -/
theorem headEvaluated_quiet {e : InFlight} {f : Frame} {s : State} (quiet : returnCauses (endLosses s) e f = []) :
    (headEvaluated e f s).stop = s.stop ∧ (headEvaluated e f s).mode = s.mode ∧ (headEvaluated e f s).take = s.take := by
  have same : returnCaused e f s = endLosses s := by unfold returnCaused; rw [quiet]; rfl
  unfold headEvaluated
  rw [same]
  exact ⟨rfl, rfl, rfl⟩

end Sys2Proof.Machine
end

section
/-! PROOFS. ReturnsMatched: a return on port D matched against the in-flight list. -/

namespace Sys2Proof.Machine
open Sys2Proof.Claims

/-! ## The place of a return -/

theorem matchPlace_first {l : Link} {cycle : Half} {ahead rest : List InFlight} {e : InFlight}
    (list : l.inFlight = ahead ++ e :: rest) (this : e.part.setWidth 16 = cycle)
    (none_ : ∀ a ∈ ahead, a.part.setWidth 16 ≠ cycle) : matchPlace l cycle = some ahead.length := by
  unfold matchPlace
  rw [list]
  clear list
  induction ahead with
  | nil => rw [List.nil_append, List.findIdx?_cons, this, beq_self_eq_true]; rfl
  | cons a ahead ih =>
    rw [List.cons_append, List.findIdx?_cons, beq_eq_false_iff_ne.2 (none_ a List.mem_cons_self),
      ih fun b member => none_ b (List.mem_cons_of_mem a member)]
    rfl

theorem matchPlace_none {l : Link} {cycle : Half} (none_ : ∀ e ∈ l.inFlight, e.part.setWidth 16 ≠ cycle) :
    matchPlace l cycle = none :=
  List.findIdx?_eq_none_iff.2 fun e member => beq_eq_false_iff_ne.2 (none_ e member)

/-- The entry that a return matches, with those ahead of it. -/
theorem inFlight_cases (l : List InFlight) (cycle : Half) :
    (∀ e ∈ l, e.part.setWidth 16 ≠ cycle) ∨
    ∃ ahead e rest, l = ahead ++ e :: rest ∧ e.part.setWidth 16 = cycle ∧ ∀ a ∈ ahead, a.part.setWidth 16 ≠ cycle := by
  induction l with
  | nil => exact .inl nofun
  | cons b l ih =>
    by_cases this : b.part.setWidth 16 = cycle
    · exact .inr ⟨[], b, l, rfl, this, nofun⟩
    · rcases ih with none_ | ⟨ahead, e, rest, rfl, that, none_⟩
      · exact .inl (List.forall_mem_cons.2 ⟨this, none_⟩)
      · exact .inr ⟨b :: ahead, e, rest, rfl, that, List.forall_mem_cons.2 ⟨this, none_⟩⟩

/-! ## The entries ahead lost, the SEQUENCE error counted -/

/-- What stands when a return has reached its entry (R174, R176). -/
structure ReturnReached (ahead rest : List InFlight) (s u : State) : Prop where
  passes : Passes s u
  capture : captureKept s u
  dropped : u.stop.safety = .dropped ↔ s.stop.safety = .dropped
  lens : ∀ n : Fin 12, u.lens[n] = if ahead = [] then s.lens[n] else windowEmptied s.lens[n]
  geo : u.geo = s.geo
  zone : u.zone = s.zone
  total : s.link.totalLost ≤ 65535 → u.link.totalLost = min (s.link.totalLost + ahead.length) 65535
  link : ∃ lost, u.link = { s.link with
      portD := if ahead = [] then s.link.portD else errorCounted .sequence s.link.portD
      inFlight := rest, lossCount := u.link.lossCount, feedbackLost := u.link.feedbackLost
      totalLost := u.link.totalLost, armingLoss := u.link.armingLoss, sentC := s.link.sentC ++ lost } ∧
    List.Forall₂ (staleReturn s.link.offset) ahead lost
  quiet : ahead = [] → u.stop = s.stop ∧ u.mode = s.mode ∧ u.take = s.take ∧ u.cond = s.cond

theorem portError_lens (p : PortId) (k : ErrKind) (s : State) : (portError p k s).lens = s.lens := by
  have controlled (t : State) : (takeCause (linkCause p k) t).lens = t.lens := by
    refine Vector.ext fun n inside => ?_
    have kept := takeCause_dropsLens (linkCause p k) t ⟨n, inside⟩
    rw [if_neg fun now => now.2 ((takeCause_drives (c := linkCause p k) rfl t).dropped.1 now.1)] at kept
    exact kept
  unfold portError
  dsimp only
  split
  · split
    · exact controlled (s.setLink _)
    · rfl
  · rfl

theorem goodReturn_reaches {f : Frame} {s : State} {ahead rest : List InFlight} {e : InFlight}
    (listens : s.link.portD.rx.listening = true) (list : s.link.inFlight = ahead ++ e :: rest)
    (this : e.part.setWidth 16 = f.cycle) (none_ : ∀ a ∈ ahead, a.part.setWidth 16 ≠ f.cycle) :
    ∃ u, goodReturn f s = matchedReturn e f u ∧ ReturnReached ahead rest (deliverFeedback f s) u := by
  have losses := loseEntries_taken ahead (tail := e :: rest) (s := deliverFeedback f s) list
  have place := matchPlace_first list this none_
  obtain ⟨lost, link, stales⟩ := losses.link
  have tail : (loseEntries ahead.length (deliverFeedback f s)).link.inFlight = e :: rest := congrArg Link.inFlight link
  have reaches : goodReturn f s = matchedReturn e f
      (if ahead.length = 0 then (loseEntries ahead.length (deliverFeedback f s)).setLink
          { (loseEntries ahead.length (deliverFeedback f s)).link with inFlight := rest }
        else portError .d .sequence ((loseEntries ahead.length (deliverFeedback f s)).setLink
          { (loseEntries ahead.length (deliverFeedback f s)).link with inFlight := rest })) := by
    unfold goodReturn
    rw [place]
    dsimp only
    rw [tail]
  have heard : (deliverFeedback f s).link.portD.rx.listening = true := listens
  have alone : ahead = [] → loseEntries ahead.length (deliverFeedback f s) = deliverFeedback f s := by
    rintro rfl; rfl
  rw [reaches]
  generalize loseEntries ahead.length (deliverFeedback f s) = v at *
  generalize deliverFeedback f s = s at *
  refine ⟨_, rfl, ?_⟩
  have removed : Passes v (v.setLink { v.link with inFlight := rest }) := setLink_passes _ v
  by_cases first : ahead = []
  · rw [if_pos (List.length_eq_zero_iff.2 first)]
    obtain rfl := alone first
    refine ⟨removed, .of_capture rfl, Iff.rfl, losses.lens, rfl, rfl, losses.total, ⟨lost, ?_, stales⟩,
      fun _ => ⟨rfl, rfl, rfl, rfl⟩⟩
    rw [if_pos first, ← show v.link.sentC = v.link.sentC ++ lost from congrArg Link.sentC link]
    rfl
  · rw [if_neg (mt List.length_eq_zero_iff.1 first)]
    have still : (v.setLink { v.link with inFlight := rest }).link.portD.rx.listening = true := by
      show v.link.portD.rx.listening = true
      rw [link]; exact heard
    obtain ⟨-, -, -, geo, zone⟩ := portError_frame .d .sequence (v.setLink { v.link with inFlight := rest })
    have counted := portError_link (p := .d) (k := .sequence) still
    have drives := portError_drives .d .sequence (v.setLink { v.link with inFlight := rest })
    have capture := portError_captureKept .d .sequence (v.setLink { v.link with inFlight := rest })
    have lens := portError_lens .d .sequence (v.setLink { v.link with inFlight := rest })
    have passes := (losses.passes.trans removed).trans (portError_passes .d .sequence _)
    generalize portError .d .sequence (v.setLink { v.link with inFlight := rest }) = u at *
    refine ⟨passes, ?_, drives.dropped.trans losses.dropped, fun n => ?_, geo.trans losses.geo, zone.trans losses.zone,
      fun low => ?_, ⟨lost, ?_, stales⟩, fun none_ => absurd none_ first⟩
    · exact losses.capture.trans capture
    · rw [lens]; exact losses.lens n
    · rw [counted]; exact losses.total low
    · have portD : v.link.portD = s.link.portD := by rw [link]
      rw [if_neg first, counted, ← portD]
      show { ({ v.link with inFlight := rest } : Link) with portD := errorCounted .sequence v.link.portD } = _
      rw [link]
      rfl

end Sys2Proof.Machine
end

section
/-! PROOFS. The Capture Unit's two tests at a matched return, and the feedback it delivers. -/

namespace Sys2Proof.Machine
open Sys2Proof.Claims

/-! ## Tests that find nothing to test -/

/-- A unit that is not armed with a condition of a kind is left alone by a test of it (R158). -/
theorem testCapture_idle {kind : CaptureKind} {play : PlayState} {met : Condition → Option MetValue}
    {part timecode : Word} {s : State}
    (idle : s.capture.state ≠ .armed ∨ ∀ c, s.capture.condition = some c → c.kind ≠ kind) :
    testCapture kind play met part timecode s = s := by
  rcases testCapture_cases kind play met part timecode s with ⟨c, m, waits, -, -⟩ | ⟨-, same⟩
  · obtain ⟨armed, condition, this, -⟩ := waits
    rcases idle with off | other
    · exact absurd armed off
    · exact absurd this (other c condition)
  · exact same

/-- A test leaves the condition that is armed (R158, R161). -/
theorem testCapture_condition (kind : CaptureKind) (play : PlayState) (met : Condition → Option MetValue)
    (part timecode : Word) (s : State) :
    (testCapture kind play met part timecode s).capture.condition = s.capture.condition := by
  rcases testCapture_cases kind play met part timecode s with ⟨c, m, -, -, trips⟩ | ⟨-, same⟩
  · rw [trips]; rfl
  · rw [same]

theorem keepSample_idle {kind : CaptureKind} {sample : Fin 12 → Int} {s : State}
    (idle : s.capture.state ≠ .armed ∨ ∀ c, s.capture.condition = some c → c.kind ≠ kind) :
    keepSample kind sample s = s := by
  unfold keepSample
  split
  case h_1 c armed condition =>
    rcases idle with off | other
    · exact absurd armed off
    · exact if_neg (other c condition)
  case h_2 => rfl

theorem testCrossing_idle {kind : CaptureKind} {play : PlayState} {sample : Fin 12 → Int} {part timecode : Word}
    {s : State} (idle : s.capture.state ≠ .armed ∨ ∀ c, s.capture.condition = some c → c.kind ≠ kind) :
    testCrossing kind play sample part timecode s = s := by
  unfold testCrossing
  rw [testCapture_idle idle, keepSample_idle idle]

/-! ## What a test reads of a state -/

theorem testedFor_congr {kind : CaptureKind} {play : PlayState} {met : Condition → Option MetValue}
    {part timecode : Word} {s t : State} {u : CaptureUnit} (capture : t.capture = s.capture) (take : t.take = s.take)
    (snapshot : snapshotNow t = snapshotNow s) (tested : testedFor kind play met part timecode s u) :
    testedFor kind play met part timecode t u := by
  have tripped (c : Condition) (m : MetValue) : trippedBy c m part timecode t = trippedBy c m part timecode s := by
    unfold trippedBy
    rw [capture, take, snapshot]
  obtain ⟨trips, stands⟩ := tested
  refine ⟨fun c m waits meets => ?_, fun unmet => ?_⟩
  · rw [capture] at waits
    exact (trips c m waits meets).trans (tripped c m).symm
  · rw [capture] at unmet ⊢
    exact stands unmet

theorem testCrossing_congr (kind : CaptureKind) (play : PlayState) (sample : Fin 12 → Int) (part timecode : Word)
    {s t : State} (cond : t.cond = s.cond) (geo : t.geo = s.geo) (scale : t.zone.scale = s.zone.scale)
    (take : t.take = s.take) (capture : t.capture = s.capture) :
    (testCrossing kind play sample part timecode t).capture =
      (testCrossing kind play sample part timecode s).capture := by
  have kept (a b : State) (same : b.capture = a.capture) :
      (keepSample kind sample b).capture = (keepSample kind sample a).capture := by
    unfold keepSample
    rw [same]
    split
    · split
      · rw [State.setCapture_capture, State.setCapture_capture]
      · exact same
    · exact same
  unfold testCrossing
  rw [capture]
  exact kept _ _ (testCapture_congr _ _ _ _ _ cond geo scale take capture)

theorem snapshotNow_congr {s t : State} (held : ∀ n : Fin 12, holdOnly s.cond.chans[n] t.cond.chans[n])
    (head : t.geo.head = s.geo.head) (scale : t.zone.scale = s.zone.scale) : snapshotNow t = snapshotNow s := by
  have axes : t.cond.chans.map (fun c => (c.outPos, c.feedback)) =
      s.cond.chans.map fun c => (c.outPos, c.feedback) := by
    refine table_ext fun n => ?_
    have only := held n
    unfold holdOnly at only
    show (t.cond.chans.map (fun c => (c.outPos, c.feedback)))[n.val] =
      (s.cond.chans.map fun c => (c.outPos, c.feedback))[n.val]
    rw [Vector.getElem_map, Vector.getElem_map]
    show ((t.cond.chans[n]).outPos, (t.cond.chans[n]).feedback) = ((s.cond.chans[n]).outPos, (s.cond.chans[n]).feedback)
    rw [only]
  unfold snapshotNow
  rw [axes, head, scale]

theorem verifyStep_scale (part : Word) (z : ZoneMonitor) : (verifyStep part z).scale = z.scale := by
  unfold verifyStep
  split <;> rfl

/-! ## The tests of a return -/

section
variable {e : InFlight} {f : Frame} {s : State}

theorem returnEvaluated_captureKept : captureKept (slowTested e.part (headEvaluated e f s)) (returnEvaluated e f s) := by
  rw [← returnEvaluated_def]; exact evaluateZones_captureKept _ _

theorem returnFinished_capture (z : State) :
    (returnFinished e f z).capture = (feedbackTested e.part (mapReturn e.part z)).capture :=
  (returnFinished_blocks e f z).2.2.2.2.2.2.2.2.2.2

/-- A unit that awaits neither a cause nor a test of a return is as it was (R159). -/
theorem matchedReturn_capture_kept (idle : s.capture.state ≠ .armed ∨ ∀ c, s.capture.condition = some c →
    c.kind ≠ .anyStop ∧ c.kind ≠ .slowEnter ∧ c.kind ≠ .feedbackCrosses) :
    (matchedReturn e f s).capture = s.capture := by
  have cause : s.capture.state ≠ .armed ∨ ∀ c, s.capture.condition = some c → c.kind ≠ .anyStop :=
    idle.imp_right fun other c is => (other c is).1
  have slow : s.capture.state ≠ .armed ∨ ∀ c, s.capture.condition = some c → c.kind ≠ .slowEnter :=
    idle.imp_right fun other c is => (other c is).2.1
  have crosses : s.capture.state ≠ .armed ∨ ∀ c, s.capture.condition = some c → c.kind ≠ .feedbackCrosses :=
    idle.imp_right fun other c is => (other c is).2.2
  have before : (headEvaluated e f s).capture = s.capture := headEvaluated_captureKept e f s cause
  have tested : (slowTested e.part (headEvaluated e f s)).capture = s.capture := by
    unfold slowTested
    rw [testCapture_idle (by rw [State.setZone_capture, before]; exact slow)]
    exact before
  have evaluated : (returnEvaluated e f s).capture = s.capture :=
    (returnEvaluated_captureKept (by rw [tested]; exact cause)).trans tested
  have mapped : (mapReturn e.part (returnEvaluated e f s)).capture = s.capture := evaluated
  rw [matchedReturn_finishes, returnFinished_capture, feedbackTested,
    testCrossing_idle (by rw [mapped]; exact crosses)]
  exact mapped

/-- A FEEDBACK_CROSSES condition is tested at the end of the return's work (R158). -/
theorem matchedReturn_crosses {c : Condition} (is : s.capture.condition = some c) (kind : c.kind = .feedbackCrosses) :
    (matchedReturn e f s).capture =
      (testCrossing .feedbackCrosses (matchedReturn e f s).take.play.state
        (fun n => ((matchedReturn e f s).cond.chans[n]).feedback) e.part (latestTimecode s)
        { matchedReturn e f s with capture := s.capture }).capture := by
  have other (k : CaptureKind) (ne : k ≠ .feedbackCrosses) :
      s.capture.state ≠ .armed ∨ ∀ d, s.capture.condition = some d → d.kind ≠ k := by
    refine .inr fun d that => ?_
    obtain rfl := Option.some.inj (is.symm.trans that)
    rw [kind]; exact ne.symm
  have before : (headEvaluated e f s).capture = s.capture := headEvaluated_captureKept e f s (other .anyStop (by decide))
  have tested : (slowTested e.part (headEvaluated e f s)).capture = s.capture := by
    unfold slowTested
    rw [testCapture_idle (by rw [State.setZone_capture, before]; exact other .slowEnter (by decide))]
    exact before
  have evaluated : (returnEvaluated e f s).capture = s.capture :=
    (returnEvaluated_captureKept (by rw [tested]; exact other .anyStop (by decide))).trans tested
  obtain ⟨-, link, -⟩ := returnEvaluated_blocks e f s
  obtain ⟨-, -, -, -, -, cond, geo, zone, -, take, capture⟩ := returnFinished_blocks e f (returnEvaluated e f s)
  have timecode : consoleTimecode (mapReturn e.part (returnEvaluated e f s)) = latestTimecode s := by
    rw [← latestTimecode_eq]
    unfold latestTimecode
    rw [show (mapReturn e.part (returnEvaluated e f s)).link = (returnEvaluated e f s).link from rfl, link]
  rw [matchedReturn_finishes, capture, take, cond, feedbackTested, timecode]
  exact testCrossing_congr _ _ _ _ _ cond.symm geo.symm (congrArg ZoneMonitor.scale zone).symm take.symm evaluated

/-- A SLOW_ENTER condition is tested once the speed scale is formed, by the play state as the return's causes left it
(R158, R160). -/
theorem matchedReturn_slows {c : Condition} (is : s.capture.condition = some c) (kind : c.kind = .slowEnter) :
    testedFor .slowEnter (headEvaluated e f s).take.play.state
      (fun _ => if s.zone.scale = 256 ∧ (matchedReturn e f s).zone.scale < 256 then
        some (.number (matchedReturn e f s).zone.scale) else none)
      e.part (latestTimecode s)
      { matchedReturn e f s with take := (headEvaluated e f s).take, capture := s.capture }
      (matchedReturn e f s).capture := by
  have other (k : CaptureKind) (ne : k ≠ .slowEnter) :
      s.capture.state ≠ .armed ∨ ∀ d, s.capture.condition = some d → d.kind ≠ k := by
    refine .inr fun d that => ?_
    obtain rfl := Option.some.inj (is.symm.trans that)
    rw [kind]; exact ne.symm
  have before : (headEvaluated e f s).capture = s.capture := headEvaluated_captureKept e f s (other .anyStop (by decide))
  obtain ⟨-, zone, link⟩ := headEvaluated_blocks e f s
  obtain ⟨-, -, geo, -⟩ := returnEvaluated_blocks e f s
  have passes := evaluateZones_passes e.part (headEvaluated e f s)
  have read := evaluateZones_zone e.part (headEvaluated e f s)
  rw [returnEvaluated_def] at passes read
  have timecode : consoleTimecode (headEvaluated e f s) = latestTimecode s := by
    rw [← latestTimecode_eq]
    unfold latestTimecode
    rw [link]
  have tested : testedFor .slowEnter (headEvaluated e f s).take.play.state
      (fun _ => if (headEvaluated e f s).zone.scale = 256 ∧ (zonesFormed (headEvaluated e f s)).scale < 256 then
        some (.number (zonesFormed (headEvaluated e f s)).scale) else none)
      e.part (consoleTimecode (headEvaluated e f s))
      ((headEvaluated e f s).setZone (zonesFormed (headEvaluated e f s)))
      (slowTested e.part (headEvaluated e f s)).capture := testCapture_testedFor _ _ _ _ _ _
  have condition : (slowTested e.part (headEvaluated e f s)).capture.condition = some c :=
    (testCapture_condition _ _ _ _ _ _).trans ((congrArg CaptureUnit.condition before).trans is)
  have still (k : CaptureKind) (ne : k ≠ .slowEnter) : ∀ d,
      (slowTested e.part (headEvaluated e f s)).capture.condition = some d → d.kind ≠ k := by
    intro d that
    obtain rfl := Option.some.inj (condition.symm.trans that)
    rw [kind]; exact ne.symm
  have evaluated : (returnEvaluated e f s).capture = (slowTested e.part (headEvaluated e f s)).capture :=
    returnEvaluated_captureKept (.inr (still .anyStop (by decide)))
  have mapped : (mapReturn e.part (returnEvaluated e f s)).capture =
      (slowTested e.part (headEvaluated e f s)).capture := evaluated
  obtain ⟨-, -, -, -, -, cond', geo', zone', -, -, capture'⟩ := returnFinished_blocks e f (returnEvaluated e f s)
  have scale : (zonesFormed (headEvaluated e f s)).scale =
      (returnFinished e f (returnEvaluated e f s)).zone.scale := by
    rw [zone', read, verifyStep_scale]
  rw [feedbackTested, testCrossing_idle (.inr (by rw [mapped]; exact still .feedbackCrosses (by decide))),
    mapped] at capture'
  rw [timecode, zone, scale, ← capture'] at tested
  rw [matchedReturn_finishes]
  refine testedFor_congr (s := (headEvaluated e f s).setZone (zonesFormed (headEvaluated e f s))) before.symm rfl
    (snapshotNow_congr (fun n => ?_) ?_ ?_) tested
  · show holdOnly (headEvaluated e f s).cond.chans[n] (returnFinished e f (returnEvaluated e f s)).cond.chans[n]
    rw [cond']
    exact passes.held n
  · show (returnFinished e f (returnEvaluated e f s)).geo.head = (headEvaluated e f s).geo.head
    rw [geo', geo]
  · exact scale.symm

end

/-! ## The feedback delivered -/

theorem deliverFeedback_at (f : Frame) (s : State) (n : Fin 12) :
    let c : Channel := (deliverFeedback f s).cond.chans[n]
    c.feedback = (f.slots[n]).value.toInt ∧ c.status = (f.slots[n]).flag.extractLsb' 4 4 ∧
    (c.present = true ↔ (f.slots[n]).flag.extractLsb' 4 4 ≠ 0) ∧ c.desc = (s.cond.chans[n]).desc ∧
    c.outPos = if s.mode.mode = .parked ∧ (s.cond.chans[n]).desc.cls ≠ .unused then (f.slots[n]).value.toInt
      else (s.cond.chans[n]).outPos := by
  have stored : (deliverFeedback f s).cond.chans[n] = storeFeedback s.mode.mode f.slots[n] s.cond.chans[n] :=
    State.mapChans_at _ _ n
  intro c
  rw [show c = _ from stored]
  have used : ({ s.cond.chans[n] with
      feedback := (f.slots[n]).value.toInt, status := slotStatus f.slots[n]
      present := slotStatus f.slots[n] != statusNone, answered := true } : Channel).used = true ↔
      (s.cond.chans[n]).desc.cls ≠ .unused := Channel.used_iff _
  have present : (slotStatus f.slots[n] != statusNone) = true ↔ (f.slots[n]).flag.extractLsb' 4 4 ≠ 0 := bne_iff_ne
  unfold storeFeedback
  dsimp only
  by_cases follows : s.mode.mode = .parked ∧ (s.cond.chans[n]).desc.cls ≠ .unused
  · rw [if_pos ⟨follows.1, used.2 follows.2⟩, if_pos follows]
    exact ⟨rfl, rfl, present, rfl, rfl⟩
  · rw [if_neg fun now => follows ⟨now.1, used.1 now.2⟩, if_neg follows]
    exact ⟨rfl, rfl, present, rfl, rfl⟩

end Sys2Proof.Machine
end

section
/-! PROOFS. ReturnsMatched: assembled. -/

namespace Sys2Proof.Machine
open Sys2Proof.Claims

theorem matchedReturn_passes (e : InFlight) (f : Frame) (s : State) : Passes s (matchedReturn e f s) := by
  obtain ⟨-, -, -, -, -, passes, -⟩ := returnEvaluated_blocks e f s
  obtain ⟨pending, timer, pins, service, mode, cond, -, -, stop, take, -⟩ :=
    returnFinished_blocks e f (returnEvaluated e f s)
  rw [matchedReturn_finishes]
  exact passes.trans (.of_blocks pending timer service pins (by rw [mode]) cond take stop)

theorem deliverFeedback_blocks (f : Frame) (s : State) :
    (deliverFeedback f s).pending = s.pending ∧ (deliverFeedback f s).timer = s.timer ∧
    (deliverFeedback f s).pins = s.pins ∧ (deliverFeedback f s).link = s.link ∧
    (deliverFeedback f s).service = s.service ∧ (deliverFeedback f s).mode = s.mode ∧
    (deliverFeedback f s).geo = s.geo ∧ (deliverFeedback f s).zone = s.zone ∧ (deliverFeedback f s).stop = s.stop ∧
    (deliverFeedback f s).lens = s.lens ∧ (deliverFeedback f s).store = s.store ∧
    (deliverFeedback f s).take = s.take ∧ (deliverFeedback f s).capture = s.capture :=
  State.mapChans_frame s _

theorem goodReturn_unmatched {f : Frame} {s : State} (none_ : ∀ e ∈ s.link.inFlight, e.part.setWidth 16 ≠ f.cycle) :
    goodReturn f s = portError .d .sequence s := by
  unfold goodReturn
  rw [matchPlace_none none_]

/-- The link after a matched return (R174, R176, R177). -/
theorem matchedReturn_link {f : Frame} {s u : State} {ahead rest : List InFlight} (e : InFlight)
    (reached : ReturnReached ahead rest s u) :
    ∃ lost g, (matchedReturn e f u).link = { s.link with
        portD := if ahead = [] then s.link.portD else errorCounted .sequence s.link.portD
        inFlight := rest, lossCount := 0, feedbackLost := false, totalLost := u.link.totalLost
        armingLoss := u.link.armingLoss, sentC := s.link.sentC ++ (lost ++ [g]) } ∧
      List.Forall₂ (staleReturn s.link.offset) ahead lost ∧ headedFor s.link.offset e g ∧ g.flags = f.flags ∧
      g.timecode = f.timecode ∧ g.slots = f.slots ∧ carriesReply e.service g.service ∧
      tracks (matchedReturn e f u).capture.embed (trackedFields e (matchedReturn e f u)) g.tracking := by
  obtain ⟨lost, link, stales⟩ := reached.link
  obtain ⟨-, evaluated, -⟩ := returnEvaluated_blocks e f u
  obtain ⟨g, sent, headed, flags, timecode, slots, reply, tracked⟩ := returnFinished_link e f (returnEvaluated e f u)
  rw [matchedReturn_finishes]
  have offset : u.link.offset = s.link.offset := by rw [link]
  have sentC : u.link.sentC = s.link.sentC ++ lost := by rw [link]
  rw [evaluated] at sent headed
  refine ⟨lost, g, ?_, stales, ?_, flags, timecode, slots, reply, tracked⟩
  · rw [sent]
    dsimp only
    rw [sentC, List.append_assoc, link]
  · rw [← offset]; exact headed

/-- What a good return leaves whether it matches or not (R152, R159, R174). -/
theorem goodReturn_front {f : Frame} {s : State} (listens : s.link.portD.rx.listening = true) :
    (goodReturn f s).pending = s.pending ∧ (goodReturn f s).timer = s.timer ∧ (goodReturn f s).service = s.service ∧
    inputsKept s (goodReturn f s) ∧ (goodReturn f s).link.portC = s.link.portC ∧
    (goodReturn f s).link.part = s.link.part ∧ (goodReturn f s).link.readyD = s.link.readyD ∧
    ((s.capture.state ≠ .armed ∨ ∀ c, s.capture.condition = some c →
      c.kind ≠ .anyStop ∧ c.kind ≠ .slowEnter ∧ c.kind ≠ .feedbackCrosses) →
      (goodReturn f s).capture = s.capture) := by
  rcases inFlight_cases s.link.inFlight f.cycle with none_ | ⟨ahead, e, rest, list, this, none_⟩
  · rw [goodReturn_unmatched none_]
    obtain ⟨pending, timer, service, -, -⟩ := portError_frame .d .sequence s
    have link := portError_link (p := .d) (k := .sequence) listens
    refine ⟨pending, timer, service, portError_inputs _ _ s, ?_, ?_, ?_, fun idle => portError_captureKept _ _ s
      (idle.imp_right fun other c is => (other c is).1)⟩ <;> rw [link] <;> rfl
  · obtain ⟨u, same, reached⟩ := goodReturn_reaches listens list this none_
    obtain ⟨pending, timer, pins, link, service, -, -, -, -, -, -, -, capture⟩ := deliverFeedback_blocks f s
    have passes := reached.passes.trans (matchedReturn_passes e f u)
    obtain ⟨lost, g, sent, -⟩ := matchedReturn_link (f := f) e reached
    rw [link] at sent
    rw [same]
    refine ⟨passes.pending.trans pending, passes.timer.trans timer, passes.service.trans service,
      (inputsKept.of_pins pins).trans passes.inputs, by rw [sent], by rw [sent], by rw [sent], fun idle => ?_⟩
    rw [← capture] at idle
    have kept := reached.capture (idle.imp_right fun other c is => (other c is).1)
    rw [← kept] at idle
    rw [matchedReturn_capture_kept idle, kept, capture]

/-- The return that a crane quiet at it brings raises nothing before the zones are evaluated (R175). -/
theorem matchedReturn_quiet {f : Frame} {s u : State} {rest : List InFlight} {e : InFlight}
    (reached : ReturnReached [] rest (deliverFeedback f s) u)
    (quiet : ∀ n : Fin 12, (s.cond.chans[n]).desc.cls ≠ .unused → (e.outputs[n]).enable = true →
      ((s.cond.chans[n]).desc.followLimit = 0 ∨ (e.outputs[n]).calibrated = true ∨
        ((e.outputs[n]).value - (f.slots[n]).value.toInt).natAbs ≤ (s.cond.chans[n]).desc.followLimit) ∧
      ((f.slots[n]).flag.extractLsb' 4 4 = 1 ∨ (f.slots[n]).flag.extractLsb' 4 4 = 2)) :
    (headEvaluated e f u).stop = s.stop ∧ (headEvaluated e f u).mode = s.mode ∧ (headEvaluated e f u).take = s.take := by
  obtain ⟨stop, mode, take, cond⟩ := reached.quiet rfl
  obtain ⟨-, -, -, -, -, mode', -, -, stop', -, -, take', -⟩ := deliverFeedback_blocks f s
  have nothing : returnCauses (endLosses u) e f = [] := returnCauses_none fun n => slotCauses_none (by
    obtain ⟨-, -, -, desc, -⟩ := deliverFeedback_at f s n
    rw [show (endLosses u).cond = (deliverFeedback f s).cond from cond, desc]
    exact quiet n)
  obtain ⟨stop'', mode'', take''⟩ := headEvaluated_quiet nothing
  exact ⟨stop''.trans (stop.trans stop'), mode''.trans (mode.trans mode'), take''.trans (take.trans take')⟩

/-- The take engine as a return's zones find it is the one before or the one after it. -/
theorem matchedReturn_take {f : Frame} {s u : State} {e : InFlight} (passes : Passes s u) :
    (headEvaluated e f u).take = s.take ∨ (headEvaluated e f u).take = (matchedReturn e f u).take := by
  rcases (passes.trans (headEvaluated_passes e f u)).take with same | ⟨-, -, off⟩
  · exact .inl same
  · refine .inr ?_
    have settled := (evaluateZones_passes e.part (headEvaluated e f u)).take_settled off
    rw [returnEvaluated_def] at settled
    obtain ⟨-, -, -, -, -, -, -, -, -, take, -⟩ := returnFinished_blocks e f (returnEvaluated e f u)
    rw [matchedReturn_finishes, take, settled]

/-- Each lens channel after a matched return (R95, R102, R106). -/
theorem matchedReturn_lens (e : InFlight) (f : Frame) (u : State) (n : Fin 12) :
    (matchedReturn e f u).lens[n] = stallStep e.part (matchedReturn e f u).cond.chans[n]
      (feedbackMapped (matchedReturn e f u).cond.chans[n]
        (if (matchedReturn e f u).stop.safety = .dropped ∧ u.stop.safety ≠ .dropped then
          calibrationFailed .dropped u.lens[n] else u.lens[n])) := by
  obtain ⟨-, -, -, -, -, cond, -, -, stop, -⟩ := returnFinished_blocks e f (returnEvaluated e f u)
  obtain ⟨-, -, -, -, -, -, lens⟩ := returnEvaluated_blocks e f u
  rw [matchedReturn_finishes, stop, cond, ← lens n]
  exact returnFinished_lens e f _ n

/-- The zones' causes at a matched return, by what the zones newly in their stop band are (R57, R62, R196). -/
theorem matchedReturn_zones (e : InFlight) (f : Frame) (u : State) :
    (matchedReturn e f u).geo = evaluateHead (matchedReturn e f u).cond.chans e.part u.geo ∧
    (matchedReturn e f u).zone = verifyStep e.part (formScale (matchedReturn e f u).geo
      (sampleCrew (matchedReturn e f u).pins.crewSeen (exchangeBanks u.zone))) ∧
    zoneStops (headEvaluated e f u).geo (zonesSampled (headEvaluated e f u)) =
      zoneStops (matchedReturn e f u).geo
        (sampleCrew (matchedReturn e f u).pins.crewSeen (exchangeBanks u.zone)) ∧
    (matchedReturn e f u).zone = (evaluateZones e.part (headEvaluated e f u)).zone ∧
    (matchedReturn e f u).mode = (evaluateZones e.part (headEvaluated e f u)).mode ∧
    (matchedReturn e f u).stop = (evaluateZones e.part (headEvaluated e f u)).stop := by
  obtain ⟨-, -, pins, -, mode, cond, geo, zone, stop, -⟩ := returnFinished_blocks e f (returnEvaluated e f u)
  obtain ⟨head, -, same, sampled, formed, -⟩ := returnEvaluated_blocks e f u
  rw [matchedReturn_finishes, returnEvaluated_def, geo, cond, zone, pins, mode, stop, same, sampled]
  exact ⟨head, formed, rfl, rfl, rfl, rfl⟩

end Sys2Proof.Machine
end

section
/-! PROOFS. ReturnsMatched: the return taken in, matched or discarded. -/

namespace Sys2Proof.Machine
open Sys2Proof.Claims

/-! ## A frame taken in on port D -/

theorem classify_whole {kind : Byte} {bytes : List Byte} (length : bytes.length = 160)
    (crc : crc32 (bytes.take 156) = wordAt bytes 156) :
    classify kind true bytes = if byteAt bytes 0 = kind then .good else .wrongKind := by
  have intact : frameIntact bytes = true := by
    unfold frameIntact
    rw [crc, Bool.and_eq_true]
    exact ⟨decide_eq_true length, beq_self_eq_true _⟩
  unfold classify
  rw [intact]
  rfl

theorem classify_broken {kind : Byte} {clean : Bool} {bytes : List Byte}
    (broken : clean = false ∨ ¬ (bytes.length = 160 ∧ crc32 (bytes.take 156) = wordAt bytes 156)) :
    classify kind clean bytes = .bad := by
  unfold classify
  refine if_pos ?_
  rcases broken with rfl | torn
  · rfl
  · have torn' : frameIntact bytes = false := by
      unfold frameIntact
      refine Bool.eq_false_iff.2 fun whole => torn ?_
      rw [Bool.and_eq_true, decide_eq_true_eq, beq_iff_eq] at whole
      exact whole
    rw [torn', Bool.not_false, Bool.or_true]

theorem rxFrame_eq (good : Bool) (r : Receiver) : rxFrame good r = frameTaken good r := by
  cases good with
  | true => exact rxFrame_good
  | false =>
    unfold rxFrame frameTaken
    cases sync : r.sync <;> rfl

/-- The state in which a return is heard: the timer, the crew lines as they are seen. -/
def returnSeen (elapsed : Nat) (crew : Vector LineSample 4) (s : State) : State := seeCrew crew (advance elapsed s)

/-- The state in which a good return is matched: its receiver moved (R166). -/
def returnHeard (elapsed : Nat) (crew : Vector LineSample 4) (s : State) : State :=
  setRx .d (frameTaken true s.link.portD.rx) (returnSeen elapsed crew s)

theorem returnArrival_good {elapsed : Nat} {crew : Vector LineSample 4} {bytes : List Byte} {s : State}
    (listens : s.link.portD.rx.listening = true) (length : bytes.length = 160)
    (crc : crc32 (bytes.take 156) = wordAt bytes 156) (kind : byteAt bytes 0 = 0x03) :
    exec (.returnArrival elapsed crew true bytes) s =
      .next (goodReturn (parseFrame bytes) (returnHeard elapsed crew s)) := by
  have taken : takeIn .d .good true (returnSeen elapsed crew s) = returnHeard elapsed crew s := by
    show setRx .d (rxFrame true s.link.portD.rx) (returnSeen elapsed crew s) = _
    rw [rxFrame_eq]; rfl
  refine congrArg Host.Outcome.next ((if_pos listens).trans ?_)
  unfold returnFrame
  dsimp only
  rw [classify_whole length crc, if_pos (show byteAt bytes 0 = kindReturn from kind), if_pos rfl]
  exact congrArg (goodReturn (parseFrame bytes)) taken

/-- A return that is no good return: an error counted, its receiver moved, nothing else (R166, R167). -/
theorem returnArrival_discarded {elapsed : Nat} {crew : Vector LineSample 4} {clean : Bool} {bytes : List Byte}
    {s : State} (listens : s.link.portD.rx.listening = true)
    (bad : clean = false ∨ ¬ (bytes.length = 160 ∧ crc32 (bytes.take 156) = wordAt bytes 156) ∨ byteAt bytes 0 ≠ 0x03) :
    exec (.returnArrival elapsed crew clean bytes) s = .next
      (setRx .d (frameTaken
        (decide (clean = true ∧ bytes.length = 160 ∧ crc32 (bytes.take 156) = wordAt bytes 156)) s.link.portD.rx)
        (if clean = false then returnSeen elapsed crew s
          else if bytes.length = 160 ∧ crc32 (bytes.take 156) = wordAt bytes 156 then
            portError .d .sequence (returnSeen elapsed crew s)
          else portError .d .crc (returnSeen elapsed crew s))) := by
  have hears : (returnSeen elapsed crew s).link.portD.rx.listening = true := listens
  have counted (k : ErrKind) : (portError .d k (returnSeen elapsed crew s)).link.portD.rx = s.link.portD.rx := by
    rw [portError_link (p := .d) hears]; rfl
  refine congrArg Host.Outcome.next ((if_pos listens).trans ?_)
  show returnFrame clean bytes (returnSeen elapsed crew s) = _
  unfold returnFrame
  dsimp only
  by_cases whole : bytes.length = 160 ∧ crc32 (bytes.take 156) = wordAt bytes 156
  · cases clean with
    | false =>
      rw [classify_broken (.inl rfl), if_neg nofun, if_pos rfl, decide_eq_false (fun h => nomatch h.1), ← rxFrame_eq]
      rfl
    | true =>
      have other : byteAt bytes 0 ≠ 0x03 := (bad.resolve_left nofun).resolve_left fun torn => torn whole
      rw [classify_whole whole.1 whole.2, if_neg (show byteAt bytes 0 ≠ kindReturn from other), if_neg nofun,
        if_neg nofun, if_pos whole, decide_eq_true ⟨rfl, whole⟩, ← rxFrame_eq, ← counted .sequence]
      rfl
  · rw [classify_broken (.inr whole), if_neg nofun, decide_eq_false (fun h => whole h.2), if_neg whole, ← rxFrame_eq]
    cases clean with
    | false => rfl
    | true =>
      rw [if_neg nofun, ← counted .crc]
      rfl

end Sys2Proof.Machine

namespace Sys2Proof.Proofs
open Sys2Proof.Machine Sys2Proof.Claims

/-- Settles O39: a good return by the entry that it matches, any other return discarded. -/
theorem returnsMatched : Obligations.ReturnsMatched := by
  constructor
  · intro elapsed crew bytes s synced length crc kind rx
    have listens : s.link.portD.rx.listening = true := bne_iff_ne.2 synced
    have hears : (returnHeard elapsed crew s).link.portD.rx.listening = true := frameTaken_listening listens
    have counted : (portError .d .sequence s).link.portD = errorCounted .sequence s.link.portD := by
      rw [portError_link (p := .d) listens]; rfl
    obtain ⟨pending, timer, service, inputs, portC, part, readyD, capture⟩ :=
      goodReturn_front (f := parseFrame bytes) hears
    refine ⟨_, returnArrival_good listens length crc kind, pending, timer, service, portC, part, readyD, fun k => ?_,
      fun none_ => ?_, fun off => capture (.inl off), fun c is cause crosses slow => capture (.inr fun d that => ?_),
      fun none_ c is cause => ?_, fun ahead e rest list this none_ => ?_⟩
    · rw [inputs.1]
      exact Vector.getElem_ofFn _
    · rw [goodReturn_unmatched (f := parseFrame bytes) (s := returnHeard elapsed crew s) none_]
      obtain ⟨-, -, -, geo, zone⟩ := portError_frame .d .sequence (returnHeard elapsed crew s)
      have held := (portError_passes .d .sequence (returnHeard elapsed crew s)).held
      refine ⟨?_, geo, zone, fun n => ?_⟩
      · rw [portError_link (p := .d) hears, counted]; rfl
      · have only := held n
        unfold holdOnly at only
        rw [only]
        exact ⟨rfl, rfl, rfl⟩
    · obtain rfl := Option.some.inj (is.symm.trans that)
      exact ⟨cause, slow, crosses⟩
    · rw [goodReturn_unmatched (f := parseFrame bytes) (s := returnHeard elapsed crew s) none_]
      refine portError_captureKept .d .sequence (returnHeard elapsed crew s) (.inr fun d that => ?_)
      obtain rfl := Option.some.inj (is.symm.trans that)
      exact cause
    · obtain ⟨u, same, reached⟩ := goodReturn_reaches (f := parseFrame bytes) hears list this none_
      rw [same]
      obtain ⟨-, -, -, dlink, -, dmode, dgeo, dzone, dstop, dlens, -, dtake, dcapture⟩ :=
        deliverFeedback_blocks (parseFrame bytes) (returnHeard elapsed crew s)
      obtain ⟨lost, g, link, stales, headed, flags, timecode, slots, reply, tracked⟩ :=
        matchedReturn_link (f := parseFrame bytes) e reached
      rw [dlink] at link stales headed
      obtain ⟨geo, zone, stops, zoned, moded, stopped⟩ := matchedReturn_zones e (parseFrame bytes) u
      rw [reached.geo, dgeo] at geo
      rw [reached.zone, dzone] at zone stops
      have passes := reached.passes.trans (matchedReturn_passes e (parseFrame bytes) u)
      have before := reached.passes.trans (headEvaluated_passes e (parseFrame bytes) u)
      have slot (n : Fin 12) : (parseFrame bytes).slots[n] =
          { flag := byteAt bytes (8 + 5 * n), value := wordAt bytes (9 + 5 * n) } := Vector.getElem_ofFn _
      have live : s.mode.mode = .live → (headEvaluated e (parseFrame bytes) u).mode.mode = .live := fun live =>
        before.live.2 (by rw [dmode]; exact live)
      have held (c : Condition) (is : s.capture.condition = some c) (cause : c.kind ≠ .anyStop) :
          u.capture = s.capture := by
        refine (reached.capture (.inr fun d that => ?_)).trans dcapture
        rw [dcapture] at that
        obtain rfl := Option.some.inj (is.symm.trans that)
        exact cause
      have timecode_ : latestTimecode u = latestTimecode s := by
        obtain ⟨_, ulink, -⟩ := reached.link
        unfold latestTimecode
        rw [ulink, dlink]
        rfl
      obtain ⟨off, noted, first, quiet_⟩ := evaluateZones_stops e.part (headEvaluated e (parseFrame bytes) u)
      rw [stops] at off noted first quiet_
      rw [← stopped] at off noted first quiet_
      rw [← zoned] at quiet_
      refine ⟨by rw [link], by rw [link], by rw [link], ?_, fun low => ?_, ⟨lost, g, by rw [link]; rfl, stales, headed,
        flags, timecode, fun n => ?_, reply, tracked⟩, geo, zone, fun ended => ?_, fun ended => ?_, ⟨?_, ?_, ?_, ?_, ?_⟩,
        ?_, fun n => ?_, fun n => ?_⟩
      · rw [link, counted]
        by_cases first : ahead = []
        · rw [if_pos first, if_pos first]; rfl
        · rw [if_neg first, if_neg first]; rfl
      · rw [link]
        exact (reached.total (by rw [dlink]; exact low)).trans (by rw [dlink]; rfl)
      · rw [slots]; exact slot n
      · rw [zoned] at ended ⊢
        rw [moded]
        exact (evaluateZones_pass ended).1
      · rw [zoned] at ended ⊢
        rw [stopped]
        exact fun differs is => (evaluateZones_pass ended).2 differs (live is)
      · exact fun some_ is => off some_ (live is)
      · intro some_ used
        rcases before.noted (by rw [dmode]; exact used) with mode | entered
        · exact noted some_ mode
        · rw [stopped]
          exact (evaluateZones_passes e.part _).fault.entered entered
      · rintro c more is ⟨rfl, calm⟩ used empty
        obtain ⟨stop, mode, -⟩ := matchedReturn_quiet reached fun n => by rw [slot n]; exact calm n
        obtain ⟨r, there, cause, mode', safety, later⟩ :=
          first c more is (by rw [mode]; exact used) (by rw [stop]; exact empty)
        exact ⟨r, there, cause, mode'.trans (by rw [mode]; rfl), safety.trans (by rw [stop]; rfl), later⟩
      · rintro clear ⟨rfl, calm⟩ whole
        obtain ⟨stop, -, -⟩ := matchedReturn_quiet reached fun n => by rw [slot n]; exact calm n
        exact (quiet_ clear whole).trans (by rw [stop]; rfl)
      · intro c is slow
        have awaited := held c is (by rw [slow]; decide)
        refine ⟨(headEvaluated e (parseFrame bytes) u).take,
          (matchedReturn_take reached.passes).imp_left fun same => same.trans dtake, ?_, ?_⟩
        · rintro ⟨rfl, calm⟩
          obtain ⟨-, -, take⟩ := matchedReturn_quiet reached fun n => by rw [slot n]; exact calm n
          exact take
        · have tested := matchedReturn_slows (e := e) (f := parseFrame bytes) (s := u) (by rw [awaited]; exact is) slow
          rw [awaited, timecode_, reached.zone, dzone] at tested
          exact tested
      · intro c is crosses
        have awaited := held c is (by rw [crosses]; decide)
        have tested := matchedReturn_crosses (e := e) (f := parseFrame bytes) (s := u) (by rw [awaited]; exact is) crosses
        rw [awaited, timecode_] at tested
        exact tested
      · refine (matchedReturn_lens e (parseFrame bytes) u n).trans ?_
        rw [reached.lens n, dlens]
        simp only [ne_eq, reached.dropped, dstop]
        rfl
      · obtain ⟨feedback, status, present, desc, outPos⟩ :=
          deliverFeedback_at (parseFrame bytes) (returnHeard elapsed crew s) n
        have only := passes.held n
        unfold holdOnly at only
        rw [only]
        rw [slot n] at feedback status present outPos
        exact ⟨feedback, status, present, desc, outPos⟩
  · intro elapsed crew clean bytes s whole seen
    refine ⟨fun deaf => ?_, fun synced bad => returnArrival_discarded (bne_iff_ne.2 synced) bad⟩
    have deaf' : ¬ s.link.portD.rx.listening = true := by
      unfold Receiver.listening
      rw [deaf]
      exact nofun
    exact congrArg Host.Outcome.next (if_neg deaf')

end Sys2Proof.Proofs
end

section
/-! PROOFS. The Geometry Unit (chapter 2): quotients rounded, the sine table and its lookup (R32 to R34), and the
head placed with its speed (R36 to R39). -/

namespace Sys2Proof.Machine
open Sys2Proof.Claims

/-! ## Quotients -/

theorem sgn_eq_sign (x : Int) : sgn x = x.sign := by
  rcases sgn_cases x with ⟨neg, e⟩ | ⟨rfl, e⟩ | ⟨pos, e⟩ <;> rw [e]
  · exact (Int.sign_eq_neg_one_of_neg neg).symm
  · rfl
  · exact (Int.sign_eq_one_of_pos pos).symm

theorem roundDiv_eq (num den : Int) :
    roundDiv num den = (num * den).sign * ((2 * num.natAbs + den.natAbs) / (2 * den.natAbs) : Nat) := by
  rw [roundDiv, sgn_eq_sign, sgn_eq_sign, Int.sign_mul]

/-- The sign takes nothing from the rounded magnitude: where it is 0, the magnitude is 0. -/
theorem roundDiv_natAbs {num den : Int} (nonzero : den ≠ 0) :
    (roundDiv num den).natAbs = (2 * num.natAbs + den.natAbs) / (2 * den.natAbs) := by
  rw [roundDiv_eq, Int.natAbs_mul, Int.natAbs_natCast]
  by_cases zero : num = 0
  · subst zero
    rw [Nat.div_eq_of_lt (by omega), Nat.mul_zero]
  · rw [Int.natAbs_sign_of_ne_zero (mul_ne_zero zero nonzero), Nat.one_mul]

/-- Section 4.5: the rounded quotient lies within half a unit of the exact one, and has its sign. -/
theorem roundDiv_roundsHalfAway : roundsHalfAway := by
  intro num den nonzero q
  have size : q.natAbs = (2 * num.natAbs + den.natAbs) / (2 * den.natAbs) := roundDiv_natAbs nonzero
  have signed : q = _ := roundDiv_eq num den
  have positive : 0 < 2 * den.natAbs := by omega
  refine ⟨?_, ?_, fun sign => ?_, fun sign => ?_⟩
  · calc 2 * q.natAbs * den.natAbs = q.natAbs * (2 * den.natAbs) := by ring
      _ ≤ _ := size ▸ Nat.div_mul_le_self _ _
  · calc 2 * num.natAbs + den.natAbs < 2 * den.natAbs * (q.natAbs + 1) := size ▸ Nat.lt_mul_div_succ _ positive
      _ = 2 * (q.natAbs + 1) * den.natAbs := by ring
  · rw [signed]; exact mul_nonneg (Int.sign_nonneg_iff.2 sign) (Int.natCast_nonneg _)
  · rw [signed]; exact mul_nonpos_of_nonpos_of_nonneg (Int.sign_nonpos_iff.2 sign) (Int.natCast_nonneg _)

/-- ceil(n / d) is the least number whose d-fold reaches n. -/
theorem ceilDiv_le_iff {d : Nat} (positive : 0 < d) (n k : Nat) : ceilDiv n d ≤ k ↔ n ≤ k * d := by
  rw [ceilDiv, ← Nat.lt_succ_iff, Nat.div_lt_iff_lt_mul positive, Nat.succ_mul]
  omega

/-! ## The sine -/

theorem sineTable_length : sineTable.length = 257 := by decide +kernel

theorem sineTable_rising : sineTable.IsChain (· < ·) := by decide +kernel

theorem sineEntry_rising {i : Nat} (inside : i < 256) : sineEntry i < sineEntry (i + 1) := by
  have length := sineTable_length
  unfold sineEntry
  rw [List.getD_eq_getElem _ _ (by omega), List.getD_eq_getElem _ _ (by omega)]
  exact sineTable_rising.getElem i (by omega)

/-- The squares of an entry and of its complement add up to 32,768 squared within the roundings of the two, by all 257
entries of the table. -/
theorem sineEntry_squares : ∀ i, i ≤ 256 →
    (sineEntry i * sineEntry i + sineEntry (256 - i) * sineEntry (256 - i) ≤
        32768 * 32768 + sineEntry i + sineEntry (256 - i) + 2) ∧
    32768 * 32768 ≤
      sineEntry i * sineEntry i + sineEntry (256 - i) * sineEntry (256 - i) + sineEntry i + sineEntry (256 - i) + 2 := by
  decide +kernel

theorem reduceAngle_lt (angle : Int) : reduceAngle angle < turn := by
  unfold reduceAngle turn; omega

/-- Only the first and the third quadrant of a turn run up the table (R33). -/
theorem lookupArgument_eq {a : Nat} (reduced : a < turn) :
    lookupArgument a =
      if a / 262144 = 0 ∨ a / 262144 = 2 then a % 262144 else 262144 - a % 262144 := by
  unfold turn at reduced
  unfold lookupArgument quarter
  exact if_congr (by omega) rfl rfl

theorem cosAngle_eq_sinAngle (angle : Int) : cosAngle angle = sinAngle (angle + 262144) := by
  have shifted : (reduceAngle angle + quarter) % turn = reduceAngle (angle + 262144) := by
    unfold reduceAngle quarter turn; omega
  rw [cosAngle, sinAngle, shifted]

/-! ## The head -/

section
variable {chans : Vector Channel 12} {part : Word} {g : Geometry}

theorem headInputs_absent
    (lacks : g.record = none ∨ roleFeedback chans .swing = none ∨ roleFeedback chans .lift = none) :
    headInputs chans g = none := by
  unfold headInputs
  split
  case h_1 record swing lift => simp [record, swing, lift] at lacks
  case h_2 => rfl

theorem evaluateHead_absent
    (lacks : g.record = none ∨ roleFeedback chans .swing = none ∨ roleFeedback chans .lift = none) :
    evaluateHead chans part g =
      { g with head := none, headSpeed := 0, reference := none, evaluatedAt := part, saturated := false } := by
  rw [evaluateHead, headInputs_absent lacks]

theorem evaluateHead_placed {r : GeoRecord} {swing lift : Int} (record : g.record = some r)
    (swings : roleFeedback chans .swing = some swing) (lifts : roleFeedback chans .lift = some lift) :
    evaluateHead chans part g =
      let raw := headPosition r swing lift ((roleFeedback chans .reach).getD 0) ((roleFeedback chans .track).getD 0)
      { g with
        head := some (saturatePos raw), headSpeed := headSpeedOf (saturatePos raw) part g.reference
        reference := some (saturatePos raw, part), evaluatedAt := part, saturated := raw != saturatePos raw } := by
  have inputs : headInputs chans g =
      some (r, swing, lift, (roleFeedback chans .reach).getD 0, (roleFeedback chans .track).getD 0) := by
    simp only [headInputs, record, swings, lifts]
  rw [evaluateHead, inputs]

theorem evaluateHead_record : (evaluateHead chans part g).record = g.record := by
  unfold evaluateHead; split <;> rfl

theorem evaluateHead_evaluatedAt : (evaluateHead chans part g).evaluatedAt = part := by
  unfold evaluateHead; split <;> rfl

end

/-- R39: the speed is the change over the frames between, rounded up and held at 32 bits. -/
theorem headSpeedOf_spec {q b : Pos} {part m : Word} (later : part ≠ m) :
    let speed := headSpeedOf q part (some (b, m))
    let far := largestChange q b
    let gap := (part - m).toNat
    (far = 0 → speed = 0) ∧
    (speed < 4294967295 → far ≤ speed * gap ∧ (0 < far → (speed - 1) * gap < far)) ∧
    (speed = 4294967295 → 4294967294 * gap < far) ∧ speed ≤ 4294967295 := by
  intro speed far gap
  have positive : 0 < gap := by
    refine Nat.pos_of_ne_zero fun zero => later (sub_eq_zero.1 ?_)
    exact BitVec.eq_of_toNat_eq zero
  have held : speed = min (ceilDiv far gap) 4294967295 := rfl
  have least := ceilDiv_le_iff positive far
  refine ⟨fun still => ?_, fun below => ?_, fun full => ?_, ?_⟩
  · have none_ := (least 0).2 (by omega)
    omega
  · have unheld : speed = ceilDiv far gap := by omega
    rw [unheld]
    refine ⟨(least _).1 (Nat.le_refl _), fun moved => Nat.lt_of_not_le fun reached => ?_⟩
    have less := (least _).2 reached
    have none_ : ceilDiv far gap = 0 := by omega
    rw [none_, Nat.zero_sub, Nat.zero_mul] at reached
    omega
  · refine Nat.lt_of_not_le fun reached => ?_
    have less := (least _).2 reached
    omega
  · omega

end Sys2Proof.Machine

namespace Sys2Proof.Proofs
open Sys2Proof.Machine Sys2Proof.Claims

/-- Settles O13: the rounding and the sine by their lemmas, the head by whether it is placed. -/
theorem headEvaluated : Obligations.HeadEvaluated := by
  refine ⟨roundDiv_roundsHalfAway,
    ⟨sineTable_length, fun i => sineEntry_rising, by decide, sineEntry_squares, fun angle => ⟨?_, ?_⟩⟩,
    fun chans part g => ⟨evaluateHead_record, evaluateHead_evaluatedAt, fun lacks => ?_, ?_⟩⟩
  · rw [sinAngle, sineOf, lookupArgument_eq (reduceAngle_lt angle)]
    exact if_congr Nat.lt_succ_iff rfl rfl
  · exact cosAngle_eq_sinAngle angle
  · rw [evaluateHead_absent lacks]
    exact ⟨rfl, rfl, rfl, rfl⟩
  · intro r swing lift record swings lifts
    rw [evaluateHead_placed record swings lifts]
    refine ⟨rfl, rfl, ?_, fun none_ => ?_, fun b m some_ later => ?_⟩
    · exact decide_not.symm
    · rw [none_]; rfl
    · rw [some_]
      exact headSpeedOf_spec later

end Sys2Proof.Proofs
end

section
/-! PROOFS. COMMIT of a geometry record (R30): the holder of a role, the record that the staging buffer spells, and the
checks in their order. -/

namespace Sys2Proof.Machine
open Sys2Proof.Claims

/-! ## Holders of a role -/

theorem roleHolder_some {chans : Vector Channel 12} {c : ChClass} {r : Role} {n : Fin 12}
    (holds : roleHolder chans c r = some n) : (chans[n]).desc.cls = c ∧ (chans[n]).desc.role = r := by
  have found := List.find?_some holds
  rwa [Bool.and_eq_true, beq_iff_eq, beq_iff_eq] at found

theorem roleHolder_none {chans : Vector Channel 12} {c : ChClass} {r : Role} (free : roleHolder chans c r = none)
    (n : Fin 12) (cls : (chans[n]).desc.cls = c) : (chans[n]).desc.role ≠ r := by
  intro role
  refine List.find?_eq_none.1 free n (List.mem_finRange n) ?_
  rw [cls, role, beq_self_eq_true, beq_self_eq_true, Bool.and_self]

/-- Item 5 of R30 asks of the one REACH channel what it asks of every MOTION channel with that role. -/
theorem reachAllows_iff {chans : Vector Channel 12} {g : GeoRecord}
    (one : ∀ m n : Fin 12, (chans[m]).desc.role = .reach → (chans[n]).desc.role = .reach → m = n) :
    reachAllows chans g = true ↔ ∀ n : Fin 12, (chans[n]).desc.cls = .motion → (chans[n]).desc.role = .reach →
      0 ≤ (g.base : Int) + (chans[n]).desc.posMin := by
  unfold reachAllows
  cases holder : roleHolder chans .motion .reach with
  | none => exact iff_of_true rfl fun n cls role => absurd role (roleHolder_none holder n cls)
  | some k =>
    obtain ⟨cls, role⟩ := roleHolder_some holder
    refine decide_eq_true_iff.trans ⟨fun fits n _ reach => ?_, fun fits => fits k cls role⟩
    rw [one n k reach role]
    exact fits

/-! ## COMMIT of a geometry record -/

/-- The record that 12 bytes spell (section 10.6), whatever its values. -/
def geometryRead (bs : List Byte) : GeoRecord :=
  { height := (wordAt bs 0).toNat, base := (wordAt bs 4).toNat, headDecel := (wordAt bs 8).toNat }

/-- Item 4 of R30. -/
def GeoRecord.inRange (g : GeoRecord) : Prop :=
  g.height ≤ 20000000 ∧ g.base ≤ 20000000 ∧ 1 ≤ g.headDecel ∧ g.headDecel ≤ 1000

theorem parseGeometry_inRange {bs : List Byte} (fits : (geometryRead bs).inRange) :
    parseGeometry bs = some (geometryRead bs) := if_pos fits

theorem parseGeometry_outOfRange {bs : List Byte} (unfit : ¬ (geometryRead bs).inRange) :
    parseGeometry bs = none := if_neg unfit

section
variable {length : Half} {crc : Word} {s : State}

theorem commitGeometryBody_live (live : s.mode.mode = .live) :
    commitGeometryBody length crc s = (s, plain .refusedMode) := if_pos live

theorem commitGeometryBody_length (used : s.mode.mode ≠ .live) (wrong : length.toNat ≠ 12) :
    commitGeometryBody length crc s = (s, plain .badParam) := (if_neg used).trans (if_pos wrong)

theorem commitGeometryBody_checksum (used : s.mode.mode ≠ .live) (right : length.toNat = 12)
    (wrong : crc32 (s.service.staging.take 12) ≠ crc) :
    commitGeometryBody length crc s = (s, plain .badChecksum) := by
  rw [← right] at wrong
  exact (if_neg used).trans ((if_neg (not_not.2 right)).trans (if_pos wrong))

/-! What a COMMIT does that has passed the checks of R30 on its mode, its length and its checksum. -/

theorem commitGeometryBody_outOfRange (used : s.mode.mode ≠ .live) (right : length.toNat = 12)
    (sum : crc32 (s.service.staging.take 12) = crc) (unfit : ¬ (geometryRead (s.service.staging.take 12)).inRange) :
    commitGeometryBody length crc s = (s, plain .badParam) := by
  simp only [commitGeometryBody, staged, if_neg used, right, sum, ne_eq, not_true, if_false,
    parseGeometry_outOfRange unfit, refuse]

theorem commitGeometryBody_inRange (used : s.mode.mode ≠ .live) (right : length.toNat = 12)
    (sum : crc32 (s.service.staging.take 12) = crc) (fits : (geometryRead (s.service.staging.take 12)).inRange) :
    commitGeometryBody length crc s =
      let g := geometryRead (s.service.staging.take 12)
      if reachAllows s.cond.chans g then (s.setGeo { s.geo with record := some g, reference := none }, plain .ok)
      else (s, plain .badParam) := by
  simp only [commitGeometryBody, staged, if_neg used, right, sum, ne_eq, not_true, if_false,
    parseGeometry_inRange fits, refuse]

end

end Sys2Proof.Machine

namespace Sys2Proof.Proofs
open Sys2Proof.Machine Sys2Proof.Claims

/-- Settles O18: by mode, then each check in its order. -/
theorem commitGeometryTaken : Obligations.CommitGeometryTaken := by
  intro tag channel length crc s tagged run bytes height base decel reachFits one
  refine ⟨fun arming => request_refusedInArming _ tagged arming rfl,
    fun live => request_replied tagged (.inl (by rw [live]; decide)) (commitGeometryBody_live live), fun parked => ?_⟩
  have used : s.mode.mode ≠ .live := by rw [parked]; decide
  have runs : s.mode.mode ≠ .arming ∨ armingAccepts 0x19 = true := .inl (by rw [parked]; decide)
  have reach : reachAllows s.cond.chans (geometryRead bytes) = true ↔ reachFits := reachAllows_iff one
  refine ⟨fun wrong => request_replied tagged runs (commitGeometryBody_length used wrong),
    fun right wrong => request_replied tagged runs (commitGeometryBody_checksum used right wrong),
    fun right sum unfit => request_replied tagged runs ?_,
    fun right sum tall long slow fast fits => request_replied tagged runs ?_⟩
  · by_cases fits : (geometryRead bytes).inRange
    · rw [commitGeometryBody_inRange used right sum fits]
      refine if_neg fun allows => ?_
      obtain ⟨tall, long, slow, fast⟩ : height ≤ 20000000 ∧ base ≤ 20000000 ∧ 1 ≤ decel ∧ decel ≤ 1000 := fits
      simp only [reach.1 allows, not_true, or_false] at unfit
      omega
    · exact commitGeometryBody_outOfRange used right sum fits
  · rw [commitGeometryBody_inRange used right sum ⟨tall, long, slow, fast⟩]
    exact if_pos (reach.2 fits)

end Sys2Proof.Proofs
end

section
/-! PROOFS. A zone's clearance, stop distance and band (R53 to R55). -/

namespace Sys2Proof.Machine

theorem axisGap_below {lo hi x : Int} (below : x < lo * 1000) : axisGap lo hi x = lo * 1000 - x := if_pos below

theorem axisGap_above {lo hi x : Int} (box : lo < hi) (above : hi * 1000 < x) : axisGap lo hi x = x - hi * 1000 := by
  rw [axisGap, if_neg (by omega), if_pos above]

theorem axisGap_within {lo hi x : Int} (low : lo * 1000 ≤ x) (high : x ≤ hi * 1000) : axisGap lo hi x = 0 := by
  rw [axisGap, if_neg (by omega), if_neg (by omega)]

/-- R54: the braking term is the least number that makes up the stopping way, rounded up. -/
theorem brakeTerm_le_iff {decel : Nat} (positive : 0 < decel) (speed k : Nat) :
    brakeTerm speed decel ≤ k ↔ speed * speed ≤ k * (2 * decel) := ceilDiv_le_iff (by omega) _ _

theorem stopAt_sub_guard (z : ZoneRec) (speed decel : Nat) :
    (stopAt z speed decel - (z.guardStop * 1000 : Nat)).toNat = brakeTerm speed decel := by
  unfold stopAt; omega

theorem bandOf_stop {c stop : Int} (width : Nat) (inside : c ≤ stop) : bandOf c stop width = (.stop, 0) := if_pos inside

theorem bandOf_slow {c stop : Int} {width : Nat} (outside : stop < c) (near : c ≤ stop + width * 1000) :
    bandOf c stop width = (.slow, (256 * (c - stop) / (width * 1000)).toNat) := by
  have near' : c ≤ stop + (width * 1000 : Nat) := by omega
  exact (if_neg (by omega)).trans (if_pos near')

theorem bandOf_clear {c stop : Int} {width : Nat} (far : stop + width * 1000 < c) :
    bandOf c stop width = (.clear, 256) := by
  have far' : ¬ c ≤ stop + (width * 1000 : Nat) := by omega
  exact (if_neg (by omega)).trans (if_neg far')

/-- The speed contribution of the slow band: `way` of its width `w`, in 256ths rounded down. -/
theorem share_bounds {way w : Int} (some_ : 0 < way) (inside : way ≤ w) :
    ((256 * way / w).toNat : Int) * w ≤ 256 * way ∧ 256 * way < ((256 * way / w).toNat + 1 : Int) * w ∧
    (256 * way / w).toNat ≤ 256 := by
  have width : 0 < w := by omega
  have share : ((256 * way / w).toNat : Int) = 256 * way / w :=
    Int.toNat_of_nonneg (Int.ediv_nonneg (by omega) width.le)
  have most : 256 * way / w ≤ 256 := Int.ediv_le_of_le_mul width (by omega)
  rw [share]
  exact ⟨Int.ediv_mul_le _ width.ne', Int.lt_ediv_add_one_mul_self _ width, by omega⟩

end Sys2Proof.Machine

namespace Sys2Proof.Proofs
open Sys2Proof.Machine Sys2Proof.Claims

/-- Settles O14: the gaps axis by axis, the braking term by its least multiple, the bands one by one. -/
theorem bandsFromClearance : Obligations.BandsFromClearance := by
  constructor
  · intro z p gap xs ys zs
    have spec {lo hi : Int} (x : Int) (box : lo < hi) : gap lo hi x (axisGap lo hi x) :=
      ⟨axisGap_below, axisGap_above box, axisGap_within⟩
    refine ⟨_, _, _, spec p.x xs, spec p.y ys, spec p.z zs, ?_⟩
    unfold clearance
    omega
  · intro z c speed decel positive stop w
    have brake : (stop - (z.guardStop * 1000 : Nat)).toNat = brakeTerm speed decel := stopAt_sub_guard z speed decel
    have sum : stop = (z.guardStop * 1000 + brakeTerm speed decel : Nat) := rfl
    have least := brakeTerm_le_iff positive speed
    rw [brake]
    refine ⟨by omega, (least _).1 (Nat.le_refl _), fun moving => Nat.lt_of_not_le fun reached => ?_, fun still => ?_,
      bandOf_stop _, fun outside near => ?_, bandOf_clear⟩
    · have less := (least _).2 reached
      have none_ : brakeTerm speed decel = 0 := by omega
      rw [none_, Nat.zero_sub, Nat.zero_mul] at reached
      exact Nat.not_le.2 (Nat.mul_pos moving moving) reached
    · have none_ : brakeTerm speed decel = 0 := Nat.le_zero.1 ((least 0).2 (by simp [still]))
      rw [sum, none_, Nat.add_zero]
    · rw [bandOf_slow outside near]
      exact ⟨rfl, share_bounds (by omega) (by omega)⟩

end Sys2Proof.Proofs
end

section
/-! PROOFS. The Zone Monitor's evaluation: the active zones (R52), the speed scale with the stop-band set and the least
clearance (R57, R58, R60), and the verify pass (R61, R62). -/

namespace Sys2Proof.Machine

/-! ## The active zones -/

theorem lineActive_iff {crew : Vector CrewLine 4} {line : Nat} :
    lineActive crew line = true ↔ ∃ l, crew[line]? = some l ∧ l.active = true := by
  unfold lineActive
  cases crew[line]? with
  | none => simp
  | some l => simp

theorem zoneActive_iff {crew : Vector CrewLine 4} {r : ZoneRec} :
    zoneActive crew r = true ↔
      r.enabled = true ∧ (r.crew = false ∨ ∃ l, crew[r.line]? = some l ∧ l.active = true) := by
  rw [zoneActive, Bool.and_eq_true, Bool.or_eq_true, Bool.not_eq_true', lineActive_iff]

theorem mem_activeZonesOf {crew : Vector CrewLine 4} {b : Bank} {id : Nat} {r : ZoneRec} :
    (id, r) ∈ activeZonesOf crew b ↔ b.zones[id]? = some r ∧ zoneActive crew r = true := by
  have listed : (id, r) ∈ b.zones.zipIdx.map (fun p => (p.2, p.1)) ↔ b.zones[id]? = some r := by
    rw [← List.mk_mem_zipIdx_iff_getElem?, List.mem_map]
    constructor
    · rintro ⟨⟨r', id'⟩, mem, same⟩
      cases same
      exact mem
    · exact fun mem => ⟨(r, id), mem, rfl⟩
  rw [activeZonesOf, List.mem_filter, listed]

theorem activeZonesOf_ascending (crew : Vector CrewLine 4) (b : Bank) :
    ((activeZonesOf crew b).map Prod.fst).Pairwise (· < ·) := by
  have ids : (b.zones.zipIdx.map fun p => (p.2, p.1)).map Prod.fst = List.range' 0 b.zones.length := by
    rw [List.map_map]
    exact List.zipIdx_map_snd 0 b.zones
  have all := List.pairwise_lt_range' (s := 0) (n := b.zones.length)
  rw [← ids] at all
  exact all.sublist (List.filter_sublist.map Prod.fst)

/-! ## What an evaluation finds -/

theorem idsIn_findings (band : Band) (zs : List (Nat × ZoneRec)) (p : Pos) (speed decel : Nat) :
    idsIn band (findings zs p speed decel) =
      (zs.filter fun a =>
        (bandOf (clearance a.2 p) (stopAt a.2 speed decel) a.2.slowWidth).1 == band).map Prod.fst := by
  rw [idsIn, findings, List.filter_map, List.map_map]
  rfl

theorem entering_findings (memory : List Nat) (zs : List (Nat × ZoneRec)) (p : Pos) (speed decel : Nat) :
    (entering memory (findings zs p speed decel)).map (fun f => zoneCause f.id f.clear) =
      (zs.filter fun a => (bandOf (clearance a.2 p) (stopAt a.2 speed decel) a.2.slowWidth).1 == .stop &&
        !memory.contains a.1).map fun a => zoneCause a.1 (clearance a.2 p) := by
  rw [entering, findings, List.filter_map, List.map_map]
  rfl

/-- The least share of a list is one of them or the value it starts from. -/
theorem foldl_min_share (fs : List Finding) (start : Nat) :
    let least := fs.foldl (fun s f => min s f.share) start
    least ≤ start ∧ (∀ f ∈ fs, least ≤ f.share) ∧ (least = start ∨ ∃ f ∈ fs, least = f.share) := by
  induction fs generalizing start with
  | nil => exact ⟨Nat.le_refl _, nofun, .inl rfl⟩
  | cons f fs ih =>
    obtain ⟨below, each, attained⟩ := ih (min start f.share)
    refine ⟨below.trans (Nat.min_le_left _ _), List.forall_mem_cons.2 ⟨below.trans (Nat.min_le_right _ _), each⟩, ?_⟩
    rcases attained with first | ⟨g, mem, least⟩
    · rcases Nat.le_total start f.share with le | le
      · exact .inl (first.trans (Nat.min_eq_left le))
      · exact .inr ⟨f, List.mem_cons_self, first.trans (Nat.min_eq_right le)⟩
    · exact .inr ⟨g, List.mem_cons_of_mem _ mem, least⟩

theorem leastClearance_eq_none {fs : List Finding} : leastClearance fs = none ↔ fs = [] := by
  cases fs with
  | nil => exact iff_of_true rfl rfl
  | cons f rest =>
    refine iff_of_false ?_ (List.cons_ne_nil _ _)
    unfold leastClearance
    split
    · exact nofun
    · split <;> exact nofun

/-- R60: in ascending ids, the first of those that share the least clearance is the lowest (log entry 49). -/
theorem leastClearance_spec {fs : List Finding} (ascending : fs.Pairwise (·.id < ·.id)) {c : Int} {id : Nat}
    (least : leastClearance fs = some (c, id)) :
    (∃ f ∈ fs, f.clear = c ∧ f.id = id) ∧ ∀ f ∈ fs, c ≤ f.clear ∧ (f.clear = c → id ≤ f.id) := by
  induction fs generalizing c id with
  | nil => cases least
  | cons f rest ih =>
    obtain ⟨first, ascending⟩ := List.pairwise_cons.1 ascending
    unfold leastClearance at least
    split at least
    case h_1 empty =>
      cases least
      rw [leastClearance_eq_none.1 empty]
      exact ⟨⟨f, List.mem_cons_self, rfl, rfl⟩, List.forall_mem_singleton.2 ⟨le_refl _, fun _ => le_refl _⟩⟩
    case h_2 c' id' found =>
      obtain ⟨⟨g, mem, clear, gid⟩, below⟩ := ih ascending found
      split at least
      case isTrue nearer =>
        cases least
        refine ⟨⟨f, List.mem_cons_self, rfl, rfl⟩,
          List.forall_mem_cons.2 ⟨⟨le_refl _, fun _ => le_refl _⟩, fun h later => ?_⟩⟩
        exact ⟨nearer.trans (below h later).1, fun _ => (first h later).le⟩
      case isFalse farther =>
        cases least
        exact ⟨⟨g, List.mem_cons_of_mem _ mem, clear, gid⟩,
          List.forall_mem_cons.2 ⟨⟨by omega, fun same => absurd same.le farther⟩, below⟩⟩

/-- The least clearance of the active zones is theirs alone. -/
theorem leastClearance_findings {zs : List (Nat × ZoneRec)} (ascending : (zs.map Prod.fst).Pairwise (· < ·)) {p : Pos}
    {speed decel : Nat} {c : Int} {id : Nat} :
    leastClearance (findings zs p speed decel) = some (c, id) ↔
      ∃ r, (id, r) ∈ zs ∧ clearance r p = c ∧ ∀ a ∈ zs, c ≤ clearance a.2 p ∧ (clearance a.2 p = c → id ≤ a.1) := by
  have spec {c : Int} {id : Nat} (least : leastClearance (findings zs p speed decel) = some (c, id)) :
      ∃ r, (id, r) ∈ zs ∧ clearance r p = c ∧ ∀ a ∈ zs, c ≤ clearance a.2 p ∧ (clearance a.2 p = c → id ≤ a.1) := by
    obtain ⟨⟨f, found, clear, same⟩, below⟩ :=
      leastClearance_spec (List.pairwise_map.2 (List.pairwise_map.1 ascending)) least
    obtain ⟨⟨k, r⟩, mem, rfl⟩ := List.mem_map.1 found
    cases same
    exact ⟨r, mem, clear, List.forall_mem_map.1 below⟩
  refine ⟨spec, fun ⟨r, mem, clear, below⟩ => ?_⟩
  cases least : leastClearance (findings zs p speed decel) with
  | none => rw [List.map_eq_nil_iff.1 (leastClearance_eq_none.1 least)] at mem; cases mem
  | some found =>
    obtain ⟨c', id'⟩ := found
    obtain ⟨r', mem', clear', below'⟩ := spec least
    obtain ⟨far, first⟩ := below _ mem'
    obtain ⟨far', first'⟩ := below' _ mem
    have same : c' = c := le_antisymm (far'.trans clear.le) (far.trans clear'.le)
    have ids : id' = id := Nat.le_antisymm (first' (clear.trans same.symm)) (first (clear'.trans same))
    rw [same, ids]

theorem findingsOf_absent {g : Geometry} (absent : g.head = none) (zs : List (Nat × ZoneRec)) :
    findingsOf g zs = [] := by
  rw [findingsOf, absent]

theorem findingsOf_head {g : Geometry} {p : Pos} (head : g.head = some p) (zs : List (Nat × ZoneRec)) :
    findingsOf g zs = findings zs p g.headSpeed (headDecel g) := by
  rw [findingsOf, head]

theorem formScale_scale_unguarded {g : Geometry} {z : ZoneMonitor} (free : activeZonesOf z.crew z.activeOne = []) :
    (formScale g z).scale = 256 := by
  have nothing : findingsOf g [] = [] := by unfold findingsOf; split <;> rfl
  simp [formScale, scaleOf, free, nothing]

theorem formScale_scale_absent {g : Geometry} {z : ZoneMonitor} (absent : g.head = none)
    (guarded : activeZonesOf z.crew z.activeOne ≠ []) : (formScale g z).scale = 0 := by
  simp [formScale, scaleOf, absent, guarded]

/-! ## The verify pass -/

theorem verifyStep_goesOn {part : Word} {z : ZoneMonitor} (more : nextPart z.cursor < z.activeOne.zones.length) :
    verifyStep part z = { z with running := verifyRead z, cursor := .zone (nextPart z.cursor) } := by
  have goes : passEnd z = none := if_pos more
  rw [verifyStep, goes]

theorem verifyStep_ends {part : Word} {z : ZoneMonitor} (last : z.activeOne.zones.length ≤ nextPart z.cursor) :
    verifyStep part z =
      { z with
        running := verifyRead z, cursor := .header, passAt := part
        pass := if crcFinal (verifyRead z) = z.activeOne.checksum then .pass else .mismatch } := by
  have ends : passEnd z = some (if crcFinal (verifyRead z) = z.activeOne.checksum then .pass else .mismatch) :=
    (if_neg (Nat.not_lt.2 last)).trans (apply_ite some _ _ _).symm
  rw [verifyStep, ends]

/-- A pass that has read the header and the first zones, and stands at zone `k`. -/
def passAtZone (z : ZoneMonitor) (k : Nat) : ZoneMonitor :=
  { z with
    running := crcOver crcStart (z.activeOne.headerBytes ++ (z.activeOne.zones.take k).flatMap zoneBytes)
    cursor := .zone k }

theorem verifyRead_passAtZone {z : ZoneMonitor} {k : Nat} (inside : k < z.activeOne.zones.length) :
    verifyRead (passAtZone z k) =
      crcOver crcStart (z.activeOne.headerBytes ++ (z.activeOne.zones.take (k + 1)).flatMap zoneBytes) := by
  have read : verifyRead (passAtZone z k) =
      crcOver (crcOver crcStart (z.activeOne.headerBytes ++ (z.activeOne.zones.take k).flatMap zoneBytes))
        ((z.activeOne.zones[k]?).elim [] zoneBytes) := rfl
  rw [read, crcOver, crcOver, ← List.foldl_append, List.getElem?_eq_getElem inside, Option.elim_some,
    List.append_assoc, List.take_succ_eq_append_getElem inside, List.flatMap_append, List.flatMap_singleton]
  rfl

/-- A pass that begins at the header reads one part at each step. -/
theorem verifyStep_iterate {part : Word} {z : ZoneMonitor} (begins : z.cursor = .header) {k : Nat}
    (inside : k < z.activeOne.zones.length) : (verifyStep part)^[k + 1] z = passAtZone z k := by
  induction k with
  | zero =>
    have first : nextPart z.cursor = 0 := by rw [begins]; rfl
    have read : verifyRead z = crcOver crcStart z.activeOne.headerBytes := by rw [verifyRead, begins]
    rw [Function.iterate_one, verifyStep_goesOn (first ▸ inside), first, read, passAtZone, List.take_zero,
      List.flatMap_nil, List.append_nil]
  | succ k ih =>
    have before : k < z.activeOne.zones.length := by omega
    rw [Function.iterate_succ_apply', ih before, verifyStep_goesOn (z := passAtZone z k) inside,
      verifyRead_passAtZone before]
    rfl

/-- R61, R62: a pass over the whole bank, and its result. -/
theorem verifyStep_wholePass {part : Word} {z : ZoneMonitor} (begins : z.cursor = .header) :
    (verifyStep part)^[z.activeOne.zones.length + 1] z =
      { z with
        running := crcOver crcStart (z.activeOne.headerBytes ++ z.activeOne.zones.flatMap zoneBytes)
        cursor := .header, passAt := part
        pass := if crc32 (z.activeOne.headerBytes ++ z.activeOne.zones.flatMap zoneBytes) = z.activeOne.checksum
          then .pass else .mismatch } := by
  cases size : z.activeOne.zones.length with
  | zero =>
    have read : verifyRead z = crcOver crcStart z.activeOne.headerBytes := by rw [verifyRead, begins]
    rw [Function.iterate_one, verifyStep_ends (by omega), read, List.length_eq_zero_iff.1 size, List.flatMap_nil,
      List.append_nil]
    rfl
  | succ k =>
    have inside : k < z.activeOne.zones.length := by omega
    have last : (passAtZone z k).activeOne.zones.length ≤ nextPart (passAtZone z k).cursor := size.le
    rw [Function.iterate_succ_apply', verifyStep_iterate begins inside, verifyStep_ends last,
      verifyRead_passAtZone inside, List.take_of_length_le size.le]
    rfl

end Sys2Proof.Machine

namespace Sys2Proof.Proofs
open Sys2Proof.Machine Sys2Proof.Claims

/-- Settles O15: the active zones, then the scale by whether the head is available, then the verify step and a pass. -/
theorem speedScaleFormed : Obligations.SpeedScaleFormed := by
  constructor
  · intro g z active next band
    have ascending : (active.map Prod.fst).Pairwise (· < ·) := activeZonesOf_ascending _ _
    refine ⟨fun id r => ?_, ascending, rfl, rfl, fun empty => ?_, fun absent => ?_, fun p head => ?_⟩
    · rw [← zoneActive_iff]
      exact mem_activeZonesOf
    · exact formScale_scale_unguarded empty
    · have nothing : findingsOf g active = [] := findingsOf_absent absent active
      refine ⟨formScale_scale_absent absent, ?_, ?_, ?_, ?_⟩
      · exact congrArg (idsIn .stop) nothing
      · exact congrArg (idsIn .slow) nothing
      · exact congrArg leastClearance nothing
      · rw [zoneStops, show findingsOf g (activeZonesOf z.crew z.activeOne) = [] from nothing]
        rfl
    · have found : findingsOf g active = findings active p g.headSpeed (headDecel g) := findingsOf_head head active
      have scale : next.scale = (findings active p g.headSpeed (headDecel g)).foldl (fun s f => min s f.share) 256 := by
        rw [← found]
        exact if_pos (by rw [head]; rfl)
      have stops : next.stopSet = (active.filter fun a => (band a.2 p).1 == .stop).map Prod.fst :=
        (congrArg (idsIn .stop) found).trans (idsIn_findings _ _ _ _ _)
      have least : next.least = leastClearance (findings active p g.headSpeed (headDecel g)) :=
        congrArg leastClearance found
      obtain ⟨below, each, attained⟩ := foldl_min_share (findings active p g.headSpeed (headDecel g)) 256
      rw [← scale] at below each attained
      refine ⟨fun a mem => each _ (List.mem_map_of_mem mem), below, fun slowed => ?_, stops, ?_, ?_, ?_,
        fun c id => ?_, ?_⟩
      · obtain ⟨f, mem, same⟩ := attained.resolve_left (Nat.ne_of_lt slowed)
        obtain ⟨a, inside, rfl⟩ := List.mem_map.1 mem
        exact ⟨a, inside, same⟩
      · rw [stops]
        exact ascending.sublist (List.filter_sublist.map _)
      · exact (congrArg (idsIn .slow) found).trans (idsIn_findings _ _ _ _ _)
      · rw [least, leastClearance_eq_none]
        exact List.map_eq_nil_iff
      · rw [least]
        exact leastClearance_findings ascending
      · rw [zoneStops, findingsOf_head head]
        exact entering_findings _ _ _ _ _
  · intro part z b header t read following
    have reads : verifyRead z = read := by
      unfold verifyRead
      cases cursor : z.cursor with
      | header => simp only [read, cursor]; rfl
      | zone k => simp only [read, cursor]; cases z.activeOne.zones[k]? <;> rfl
    have part_ : nextPart z.cursor = following := by
      cases cursor : z.cursor <;> simp only [following, cursor] <;> rfl
    refine ⟨fun more => ?_, fun last => ?_, fun begins => ?_⟩
    · rw [← reads, ← part_]
      exact verifyStep_goesOn (part_ ▸ more)
    · rw [← reads]
      exact verifyStep_ends (part_ ▸ last)
    · intro u
      have ended : u = _ := verifyStep_wholePass begins
      rw [ended]
      exact ⟨rfl, rfl, rfl⟩

end Sys2Proof.Proofs
end

section
/-! PROOFS. The crew lines: their table (R51), and the release of a line (R57). -/

namespace Sys2Proof.Machine

theorem max_one_eq (hold : Nat) : max hold 1 = if hold = 0 then 1 else hold := by
  split <;> omega

theorem satSucc_eq_ite (top n : Nat) : satSucc top n = if n < top then n + 1 else top := by
  unfold satSucc
  split <;> omega

/-! ## One line at one sample -/

theorem sampleLine_asserted (hold : Nat) (l : CrewLine) : sampleLine hold true l = { active := true, count := 0 } := rfl

theorem sampleLine_inactive (hold : Nat) {l : CrewLine} (inactive : l.active = false) :
    sampleLine hold false l = l := by
  simp [sampleLine, inactive]

theorem sampleLine_released {hold : Nat} {l : CrewLine} (active : l.active = true)
    (held : max hold 1 ≤ satSucc 10000 l.count) : sampleLine hold false l = { active := false, count := 0 } := by
  simp [sampleLine, active, held]

theorem sampleLine_counted {hold : Nat} {l : CrewLine} (active : l.active = true)
    (short : satSucc 10000 l.count < max hold 1) :
    sampleLine hold false l = { active := true, count := satSucc 10000 l.count } := by
  simp only [sampleLine, active, Bool.false_eq_true, if_false, if_true, if_neg (Nat.not_le.2 short)]

theorem sampleCrew_at (seen : Vector Bool 4) (z : ZoneMonitor) (k : Fin 4) :
    (sampleCrew seen z).crew[k] = sampleLine z.activeOne.releaseHold seen[k] z.crew[k] :=
  Vector.getElem_mapFinIdx ..

/-! ## The release of a line -/

/-- R49: the hold of the next sample is that of the bank which a pending swap makes active. -/
theorem holdOfSample_eq (z : ZoneMonitor) :
    holdOfSample z = (z.bank (if z.swapPending = true then z.activeBank.other else z.activeBank)).releaseHold := by
  unfold holdOfSample exchangeBanks
  cases z.swapPending <;> rfl

theorem releases_iff {z : ZoneMonitor} {line : Fin 4} :
    releases z line = true ↔
      (z.crew[line]).active = true ∧ max (holdOfSample z) 1 ≤ satSucc 10000 (z.crew[line]).count := by
  rw [releases, Bool.and_eq_true, decide_eq_true_iff]

theorem onLine_eq_false_iff {z : ZoneMonitor} {line : Fin 4} {id : Nat} :
    onLine z line id = false ↔ ∀ r, z.activeOne.zones[id]? = some r → ¬ (r.crew = true ∧ r.line = line.val) := by
  unfold onLine
  cases z.activeOne.zones[id]? with
  | none => simp
  | some r => simp

theorem mem_releaseLine_stopMemory {z : ZoneMonitor} {line : Fin 4} {id : Nat} :
    id ∈ (releaseLine line z).stopMemory ↔ id ∈ z.stopMemory ∧
      ∀ r, z.activeOne.zones[id]? = some r → ¬ (r.crew = true ∧ r.line = line.val) := by
  rw [← onLine_eq_false_iff, ← Bool.not_eq_true']
  exact List.mem_filter

/-- A line released by its sample, the stop-band memory beside it. -/
theorem releaseLine_eq {z : ZoneMonitor} {line : Fin 4} (released : releases z line = true) :
    releaseLine line z =
      { z with
        crew := z.crew.set line.val { active := false, count := 0 } line.isLt
        stopMemory := (releaseLine line z).stopMemory } := by
  obtain ⟨active, held⟩ := releases_iff.1 released
  rw [releaseLine, sampleLine_released active held]

end Sys2Proof.Machine

namespace Sys2Proof.Proofs
open Sys2Proof.Machine Sys2Proof.Claims

/-- Settles O16: the four rows of R51 one by one, and CREW_LINE_RELEASE by whether the sample releases the line. -/
theorem crewLinesFollow : Obligations.CrewLinesFollow := by
  constructor
  · intro seen z k old new hold up
    have sampled : new = sampleLine z.activeOne.releaseHold seen[k] old := sampleCrew_at seen z k
    have held : max z.activeOne.releaseHold 1 = hold := max_one_eq _
    have counted : satSucc 10000 old.count = up := satSucc_eq_ite _ _
    rw [sampled]
    refine ⟨fun asserted => ?_, fun quiet inactive => ?_, fun quiet active reached => ?_, fun quiet active short => ?_⟩
    · rw [asserted]; exact sampleLine_asserted _ _
    · rw [quiet]; exact sampleLine_inactive _ inactive
    · rw [quiet]; exact sampleLine_released active (by rwa [held, counted])
    · rw [quiet, ← counted]; exact sampleLine_counted active (by rwa [held, counted])
  · intro k s z l bank hold due
    have dueExactly : due ↔ releases s.zone k = true := by
      rw [releases_iff, holdOfSample_eq, max_one_eq]
      rfl
    refine ⟨fun early => ?_, fun now => ⟨(releaseLine k s.zone).stopMemory, ?_, fun id => mem_releaseLine_stopMemory⟩⟩
    · exact congrArg Host.Outcome.next (if_neg (mt dueExactly.2 early))
    · have released := dueExactly.1 now
      refine congrArg Host.Outcome.next ((if_pos released).trans ?_)
      rw [releaseLine_eq released]
      rfl

end Sys2Proof.Proofs
end

section
/-! PROOFS. COMMIT of a zone bank (R46, R47): the zone records that a string spells, a bank written by the layout of
section 10.6 and read back, and the checks in their order. -/

namespace Sys2Proof.Machine
open Sys2Proof.Claims

/-! ## Fields of a string and of its parts -/

theorem byteAt_bytesAt {bs : List Byte} {i n j : Nat} (inside : j < n) :
    byteAt (bytesAt bs i n) j = byteAt bs (i + j) := by
  rw [byteAt_eq_getElem (by simpa [bytesAt] using inside)]
  simp [bytesAt]

theorem halfAt_bytesAt {bs : List Byte} {i n j : Nat} (inside : j + 1 < n) :
    halfAt (bytesAt bs i n) j = halfAt bs (i + j) := by
  rw [halfAt, byteAt_bytesAt inside, byteAt_bytesAt (by omega)]
  rfl

theorem halfAt_cons (b : Byte) (bs : List Byte) (i : Nat) : halfAt (b :: bs) (i + 1) = halfAt bs i := rfl

theorem halfAt_le16_skip (h : Half) (bs : List Byte) (i : Nat) : halfAt (le16 h ++ bs) (i + 2) = halfAt bs i := rfl

theorem halfAt_le16_alone (h : Half) : halfAt (le16 h) 0 = h := by
  have read := halfAt_le16 h []
  rwa [List.append_nil] at read

/-- Records of one width, one after the other. -/
theorem byteAt_flatMap {α : Type} {w : Nat} {code : α → List Byte} (wide : Wide w code) {l : List α} {k j : Nat}
    (listed : k < l.length) (inside : j < w) : byteAt (l.flatMap code) (w * k + j) = byteAt (code l[k]) j := by
  induction l generalizing k with
  | nil => cases listed
  | cons a l ih =>
    rw [List.flatMap_cons]
    cases k with
    | zero => rw [Nat.mul_zero, Nat.zero_add]; exact byteAt_append_left (by rw [wide a]; exact inside)
    | succ k =>
      have place : w * (k + 1) + j = (code a).length + (w * k + j) := by rw [wide a, Nat.mul_succ]; omega
      rw [place, byteAt_append]
      exact ih (Nat.lt_of_succ_lt_succ listed)

/-! ## The bank that a string spells -/

/-- Zone record k of a bank's string (section 10.6), whatever its values; a FIXED zone's line is 0 (R47). -/
def zoneRead (bs : List Byte) (k : Nat) : ZoneRec :=
  { enabled := decide ((byteAt bs (4 + 20 * k)).toNat = 1), crew := decide ((byteAt bs (5 + 20 * k)).toNat = 1)
    line := if (byteAt bs (5 + 20 * k)).toNat = 1 then (halfAt bs (4 + 20 * k + 2)).toNat else 0
    xmin := (halfAt bs (4 + 20 * k + 4)).toInt, xmax := (halfAt bs (4 + 20 * k + 6)).toInt
    ymin := (halfAt bs (4 + 20 * k + 8)).toInt, ymax := (halfAt bs (4 + 20 * k + 10)).toInt
    zmin := (halfAt bs (4 + 20 * k + 12)).toInt, zmax := (halfAt bs (4 + 20 * k + 14)).toInt
    guardStop := (halfAt bs (4 + 20 * k + 16)).toNat, slowWidth := (halfAt bs (4 + 20 * k + 18)).toNat }

/-- Item 7 of R46 for zone record k: a coded field inside its set, every other inside its range. -/
def zoneFits (bs : List Byte) (k : Nat) : Prop :=
  (byteAt bs (4 + 20 * k)).toNat ≤ 1 ∧ (byteAt bs (5 + 20 * k)).toNat ≤ 1 ∧
  ((byteAt bs (5 + 20 * k)).toNat = 1 → (halfAt bs (4 + 20 * k + 2)).toNat ≤ 3) ∧
  (zoneRead bs k).xmin < (zoneRead bs k).xmax ∧ (zoneRead bs k).ymin < (zoneRead bs k).ymax ∧
  (zoneRead bs k).zmin < (zoneRead bs k).zmax ∧ (zoneRead bs k).guardStop ≤ 5000 ∧ (zoneRead bs k).slowWidth ≤ 10000

/-- The bank that a string spells, under a checksum. -/
def bankRead (bs : List Byte) (crc : Word) : Bank :=
  { releaseHold := (halfAt bs 2).toNat, zones := (List.range (halfAt bs 0).toNat).map (zoneRead bs), checksum := crc }

/-- Items 5 to 7 of R46. -/
def bankFits (bs : List Byte) (length : Nat) : Prop :=
  (halfAt bs 0).toNat ≤ 32 ∧ length = 4 + 20 * (halfAt bs 0).toNat ∧ (halfAt bs 2).toNat ≤ 10000 ∧
  ∀ k, k < (halfAt bs 0).toNat → zoneFits bs k

section
variable {bs : List Byte} {k n : Nat}

theorem kindPlace : 5 + 20 * k = 4 + 20 * k + 1 := by omega

theorem parseZone_fit (fits : zoneFits bs k) : parseZone (bytesAt bs (4 + 20 * k) 20) = some (zoneRead bs k) := by
  unfold zoneFits zoneRead at fits
  unfold zoneRead
  simp only [kindPlace] at fits ⊢
  simp only [parseZone, byteAt_bytesAt, halfAt_bytesAt, Nat.reduceLT, Nat.reduceAdd]
  exact if_pos fits

theorem parseZone_unfit (unfit : ¬ zoneFits bs k) : parseZone (bytesAt bs (4 + 20 * k) 20) = none := by
  unfold zoneFits zoneRead at unfit
  simp only [kindPlace] at unfit
  simp only [parseZone, byteAt_bytesAt, halfAt_bytesAt, Nat.reduceLT, Nat.reduceAdd]
  exact if_neg unfit

theorem parseZones_fit (fit : ∀ j ∈ List.range' k n, zoneFits bs j) :
    parseZones bs k n = some ((List.range' k n).map (zoneRead bs)) := by
  induction n generalizing k with
  | zero => rfl
  | succ n ih =>
    obtain ⟨first, rest⟩ := List.forall_mem_cons.1 fit
    rw [parseZones, parseZone_fit first, ih rest]
    rfl

theorem parseZones_unfit {j : Nat} (listed : j ∈ List.range' k n) (unfit : ¬ zoneFits bs j) :
    parseZones bs k n = none := by
  induction n generalizing k with
  | zero => cases listed
  | succ n ih =>
    rw [parseZones]
    rcases List.mem_cons.1 listed with rfl | later
    · rw [parseZone_unfit unfit]
    · rw [ih later]
      split
      case h_1 none_ => cases none_
      case h_2 => rfl

end

theorem parseBank_fits {bs : List Byte} {length : Nat} (fits : bankFits bs length) (crc : Word) :
    parseBank bs length crc = some (bankRead bs crc) := by
  obtain ⟨count, size, hold, zones⟩ := fits
  have read : parseZones bs 0 (halfAt bs 0).toNat = some ((List.range (halfAt bs 0).toNat).map (zoneRead bs)) := by
    rw [List.range_eq_range']
    exact parseZones_fit fun j listed => zones j (List.mem_range.1 (List.range_eq_range' ▸ listed))
  refine (if_pos ⟨count, size, hold⟩).trans ?_
  rw [read]
  rfl

theorem parseBank_unfit {bs : List Byte} {length : Nat} (unfit : ¬ bankFits bs length) (crc : Word) :
    parseBank bs length crc = none := by
  unfold parseBank
  dsimp only
  split
  case isFalse => rfl
  case isTrue header =>
    obtain ⟨count, size, hold⟩ := header
    obtain ⟨j, listed, bad⟩ : ∃ j, j < (halfAt bs 0).toNat ∧ ¬ zoneFits bs j := by
      by_contra none_
      push Not at none_
      exact unfit ⟨count, size, hold, none_⟩
    rw [parseZones_unfit (List.range_eq_range' ▸ List.mem_range.2 listed) bad]
    rfl

/-! ## A bank written by the layout -/

/-- The ranges of a zone record's fields (R45), a FIXED zone's line being 0. -/
def ZoneRec.inRange (z : ZoneRec) : Prop :=
  z.line ≤ 3 ∧ (z.crew = false → z.line = 0) ∧ -32768 ≤ z.xmin ∧ z.xmin < z.xmax ∧ z.xmax ≤ 32767 ∧
  -32768 ≤ z.ymin ∧ z.ymin < z.ymax ∧ z.ymax ≤ 32767 ∧ -32768 ≤ z.zmin ∧ z.zmin < z.zmax ∧ z.zmax ≤ 32767 ∧
  z.guardStop ≤ 5000 ∧ z.slowWidth ≤ 10000

/-- The string of a bank by the layout of section 10.6. -/
def bankImage (hold : Nat) (zones : List ZoneRec) : List Byte := bankHeader zones.length hold ++ zones.flatMap zoneBytes

theorem wide_zoneBytes : Wide 20 zoneBytes := fun _ => rfl

theorem half_toInt {x : Int} (low : -32768 ≤ x) (high : x ≤ 32767) : (BitVec.ofInt 16 x).toInt = x :=
  BitVec.toInt_ofInt_eq_self (by decide) (by omega) (by omega)

theorem half_toNat {n : Nat} (inside : n ≤ 65535) : (BitVec.ofNat 16 n).toNat = n :=
  Nat.mod_eq_of_lt (by omega)

/-- Field by field, what the bytes of a zone record spell. -/
theorem zoneBytes_fields (z : ZoneRec) :
    byteAt (zoneBytes z) 0 = (if z.enabled = true then 1 else 0) ∧
    byteAt (zoneBytes z) 1 = (if z.crew = true then 1 else 0) ∧
    halfAt (zoneBytes z) 2 = BitVec.ofNat 16 z.line ∧ halfAt (zoneBytes z) 4 = BitVec.ofInt 16 z.xmin ∧
    halfAt (zoneBytes z) 6 = BitVec.ofInt 16 z.xmax ∧ halfAt (zoneBytes z) 8 = BitVec.ofInt 16 z.ymin ∧
    halfAt (zoneBytes z) 10 = BitVec.ofInt 16 z.ymax ∧ halfAt (zoneBytes z) 12 = BitVec.ofInt 16 z.zmin ∧
    halfAt (zoneBytes z) 14 = BitVec.ofInt 16 z.zmax ∧ halfAt (zoneBytes z) 16 = BitVec.ofNat 16 z.guardStop ∧
    halfAt (zoneBytes z) 18 = BitVec.ofNat 16 z.slowWidth := by
  refine ⟨rfl, rfl, ?_⟩
  simp only [zoneBytes, u16, i16, halfAt_cons, halfAt_le16_skip, halfAt_le16, halfAt_le16_alone, and_self]

section
variable {hold : Nat} {zones : List ZoneRec} {k j : Nat}

theorem byteAt_bankImage (listed : k < zones.length) (inside : j < 20) :
    byteAt (bankImage hold zones) (4 + 20 * k + j) = byteAt (zoneBytes zones[k]) j := by
  rw [Nat.add_assoc]
  exact (byteAt_append _ _ _).trans (byteAt_flatMap wide_zoneBytes listed inside)

theorem halfAt_bankImage (listed : k < zones.length) (inside : j + 1 < 20) :
    halfAt (bankImage hold zones) (4 + 20 * k + j) = halfAt (zoneBytes zones[k]) j := by
  rw [halfAt, byteAt_bankImage listed (by omega), Nat.add_assoc, byteAt_bankImage listed inside]
  rfl

theorem enable_bankImage (listed : k < zones.length) :
    (byteAt (bankImage hold zones) (4 + 20 * k)).toNat = zones[k].enabled.toNat := by
  rw [← Nat.add_zero (4 + 20 * k), byteAt_bankImage listed (by decide), (zoneBytes_fields _).1]
  cases zones[k].enabled <;> rfl

theorem kind_bankImage (listed : k < zones.length) :
    (byteAt (bankImage hold zones) (5 + 20 * k)).toNat = zones[k].crew.toNat := by
  rw [kindPlace, byteAt_bankImage listed (by decide), (zoneBytes_fields _).2.1]
  cases zones[k].crew <;> rfl

theorem ZoneRec.inRange.line_bytes {z : ZoneRec} (ranged : z.inRange) : (halfAt (zoneBytes z) 2).toNat = z.line := by
  obtain ⟨-, -, line, -⟩ := zoneBytes_fields z
  obtain ⟨few, -⟩ := ranged
  rw [line, half_toNat (by omega)]

/-- The line of a zone inside its ranges is the one its record gives for a CREW zone, else 0. -/
theorem ZoneRec.inRange.line_eq {z : ZoneRec} (ranged : z.inRange) :
    (if z.crew = true then z.line else 0) = z.line := by
  obtain ⟨-, fixed, -⟩ := ranged
  cases crew : z.crew with
  | false => exact (fixed crew).symm
  | true => rfl

/-- R47: a zone record inside its ranges is read back as it was written. -/
theorem zoneRead_bankImage (listed : k < zones.length) (ranged : zones[k].inRange) :
    zoneRead (bankImage hold zones) k = zones[k] := by
  obtain ⟨-, -, -, xmin, xmax, ymin, ymax, zmin, zmax, guardStop, slowWidth⟩ := zoneBytes_fields zones[k]
  have line := ranged.line_bytes
  have sameLine := ranged.line_eq
  obtain ⟨-, -, xlow, x, xhigh, ylow, y, yhigh, zlow, z, zhigh, guard, slow⟩ := ranged
  simp only [zoneRead, enable_bankImage listed, kind_bankImage listed, line, halfAt_bankImage listed,
    Nat.reduceAdd, Nat.reduceLT, xmin, xmax, ymin, ymax, zmin, zmax, guardStop, slowWidth, Bool.toNat_eq_one,
    Bool.decide_eq_true, sameLine]
  rw [half_toInt xlow (by omega), half_toInt (by omega) xhigh, half_toInt ylow (by omega), half_toInt (by omega) yhigh,
    half_toInt zlow (by omega), half_toInt (by omega) zhigh, half_toNat (by omega), half_toNat (by omega)]

/-- A zone record inside its ranges passes item 7 of R46. -/
theorem zoneFits_bankImage (listed : k < zones.length) (ranged : zones[k].inRange) :
    zoneFits (bankImage hold zones) k := by
  rw [zoneFits, zoneRead_bankImage listed ranged, enable_bankImage listed, kind_bankImage listed,
    halfAt_bankImage listed (by decide), ranged.line_bytes]
  obtain ⟨line, -, -, x, -, -, y, -, -, z, -, guard, slow⟩ := ranged
  exact ⟨Bool.toNat_le _, Bool.toNat_le _, fun _ => line, x, y, z, guard, slow⟩

end

section
variable {hold : Nat} {zones : List ZoneRec}

theorem bankImage_length : (bankImage hold zones).length = 4 + 20 * zones.length := by
  rw [bankImage, List.length_append, flatMap_length wide_zoneBytes, Nat.mul_comm]
  rfl

theorem bankImage_count (few : zones.length ≤ 32) : (halfAt (bankImage hold zones) 0).toNat = zones.length := by
  rw [bankImage, bankHeader, u16, List.append_assoc, halfAt_le16, half_toNat (by omega)]

theorem bankImage_hold (short : hold ≤ 10000) : (halfAt (bankImage hold zones) 2).toNat = hold := by
  rw [bankImage, bankHeader, u16, u16, List.append_assoc, halfAt_le16_skip, halfAt_le16, half_toNat (by omega)]

/-- R47, section 10.6: a bank inside its ranges, written by the layout, is read back whole. -/
theorem bankRead_bankImage (few : zones.length ≤ 32) (short : hold ≤ 10000) (ranged : ∀ z ∈ zones, z.inRange)
    (crc : Word) : bankRead (bankImage hold zones) crc = { releaseHold := hold, zones := zones, checksum := crc } := by
  rw [bankRead, bankImage_count few, bankImage_hold short]
  congr
  refine List.ext_getElem (by simp) fun k _ listed => ?_
  rw [List.getElem_map, List.getElem_range]
  exact zoneRead_bankImage listed (ranged _ (List.getElem_mem listed))

theorem bankFits_bankImage (few : zones.length ≤ 32) (short : hold ≤ 10000) (ranged : ∀ z ∈ zones, z.inRange) :
    bankFits (bankImage hold zones) (bankImage hold zones).length := by
  rw [bankFits, bankImage_length, bankImage_count few, bankImage_hold short]
  exact ⟨few, rfl, short, fun k listed => zoneFits_bankImage listed (ranged _ (List.getElem_mem listed))⟩

end

/-! ## COMMIT of a zone bank -/

theorem putBank_other (z : ZoneMonitor) (b : Bank) :
    z.putBank z.activeBank.other b = if z.activeBank = .a then { z with bankB := b } else { z with bankA := b } := by
  have put (id : BankId) (active : z.activeBank = id) : z.putBank z.activeBank.other b = z.putBank id.other b := by
    rw [active]
  split
  case isTrue a => exact put .a a
  case isFalse notA =>
    refine put .b ?_
    cases active : z.activeBank with
    | a => exact absurd active notA
    | b => rfl

@[simp] theorem putBank_activeBank (z : ZoneMonitor) (id : BankId) (b : Bank) :
    (z.putBank id b).activeBank = z.activeBank := by cases id <;> rfl

@[simp] theorem bank_putBank_same (z : ZoneMonitor) (id : BankId) (b : Bank) : (z.putBank id b).bank id = b := by
  cases id <;> rfl

@[simp] theorem bank_putBank_other (z : ZoneMonitor) (id : BankId) (b : Bank) :
    (z.putBank id.other b).bank id = z.bank id := by
  cases id <;> rfl

/-- What item 7 of R46 says of the record it passes. -/
theorem zoneFits.read {bs : List Byte} {k : Nat} (fits : zoneFits bs k) :
    let z := zoneRead bs k
    z.line ≤ 3 ∧ (z.crew = false → z.line = 0) ∧ z.xmin < z.xmax ∧ z.ymin < z.ymax ∧ z.zmin < z.zmax ∧
    z.guardStop ≤ 5000 ∧ z.slowWidth ≤ 10000 := by
  obtain ⟨-, -, line, x, y, z, guard, slow⟩ := fits
  refine ⟨?_, fun fixed => if_neg (of_decide_eq_false fixed), x, y, z, guard, slow⟩
  show (if (byteAt bs (5 + 20 * k)).toNat = 1 then (halfAt bs (4 + 20 * k + 2)).toNat else 0) ≤ 3
  split
  · exact line ‹_›
  · omega

section
variable {length : Half} {crc : Word} {s : State}

theorem commitZoneBody_pending (pending : s.zone.swapPending = true) :
    commitZoneBody length crc s = (s, plain .refusedBusy) := if_pos pending

theorem commitZoneBody_length (settled : s.zone.swapPending = false) (wrong : length.toNat < 4 ∨ 1024 < length.toNat) :
    commitZoneBody length crc s = (s, plain .badParam) :=
  (if_neg (by rw [settled]; decide)).trans (if_pos wrong)

section
variable (settled : s.zone.swapPending = false) (right : ¬ (length.toNat < 4 ∨ 1024 < length.toNat))
include settled right

theorem commitZoneBody_checksum (wrong : crc32 (s.service.staging.take length.toNat) ≠ crc) :
    commitZoneBody length crc s = (s, plain .badChecksum) :=
  (if_neg (by rw [settled]; decide)).trans ((if_neg right).trans (if_pos wrong))

theorem commitZoneBody_unfit (sum : crc32 (s.service.staging.take length.toNat) = crc)
    (unfit : ¬ bankFits (s.service.staging.take length.toNat) length.toNat) :
    commitZoneBody length crc s = (s, plain .badParam) := by
  simp only [commitZoneBody, staged, settled, Bool.false_eq_true, if_false, if_neg right, sum, ne_eq, not_true,
    parseBank_unfit unfit, refuse]

theorem commitZoneBody_fits (sum : crc32 (s.service.staging.take length.toNat) = crc)
    (fits : bankFits (s.service.staging.take length.toNat) length.toNat) :
    commitZoneBody length crc s =
      (s.setZone (s.zone.putBank s.zone.activeBank.other (bankRead (s.service.staging.take length.toNat) crc)),
        plain .ok) := by
  simp only [commitZoneBody, staged, settled, Bool.false_eq_true, if_false, if_neg right, sum, ne_eq, not_true,
    parseBank_fits fits]

end

/-- A COMMIT answered OK has passed every check of R46, and has loaded the bank. -/
theorem commitZoneBody_ok (ok : (commitZoneBody length crc s).2 = plain .ok) :
    crc32 (s.service.staging.take length.toNat) = crc ∧
    bankFits (s.service.staging.take length.toNat) length.toNat ∧
    (commitZoneBody length crc s).1.zone =
      s.zone.putBank s.zone.activeBank.other (bankRead (s.service.staging.take length.toNat) crc) := by
  cases settled : s.zone.swapPending with
  | true => rw [commitZoneBody_pending settled] at ok; cases ok
  | false =>
    by_cases right : length.toNat < 4 ∨ 1024 < length.toNat
    · rw [commitZoneBody_length settled right] at ok; cases ok
    by_cases sum : crc32 (s.service.staging.take length.toNat) = crc
    · by_cases fits : bankFits (s.service.staging.take length.toNat) length.toNat
      · rw [commitZoneBody_fits settled right sum fits]
        exact ⟨sum, fits, rfl⟩
      · rw [commitZoneBody_unfit settled right sum fits] at ok; cases ok
    · rw [commitZoneBody_checksum settled right sum] at ok; cases ok

/-- A request answered OK has passed the refusal in ARMING, and its own rule has given that answer. -/
theorem request_ok {tag code : Byte} {body : Body} (tagged : tag ≠ 0)
    (ok : (request tag code body s).service.reply = some (tag, plain .ok)) :
    (body s).2 = plain .ok ∧ request tag code body s = answer tag code (plain .ok) (body s).1 := by
  rcases request_cases tag code body s with ⟨zero, -⟩ | ⟨-, refused⟩ | ⟨-, ran⟩
  · exact absurd zero tagged
  · rw [refused] at ok; cases ok
  · rw [ran] at ok
    have same : (body s).2 = plain .ok := congrArg Prod.snd (Option.some.inj ok)
    exact ⟨same, ran.trans (by rw [same])⟩

end

end Sys2Proof.Machine

namespace Sys2Proof.Proofs
open Sys2Proof.Machine Sys2Proof.Claims

/-- Settles O19: a bank written by the layout passes the checks and is read back whole; an answer OK comes only of a
bank that passes them; then each check in its order. -/
theorem commitZoneShadowTaken : Obligations.CommitZoneShadowTaken := by
  refine ⟨?_, ?_, ?_⟩
  · intro tag channel length crc s hold zones tagged notArming settled short few ranged image size staged_
    have runs : s.mode.mode ≠ .arming ∨ armingAccepts 0x19 = true := .inl notArming
    have extent : image.length = 4 + 20 * zones.length := bankImage_length
    have right : ¬ (length.toNat < 4 ∨ 1024 < length.toNat) := by omega
    have bytes : s.service.staging.take length.toNat = image := by rw [size, staged_]
    refine ⟨fun wrong => request_replied tagged runs (commitZoneBody_checksum settled right (by rwa [bytes])),
      fun sum => request_replied tagged runs ?_⟩
    have fits : bankFits (s.service.staging.take length.toNat) length.toNat := by
      rw [bytes, size]
      exact bankFits_bankImage few short ranged
    have read : bankRead image crc = _ := bankRead_bankImage few short ranged crc
    rw [commitZoneBody_fits settled right (by rw [bytes, sum]) fits, bytes, read, putBank_other]
    rfl
  · intro tag channel length crc s t tagged ran
    cases (Host.Outcome.next.inj ran : request tag 0x19 (commitZoneBody length crc) s = t)
    refine ⟨fun pending notArming => request_replied tagged (.inl notArming) (commitZoneBody_pending pending),
      fun ok => ?_⟩
    obtain ⟨same, answered⟩ := request_ok tagged ok
    obtain ⟨sum, fits, loaded⟩ := commitZoneBody_ok same
    have zone : (request tag 0x19 (commitZoneBody length crc) s).zone = _ :=
      (congrArg State.zone answered).trans loaded
    obtain ⟨count, size, hold, zones⟩ := fits
    rw [zone, ZoneMonitor.activeOne, putBank_activeBank, bank_putBank_other, bank_putBank_same]
    refine ⟨sum, rfl, rfl, rfl, hold, ?_, ?_, ?_⟩
    · simpa [bankRead] using size
    · simpa [bankRead] using count
    · refine List.forall_mem_map.2 fun k listed => ?_
      exact (zones k (List.mem_range.1 listed)).read
  · intro tag channel length crc s tagged run bytes count hold enable kind signed plain_ fits zone bank
    have fitsExactly : fits ↔ bankFits bytes length.toNat := Iff.rfl
    refine ⟨fun busy => ?_, fun notArming settled => ?_⟩
    · by_cases arming : s.mode.mode = .arming
      · exact request_refusedInArming _ tagged arming rfl
      · exact request_replied tagged (.inl arming) (commitZoneBody_pending (busy.resolve_left arming))
    · have runs : s.mode.mode ≠ .arming ∨ armingAccepts 0x19 = true := .inl notArming
      refine ⟨fun wrong => request_replied tagged runs (commitZoneBody_length settled wrong), fun long short => ?_⟩
      have right : ¬ (length.toNat < 4 ∨ 1024 < length.toNat) := by omega
      refine ⟨fun wrong => request_replied tagged runs (commitZoneBody_checksum settled right wrong),
        fun sum unfit => request_replied tagged runs (commitZoneBody_unfit settled right sum unfit),
        fun sum fit => request_replied tagged runs ?_⟩
      rw [commitZoneBody_fits settled right sum fit, putBank_other]
      rfl

end Sys2Proof.Proofs
end

section
/-! PROOFS. The settings and releases that only the mode governs, and CLEAR_COUNTERS: the coded switches, ports and
trigger kinds, the clamping, the settings as they are written. -/

namespace Sys2Proof.Machine

/-! ## Coded operands and clamping -/

theorem switchOf?_zero : switchOf? 0 = some false := rfl
theorem switchOf?_one : switchOf? 1 = some true := rfl

theorem switchOf?_outside {b : Byte} (outside : 2 ≤ b.toNat) : switchOf? b = none := by
  unfold switchOf?
  split
  case h_3 => rfl
  all_goals omega

/-- A switch inside its set is ON exactly at code 1. -/
theorem switchOf?_inside {b : Byte} (inside : b.toNat < 2) : switchOf? b = some (decide (b = 1)) := by
  have coded : b = 0 ∨ b = 1 := by bv_omega
  rcases coded with rfl | rfl <;> rfl

theorem portOf?_outside {b : Byte} (outside : 2 ≤ b.toNat) : portOf? b = none := by
  unfold portOf?
  split
  case h_3 => rfl
  all_goals omega

theorem triggerOf?_outside {b : Byte} (outside : 3 ≤ b.toNat) : triggerOf? b = none := by
  unfold triggerOf?
  split
  case h_4 => rfl
  all_goals omega

theorem clampNat_eq_ite {lo hi : Nat} (order : lo ≤ hi) (n : Nat) :
    clampNat lo hi n = if n < lo then lo else if hi < n then hi else n := by
  unfold clampNat
  split
  · omega
  · split <;> omega

/-! ## The requests' own rules -/

section
variable {s : State}

theorem setMemoryBody_coded {b : Byte} {on : Bool} (coded : switchOf? b = some on) :
    setMemoryBody b s = (s.setStore { s.store with reportSingles := on }, plain .ok) := by
  rw [setMemoryBody, coded]

theorem setMemoryBody_outside {b : Byte} (outside : switchOf? b = none) : setMemoryBody b s = (s, plain .badParam) := by
  rw [setMemoryBody, outside, refuse]

theorem setTriggerBody_coded {kind : Byte} {k : TriggerKind} (coded : triggerOf? kind = some k) (timecode : Word)
    (scale : Half) :
    setTriggerBody kind timecode scale s =
      (s.setTake (writeTrigger k timecode (clampNat 1 256 scale.toNat) s.take), plain .ok) := by
  rw [setTriggerBody, coded]

theorem setTriggerBody_outside {kind : Byte} (outside : triggerOf? kind = none) (timecode : Word) (scale : Half) :
    setTriggerBody kind timecode scale s = (s, plain .badParam) := by
  rw [setTriggerBody, outside, refuse]

theorem setSyncBody_live (live : s.mode.mode = .live) (cycles required : Byte) :
    setSyncBody cycles required s = (s, plain .refusedMode) := if_pos live

theorem setSyncBody_outside (used : s.mode.mode ≠ .live) {required : Byte} (outside : switchOf? required = none)
    (cycles : Byte) : setSyncBody cycles required s = (s, plain .badParam) := by
  rw [setSyncBody, if_neg used, outside, refuse]

theorem setSyncBody_coded (used : s.mode.mode ≠ .live) {required : Byte} {on : Bool}
    (coded : switchOf? required = some on) (cycles : Byte) :
    setSyncBody cycles required s =
      (s.setTake { s.take with ref := writeSync (clampNat 10 80 cycles.toNat) on s.take.ref }, plain .ok) := by
  rw [setSyncBody, if_neg used, coded]

theorem clearCountersBody_outside {port : Byte} (outside : portOf? port = none) (kinds : Byte) :
    clearCountersBody port kinds s = (s, plain .badParam) := by
  rw [clearCountersBody, outside, refuse]

theorem clearCountersBody_coded {port : Byte} {p : PortId} (coded : portOf? port = some p) (kinds : Byte) :
    clearCountersBody port kinds s =
      (s.setLink (s.link.putPort p
        { s.link.port p with counters := clearKinds (kindBits kinds) (s.link.port p).counters }), plain .ok) := by
  rw [clearCountersBody, coded]

end

end Sys2Proof.Machine

namespace Sys2Proof.Proofs
open Sys2Proof.Machine Sys2Proof.Claims

/-- Settles O22: request by request, each by its own rule; the coded operands inside and outside their sets. -/
theorem settingsWritten : Obligations.SettingsWritten := by
  constructor
  · rintro tag s ⟨tagged, notArming⟩
    have runs (code : Byte) : s.mode.mode ≠ .arming ∨ armingAccepts code = true := .inl notArming
    refine ⟨request_replied tagged (runs _) rfl, fun limit => ?_, request_replied tagged (runs _) rfl, fun on => ?_,
      fun mask => request_replied tagged (runs _) rfl, request_replied tagged (runs _) rfl,
      fun kind timecode scale => ⟨fun outside => ?_, fun k coded => ?_⟩,
      fun cycles required => ⟨fun live => ?_, fun parked outside => ?_, fun parked inside => ?_⟩⟩
    · rw [← clampNat_eq_ite (by decide)]
      exact request_replied tagged (runs _) rfl
    · split
      case isTrue off => exact request_replied tagged (runs _) (setMemoryBody_coded (off ▸ switchOf?_zero))
      case isFalse notOff =>
        split
        case isTrue on => exact request_replied tagged (runs _) (setMemoryBody_coded (on ▸ switchOf?_one))
        case isFalse notOn =>
          exact request_replied tagged (runs _) (setMemoryBody_outside (switchOf?_outside (by bv_omega)))
    · exact request_replied tagged (runs _) (setTriggerBody_outside (triggerOf?_outside outside) _ _)
    · have clamped : (if scale = 0 then 1 else if 256 < scale.toNat then 256 else scale.toNat) =
          clampNat 1 256 scale.toNat := by
        rw [clampNat_eq_ite (by decide)]
        exact if_congr (by bv_omega) rfl rfl
      rw [clamped]
      exact request_replied tagged (runs _) (setTriggerBody_coded coded _ _)
    · exact request_replied tagged (runs _) (setSyncBody_live live _ _)
    · have used : s.mode.mode ≠ .live := by rw [parked]; decide
      exact request_replied tagged (runs _) (setSyncBody_outside used (switchOf?_outside outside) _)
    · have used : s.mode.mode ≠ .live := by rw [parked]; decide
      intro n r
      have clamped : n = clampNat 10 80 cycles.toNat := (clampNat_eq_ite (by decide) _).symm
      have written := request_replied (code := 0x2A) tagged (runs _)
        (setSyncBody_coded used (switchOf?_inside inside) cycles)
      rw [← clamped] at written
      exact written
  · rintro tag port kinds s ⟨tagged, notArming⟩
    have runs : s.mode.mode ≠ .arming ∨ armingAccepts 0x29 = true := .inl notArming
    refine ⟨fun outside => request_replied tagged runs (clearCountersBody_outside (portOf?_outside outside) _),
      fun portC => ?_, fun portD => ?_⟩
    · subst portC
      exact request_replied tagged runs (clearCountersBody_coded (p := .c) rfl _)
    · subst portD
      exact request_replied tagged runs (clearCountersBody_coded (p := .d) rfl _)

end Sys2Proof.Proofs
end

section
/-! PROOFS. The safety state, the output lines and the takes over one operation: the operations beside them, the causes,
the ends of an arming and of LIVE. -/

namespace Sys2Proof.Machine
open Sys2Proof.Claims

/-! ## What an operation keeps -/

/-- What an operation keeps of the safety state with its two output lines (R64, R81), of the quiet of the takes (R139,
R149), and of the good record behind a CUED or RUNNING playback (R143, R148). -/
structure KeepsSafety (s t : State) : Prop where
  lines : SafetyGoverned s → LinesFollow s → SafetyGoverned t ∧ LinesFollow t
  quiet : TakesQuiet s → TakesQuiet t
  supplied : takeSupplied s → takeSupplied t

theorem KeepsSafety.refl (s : State) : KeepsSafety s s := ⟨fun governed follows => ⟨governed, follows⟩, id, id⟩

theorem KeepsSafety.trans {s t u : State} (h : KeepsSafety s t) (g : KeepsSafety t u) : KeepsSafety s u where
  lines governed follows :=
    have ⟨governed, follows⟩ := h.lines governed follows
    g.lines governed follows
  quiet := g.quiet ∘ h.quiet
  supplied := g.supplied ∘ h.supplied

/-- The crane mode, the safety state and the two lines are as they were. -/
structure DrivesStand (s t : State) : Prop where
  mode : t.mode.mode = s.mode.mode := by simp
  safety : t.stop.safety = s.stop.safety := by simp
  estop : t.pins.estopOutClosed = s.pins.estopOutClosed := by simp
  brake : t.pins.brakeReleased = s.pins.brakeReleased := by simp

theorem DrivesStand.lines {s t : State} (h : DrivesStand s t) (governed : SafetyGoverned s) (follows : LinesFollow s) :
    SafetyGoverned t ∧ LinesFollow t := by
  unfold SafetyGoverned LinesFollow drivable at *
  rw [h.mode, h.safety, h.estop, h.brake]
  exact ⟨governed, follows⟩

/-- No playback and no recording becomes active. -/
def noTakeBegins (s t : State) : Prop :=
  (t.take.play.active = true → s.take.play.active = true) ∧
  (t.take.recording.active = true → s.take.recording.active = true)

theorem DrivesStand.quiet {s t : State} (h : DrivesStand s t) (begins : noTakeBegins s t) (quiet : TakesQuiet s) :
    TakesQuiet t := by
  unfold TakesQuiet at *
  rw [h.mode, h.safety]
  exact fun off => ⟨Bool.eq_false_iff.2 fun plays => Bool.eq_false_iff.1 (quiet off).1 (begins.1 plays),
    Bool.eq_false_iff.2 fun records => Bool.eq_false_iff.1 (quiet off).2 (begins.2 records)⟩

/-- An operation on the takes alone. -/
theorem KeepsSafety.of_takes {s t : State} (drives : DrivesStand s t) (begins : noTakeBegins s t)
    (supplied : takeSupplied s → takeSupplied t) : KeepsSafety s t :=
  ⟨drives.lines, drives.quiet begins, supplied⟩

/-- An operation that leaves the play state and the latest record, and begins no recording. -/
theorem KeepsSafety.of_play {s t : State} (drives : DrivesStand s t)
    (state : t.take.play.state = s.take.play.state) (latest : t.take.play.latest = s.take.play.latest)
    (recording : t.take.recording.active = true → s.take.recording.active = true) : KeepsSafety s t := by
  refine .of_takes drives ⟨?_, recording⟩ ?_
  · unfold Playback.active; rw [state]; exact id
  · unfold takeSupplied; rw [state, latest]; exact id

/-- An operation on other blocks. -/
theorem KeepsSafety.of_blocks {s t : State} (drives : DrivesStand s t := by exact {})
    (take : t.take = s.take := by simp) : KeepsSafety s t :=
  .of_play drives (by rw [take]) (by rw [take]) (by rw [take]; exact id)

theorem setLink_keepsSafety (x : Link) (s : State) : KeepsSafety s (s.setLink x) :=
  .of_blocks ⟨rfl, rfl, rfl, rfl⟩ rfl

theorem setZone_keepsSafety (x : ZoneMonitor) (s : State) : KeepsSafety s (s.setZone x) :=
  .of_blocks ⟨rfl, rfl, rfl, rfl⟩ rfl

theorem setGeo_keepsSafety (x : Geometry) (s : State) : KeepsSafety s (s.setGeo x) :=
  .of_blocks ⟨rfl, rfl, rfl, rfl⟩ rfl

theorem setTimer_keepsSafety (x : Nat) (s : State) : KeepsSafety s (s.setTimer x) :=
  .of_blocks ⟨rfl, rfl, rfl, rfl⟩ rfl

theorem setStore_keepsSafety (x : TakeStore) (s : State) : KeepsSafety s (s.setStore x) :=
  .of_blocks ⟨rfl, rfl, rfl, rfl⟩ rfl

theorem setCapture_keepsSafety (x : CaptureUnit) (s : State) : KeepsSafety s (s.setCapture x) :=
  .of_blocks ⟨rfl, rfl, rfl, rfl⟩ rfl

theorem setPins_keepsSafety (x : Pins) (s : State) (estop : x.estopOutClosed = s.pins.estopOutClosed := by rfl)
    (brake : x.brakeReleased = s.pins.brakeReleased := by rfl) : KeepsSafety s (s.setPins x) :=
  .of_blocks ⟨rfl, rfl, estop, brake⟩ rfl

theorem setStop_keepsSafety (x : StopController) (s : State) (safety : x.safety = s.stop.safety := by rfl) :
    KeepsSafety s (s.setStop x) := .of_blocks ⟨rfl, safety, rfl, rfl⟩ rfl

theorem mapLens_keepsSafety (n : Fin 12) (f : LensChannel → LensChannel) (s : State) :
    KeepsSafety s (s.mapLens n f) := .of_blocks ⟨rfl, rfl, rfl, rfl⟩ rfl

theorem mapChan_keepsSafety (n : Fin 12) (f : Channel → Channel) (s : State) : KeepsSafety s (s.mapChan n f) :=
  .of_blocks ⟨rfl, rfl, rfl, rfl⟩ rfl

theorem mapChans_keepsSafety (f : Fin 12 → Channel → Channel) (s : State) : KeepsSafety s (s.mapChans f) :=
  .of_blocks ⟨rfl, rfl, rfl, rfl⟩ rfl

theorem takeSupplied_of_inactive {s : State} (still : s.take.play.active = false) : takeSupplied s := by
  rintro (cued | running)
  · simp [Playback.active, cued] at still
  · simp [Playback.active, running] at still

/-- An operation that leaves neither a playback nor a recording active. -/
theorem takesStopped {s : State} (play : s.take.play.active = false) (recording : s.take.recording.active = false) :
    TakesQuiet s ∧ takeSupplied s := ⟨fun _ => ⟨play, recording⟩, takeSupplied_of_inactive play⟩

/-- A crane that is parked with its chain open. -/
theorem lines_of_parked {s : State} (mode : s.mode.mode = .parked) (safety : s.stop.safety = .normal)
    (estop : s.pins.estopOutClosed = false) (brake : s.pins.brakeReleased = false) :
    SafetyGoverned s ∧ LinesFollow s := by
  refine ⟨fun _ => safety, ?_⟩
  unfold LinesFollow drivable
  rw [mode, estop, brake]; exact ⟨rfl, rfl⟩

/-! ## Causes -/

theorem interruptedRecording_inactive (r : Recording) : (interruptedRecording r).active = false := by
  rw [Recording.active, interruptedRecording_state]; rfl

/-- What a cause makes of the takes: it begins a stop in a LIVE crane in NORMAL, and elsewhere leaves them (R67 to
R69). -/
theorem takeCause_takes (c : Cause) (s : State) :
    ((takeCause c s).take.play.active = false ∧ (takeCause c s).take.recording.active = false) ∨
    ((s.mode.mode ≠ .live ∨ s.stop.safety ≠ .normal) ∧ (takeCause c s).take = s.take) := by
  by_cases governed : s.mode.mode = .live ∧ s.stop.safety = .normal
  · have began := (Proofs.live_fromNormal c governed.1 governed.2).2.1.trans (stopBegins_take s)
    rw [began]
    exact .inl ⟨abortedIfActive_inactive _ _, interruptedRecording_inactive _⟩
  · rcases takeCause_take_cases c s with same | ⟨live, normal, -⟩
    · exact .inr ⟨not_and_or.1 governed, same⟩
    · exact absurd ⟨live, normal⟩ governed

theorem abortByCause_lines (c : Cause) (s : State) :
    DrivesStand s (abortByCause c s) ∨
    ((abortByCause c s).mode.mode = .parked ∧ (abortByCause c s).stop = s.stop ∧
      (abortByCause c s).pins.estopOutClosed = false ∧ (abortByCause c s).pins.brakeReleased = false) := by
  unfold abortByCause
  cases c.name
  case followingError | driveFault | estopChain | zoneTableCorrupt => exact .inr ⟨rfl, rfl, rfl, rfl⟩
  all_goals exact .inl ⟨rfl, rfl, rfl, rfl⟩

/-- The lines follow what a cause makes of a LIVE crane (R67, R68, R81). -/
theorem actLive_lines (n : CauseName) {s : State} (live : s.mode.mode = .live) (follows : LinesFollow s) :
    LinesFollow (actLive n s) := by
  have mode : (actLive n s).mode = s.mode := (actLive_frame n s).2.2.2.2.1
  unfold LinesFollow drivable at *
  rw [mode]
  rcases actLive_cases n s with ⟨_, normal, e⟩ | ⟨_, _, e⟩ | ⟨_, _, e⟩ | ⟨_, e⟩ <;> rw [e]
  · rw [enterStopping_stop, (enterStopping_frame n s).2.2.1]
    rw [live, normal] at follows; rw [live]; exact follows
  · rw [laterSoft_stop, (laterSoft_frame n s).2.2.1]; exact follows
  · rw [enterDropped_stop, enterDropped_pins, live]; exact ⟨rfl, rfl⟩
  · exact follows

theorem takeCause_lines (c : Cause) {s : State} (governed : SafetyGoverned s) (follows : LinesFollow s) :
    SafetyGoverned (takeCause c s) ∧ LinesFollow (takeCause c s) := by
  cases mode : s.mode.mode with
  | parked => rw [takeCause_parked c mode]; exact ⟨governed, follows⟩
  | arming =>
    have normal : s.stop.safety = .normal := governed (by rw [mode]; decide)
    rw [takeCause_arming c mode]
    rcases abortByCause_lines c (causeNoted c s) with stand | ⟨parked, stop, estop, brake⟩
    · exact stand.lines (s := causeNoted c s) governed follows
    · exact lines_of_parked parked (by rw [stop]; exact normal) estop brake
  | live =>
    refine ⟨fun off => absurd ?_ off, ?_⟩
    · rw [takeCause_mode_live c mode, mode]
    · rw [takeCause_live c mode]; exact actLive_lines c.name (s := causeNoted c s) mode follows

theorem takeCause_keepsSafety (c : Cause) (s : State) : KeepsSafety s (takeCause c s) := by
  refine ⟨takeCause_lines c, fun quiet => ?_, fun supplied => ?_⟩
  · rcases takeCause_takes c s with ⟨play, recording⟩ | ⟨off, take⟩
    · exact (takesStopped play recording).1
    · intro _; rw [take]; exact quiet off
  · rcases takeCause_takes c s with ⟨play, recording⟩ | ⟨-, take⟩
    · exact (takesStopped play recording).2
    · unfold takeSupplied; rw [take]; exact supplied

theorem takeCauses_keepsSafety (cs : List Cause) (s : State) : KeepsSafety s (takeCauses cs s) := by
  induction cs generalizing s with
  | nil => exact .refl s
  | cons c cs ih => exact (takeCause_keepsSafety c s).trans (ih _)

/-! ## The ends of an arming and of LIVE -/

/-- A crane becomes PARKED with its chain open, its takes as they were. -/
theorem KeepsSafety.of_parking {s t : State} (away : s.mode.mode ≠ .live) (mode : t.mode.mode = .parked)
    (safety : t.stop.safety = s.stop.safety) (estop : t.pins.estopOutClosed = false)
    (brake : t.pins.brakeReleased = false) (take : t.take = s.take) : KeepsSafety s t where
  lines governed _ := lines_of_parked mode (safety.trans (governed away)) estop brake
  quiet quiet _ := by rw [take]; exact quiet (.inl away)
  supplied := by unfold takeSupplied; rw [take]; exact id

theorem abortArming_keepsSafety (r : CheckResult) (e : AbortEvent) (m : Checks → Checks) (d : Option CheckDetail)
    {s : State} (away : s.mode.mode ≠ .live) : KeepsSafety s (abortArming r e m d s) :=
  .of_parking away rfl rfl rfl rfl rfl

theorem decideArming_keepsSafety {s : State} (arming : s.mode.mode = .arming) : KeepsSafety s (decideArming s) := by
  have away : s.mode.mode ≠ .live := by rw [arming]; decide
  rw [decideArming_eq]
  split
  · refine ⟨fun governed follows => ⟨fun off => absurd rfl off, ?_⟩, fun _ off => ?_, id⟩
    · unfold LinesFollow drivable at *
      rw [arming, governed away] at follows; exact follows
    · rcases off with off | off <;> exact absurd rfl off
  · exact .of_parking away rfl rfl rfl rfl rfl

theorem settleDecision_keepsSafety (s : State) : KeepsSafety s (settleDecision s) := by
  unfold settleDecision; split
  case isTrue due => exact decideArming_keepsSafety due.1
  case isFalse => exact .refl s

theorem armParked_keepsSafety {s : State} (parked : s.mode.mode = .parked) : KeepsSafety s (armParked s) := by
  have away : s.mode.mode ≠ .live := by rw [parked]; decide
  unfold armParked; split
  · exact .of_blocks
  · refine ⟨fun governed _ => ⟨fun _ => governed away, ?_⟩, fun quiet _ => quiet (.inl away), id⟩
    unfold LinesFollow drivable
    rw [show (beginArming s).stop = s.stop from rfl, governed away]; exact ⟨rfl, rfl⟩

theorem parkLive_takes (s : State) :
    (parkLive s).take.play.active = false ∧ (parkLive s).take.recording.active = false := by
  have left (u : State) : (failCalibrations .parked (leaveLive u)).take =
      { u.take with recording := interruptedRecording u.take.recording } := by
    have calibrated : (failCalibrations .parked (leaveLive u)).take = (leaveLive u).take := by simp
    rw [calibrated, leaveLive_eq]
  unfold parkLive; dsimp only
  rw [left]
  refine ⟨?_, interruptedRecording_inactive _⟩
  split
  case isTrue => rfl
  case isFalse still => exact Bool.eq_false_iff.2 fun active => still (.inl active)

theorem parkLive_keepsSafety (s : State) : KeepsSafety s (parkLive s) := by
  obtain ⟨play, recording⟩ := parkLive_takes s
  have ⟨quiet, supplied⟩ := takesStopped play recording
  have parked (u : State) : SafetyGoverned (failCalibrations .parked (leaveLive u)) ∧
      LinesFollow (failCalibrations .parked (leaveLive u)) := by
    refine lines_of_parked ?_ ?_ ?_ ?_ <;> simp only [failCalibrations_frame] <;> rw [leaveLive_eq]
  exact ⟨fun _ _ => parked _, fun _ => quiet, fun _ => supplied⟩

theorem softReset_keepsSafety (s : State) : KeepsSafety s (softReset s) := by
  have ⟨quiet, supplied⟩ : TakesQuiet (softReset s) ∧ takeSupplied (softReset s) := by
    refine takesStopped ?_ ?_ <;> rw [softReset_blocks]
    · rfl
    · exact interruptedRecording_inactive _
  have parked : SafetyGoverned (softReset s) ∧ LinesFollow (softReset s) := by
    refine lines_of_parked ?_ ?_ ?_ ?_ <;> rw [softReset_blocks]
  exact ⟨fun _ _ => parked, fun _ => quiet, fun _ => supplied⟩

theorem resetPart_keepsSafety (s : State) : KeepsSafety s (resetPart s) :=
  ⟨fun _ _ => lines_of_parked rfl rfl rfl rfl, fun _ _ => ⟨rfl, rfl⟩, fun _ => nofun⟩

/-- A HELD crane resumes (R78). -/
theorem resumed_keepsSafety {s : State} (live : s.mode.mode = .live) (held : s.stop.safety = .held) :
    KeepsSafety s (resumed s) := by
  refine ⟨fun _ follows => ⟨fun off => absurd live off, ?_⟩, fun _ off => ?_, id⟩
  · unfold LinesFollow drivable at *
    rw [live, held] at follows
    rw [show (resumed s).mode = s.mode from rfl, live]; exact follows
  · rcases off with off | off
    · exact absurd live off
    · exact absurd rfl off

end Sys2Proof.Machine
end

section
/-! PROOFS. The safety state, the output lines and the takes over the work of a frame, the link's events and the returns. -/

namespace Sys2Proof.Machine
open Sys2Proof.Claims

/-! ## Placement -/

theorem handSlip_takes (s : State) :
    (handSlip s).take.play.state = s.take.play.state ∧ (handSlip s).take.play.latest = s.take.play.latest ∧
    (handSlip s).take.recording = s.take.recording := by
  unfold handSlip; dsimp only
  by_cases records : s.take.recording.state = .recording
  · rw [if_pos records]; split <;> exact ⟨rfl, rfl, rfl⟩
  · rw [if_neg records]; split <;> exact ⟨rfl, rfl, rfl⟩

theorem placeNext_takes (s : State) :
    (placeNext s).1.take.play.state = s.take.play.state ∧ (placeNext s).1.take.play.latest = s.take.play.latest ∧
    (placeNext s).1.take.recording = s.take.recording := by
  unfold placeNext; dsimp only; split
  · exact handSlip_takes _
  · exact ⟨rfl, rfl, rfl⟩

theorem placeAhead_keepsSafety (s : State) : KeepsSafety s (placeAhead s) := by
  obtain ⟨state, latest, recording⟩ := placeNext_takes s
  exact .of_play {} state latest fun records => recording ▸ records

theorem placeFrame_keepsSafety (s : State) : KeepsSafety s (placeFrame s).1 := by
  unfold placeFrame; split
  · exact .of_play {} rfl rfl id
  · obtain ⟨state, latest, recording⟩ := placeNext_takes s
    exact .of_play {} state latest fun records => recording ▸ records

theorem startPlay_keepsSafety {s : State} (cued : s.take.play.state = .cued) : KeepsSafety s (startPlay s) := by
  refine .of_takes {} ⟨fun _ => ?_, id⟩ fun supplied _ => supplied (.inl cued)
  rw [Playback.active, cued]; rfl

theorem frameStarts_keepsSafety (timecode : Word) (s : State) : KeepsSafety s (frameStarts timecode s) := by
  have armed (u : State) : KeepsSafety u (if triggerStarts u.take timecode = true then startPlay u else u) := by
    split
    case isTrue starts =>
      simp only [triggerStarts, Bool.and_eq_true, beq_iff_eq] at starts
      exact startPlay_keepsSafety starts.1
    case isFalse => exact .refl u
  unfold frameStarts; dsimp only
  refine KeepsSafety.trans ?_ (armed _)
  split
  case isTrue waits => exact .of_play {} rfl rfl fun _ => by rw [Recording.active, waits]; rfl
  case isFalse => exact .refl s

theorem placeOutbound_keepsSafety (request : State → State) (timecode : Word) (s : State) :
    KeepsSafety s (placeOutbound request timecode s).1 := by
  unfold placeOutbound; dsimp only; split
  · exact placeFrame_keepsSafety s
  · exact (placeFrame_keepsSafety s).trans ((frameStarts_keepsSafety timecode _).trans .of_blocks)

/-! ## The take values -/

/-- Where the cue test may pass, the cue record's values have been supplied (R143, R148). -/
def cueSupplied (p : Playback) : Prop := p.state = .cueing → (cueValues p).isSome = true → p.latest ≠ none

theorem startRead_keepsSafety (s : State) : KeepsSafety s (startRead s) := by
  obtain ⟨k, take⟩ := startRead_play s
  exact .of_play {} (by rw [take]) (by rw [take]) (by rw [take]; exact id)

theorem playAdvanced_keepsSafety (s : State) : KeepsSafety s (playAdvanced s) := by
  have state : (useRecord (advancePlay s.take.play)).state = s.take.play.state := (useRecord_frame _).1
  have used : KeepsSafety s (s.setTake { s.take with play := useRecord (advancePlay s.take.play) }) := by
    refine .of_takes {} ⟨?_, id⟩ fun supplied playing => ?_
    · show (useRecord (advancePlay s.take.play)).active = true → _
      unfold Playback.active; rw [state]; exact id
    · rw [show (s.setTake { s.take with play := useRecord (advancePlay s.take.play) }).take.play =
        useRecord (advancePlay s.take.play) from rfl, state] at playing
      exact useRecord_keeps_latest _ (supplied playing)
  exact used.trans (startRead_keepsSafety _)

theorem playFrame_keepsSafety (s : State) : KeepsSafety s (playFrame s) := by
  rw [playFrame_eq]; split
  · exact (playAdvanced_keepsSafety s).trans (takeCause_keepsSafety _ _)
  · exact playAdvanced_keepsSafety s

/-- A RUNNING frame leaves no playback in CUEING. -/
theorem playFrame_state {s : State} (running : s.take.play.state = .running) :
    (playFrame s).take.play.state ≠ .cueing := by
  have advanced : (playAdvanced s).take.play.state = .running := by
    obtain ⟨k, take⟩ := startRead_play (s.setTake { s.take with play := useRecord (advancePlay s.take.play) })
    unfold playAdvanced
    rw [take]
    exact (useRecord_frame _).1.trans running
  rw [playFrame_eq]; split
  · rcases takeCause_takes (playbackDataCause (useRecord (advancePlay s.take.play))) (playAdvanced s) with
      ⟨still, -⟩ | ⟨-, take⟩
    · intro cueing; rw [Playback.active, cueing] at still; cases still
    · rw [take, advanced]; decide
  · rw [advanced]; decide

theorem supply_keepsSafety (s : State) : KeepsSafety s (supply s).1 ∧ cueSupplied (supply s).1.take.play := by
  by_cases running : s.take.play.state = .running
  · rw [supply_running running]
    exact ⟨playFrame_keepsSafety s, fun cueing => absurd cueing (playFrame_state running)⟩
  by_cases cue : s.take.play.state = .cueing ∨ s.take.play.state = .cued
  · cases values : cueValues s.take.play with
    | none =>
      have same : (supply s).1 = s := by
        unfold supply; dsimp only
        rcases cue with h | h <;> rw [h] <;> dsimp only <;> rw [values]
      rw [same]
      exact ⟨.refl s, fun _ some_ => by rw [values] at some_; cases some_⟩
    | some vs =>
      have given : (supply s).1 = s.setTake { s.take with play := giveValues vs s.take.play } := by
        unfold supply; dsimp only
        rcases cue with h | h <;> rw [h] <;> dsimp only <;> rw [values]
      rw [given]
      exact ⟨.of_takes {} ⟨id, id⟩ fun _ _ => nofun, fun _ _ => nofun⟩
  · rw [not_or] at cue
    rw [supply_away running cue.1 cue.2]
    exact ⟨.refl s, fun cueing => absurd cueing cue.1⟩

/-! ## The hand-on of a frame -/

theorem storeConditioned_keepsSafety (r : Vector Conditioned 12) (s : State) :
    KeepsSafety s (storeConditioned r s) := by
  have take := storeConditioned_take r s
  exact .of_play {} (by rw [take]) (by rw [take]) (by rw [take]; exact id)

theorem appendFrame_recording (cut : Bool) (pl : Placement) (timecode : Word) (s : State) :
    (appendFrame cut pl timecode s).take.recording.active = true → s.take.recording.active = true := by
  unfold appendFrame; dsimp only
  split
  · exact id
  split
  case isTrue records => intro _; rw [Recording.active, records]; rfl
  case isFalse => exact id

theorem appendFrame_keepsSafety (cut : Bool) (pl : Placement) (timecode : Word) (s : State) :
    KeepsSafety s (appendFrame cut pl timecode s) := by
  have play := appendFrame_play cut pl timecode s
  exact .of_play {} (by rw [play]) (by rw [play]) (appendFrame_recording cut pl timecode s)

theorem outputTests_keepsSafety (index : Option Nat) (timecode : Word) (s : State) :
    KeepsSafety s (outputTests index timecode s) := .of_blocks

theorem swapMaps_keepsSafety (s : State) : KeepsSafety s (swapMaps s) := .of_blocks

theorem playHandOn_keepsSafety {s : State} (cue : cueSupplied s.take.play) : KeepsSafety s (playHandOn s) := by
  unfold playHandOn; dsimp only; split
  case h_1 cueing =>
    split
    case isTrue passes =>
      refine .of_takes {} ⟨fun _ => ?_, id⟩ fun _ _ => cue cueing passes.1
      rw [Playback.active, cueing]; rfl
    case isFalse => exact .refl s
  case h_2 =>
    split
    · exact .of_takes {} ⟨nofun, id⟩ fun _ => takeSupplied_of_inactive rfl
    · exact .refl s
  case h_3 => exact .refl s

theorem stopTick_keepsSafety {s : State} (stopping : s.stop.safety = .stopping) : KeepsSafety s (stopTick s) := by
  have off : s.stop.safety ≠ .normal := by rw [stopping]; decide
  by_cases rest : motionAtRest s = true
  · rw [stopTick_rests rest]
    refine ⟨fun governed follows => ⟨fun away => absurd (governed away) off, ?_⟩, fun quiet _ => quiet (.inr off), id⟩
    unfold LinesFollow drivable at *
    rw [stopping] at follows; exact follows
  · by_cases late : s.stop.stopLimit ≤ satSucc 65535 s.stop.stopTimer
    · rw [stopTick_timesOut rest late]
      exact KeepsSafety.trans .of_blocks (takeCause_keepsSafety _ _)
    · rw [stopTick_waits rest (Nat.not_le.1 late)]; exact .of_blocks

theorem handOn_keepsSafety {s : State} (cue : cueSupplied s.take.play) (pl : Placement) (timecode : Word) (b : Bool)
    (r : Vector Conditioned 12) : KeepsSafety s (handOn pl timecode b r s) := by
  have tested (i : Option Nat) : KeepsSafety s (handedOn (cutByLimit r s) pl timecode i s) := by
    have same : (outputTests i timecode (appendFrame (cutByLimit r s) pl timecode s)).take.play = s.take.play := by
      simp [appendFrame_play]
    exact (appendFrame_keepsSafety (cutByLimit r s) pl timecode s).trans ((outputTests_keepsSafety i timecode _).trans
      ((playHandOn_keepsSafety (same ▸ cue)).trans (swapMaps_keepsSafety _)))
  have causes := (tested (handedIndex (cutByLimit r s) pl timecode s)).trans (takeCauses_keepsSafety (limitHits r) _)
  rw [handOn_eq]; split
  case isTrue due => exact causes.trans (stopTick_keepsSafety due.2)
  case isFalse => exact causes

theorem finishOutbound_keepsSafety (o : Outbound) (pl : Placement) (s : State) :
    KeepsSafety s (finishOutbound o pl s) := by
  obtain ⟨kept, cue⟩ := supply_keepsSafety s
  unfold finishOutbound; dsimp only
  generalize supply s = u at kept cue ⊢
  have take := storeConditioned_take (conditionAll u.2 u.1) u.1
  refine kept.trans ((storeConditioned_keepsSafety (conditionAll u.2 u.1) u.1).trans
    ((handOn_keepsSafety ?_ _ _ _ _).trans (setLink_keepsSafety _ _)))
  rw [take]; exact cue

theorem takePart_keepsSafety (s : State) : KeepsSafety s (takePart s) := by
  have take : (takePart s).take = { s.take with cueScaleNow := s.take.cueScale } := by simp
  have mode : (takePart s).mode.mode = s.mode.mode := by unfold takePart; dsimp only; split <;> rfl
  exact .of_play { mode := mode } (by rw [take]) (by rw [take]) (by rw [take]; exact id)

theorem originateSubst_keepsSafety (s : State) : KeepsSafety s (originateSubst s) := by
  unfold originateSubst; dsimp only
  exact KeepsSafety.trans .of_blocks ((takePart_keepsSafety _).trans ((placeOutbound_keepsSafety _ _ _).trans
    (finishOutbound_keepsSafety _ _ _)))

theorem goSilent_keepsSafety (s : State) : KeepsSafety s (goSilent s) := by
  unfold goSilent; dsimp only
  exact KeepsSafety.trans .of_blocks ((takeCause_keepsSafety _ _).trans (originateSubst_keepsSafety _))

/-! ## The link -/

theorem setRx_keepsSafety (p : PortId) (r : Receiver) (s : State) : KeepsSafety s (setRx p r s) := .of_blocks

theorem portError_keepsSafety (p : PortId) (k : ErrKind) (s : State) : KeepsSafety s (portError p k s) := by
  unfold portError; dsimp only
  split
  · split
    · exact (setLink_keepsSafety _ s).trans (takeCause_keepsSafety _ _)
    · exact setLink_keepsSafety _ s
  · exact .refl s

theorem afterLoss_keepsSafety (e : InFlight) (s : State) : KeepsSafety s (afterLoss e s) := by
  have lost : KeepsSafety s (lossTaken s) := by
    unfold lossTaken; split
    · exact (setLink_keepsSafety _ s).trans (takeCause_keepsSafety _ _)
    · exact setLink_keepsSafety _ s
  have noted (u : State) : KeepsSafety u
      (sendConstructed e ((u.setLink (lossNoted u.link)).mapAllLens fun _ l => emptyWindow l)) := .of_blocks
  rw [afterLoss_eq]
  exact lost.trans (noted _)

theorem loseOldest_keepsSafety (s : State) : KeepsSafety s (loseOldest s) := by
  unfold loseOldest; split
  · exact .refl s
  · exact (setLink_keepsSafety _ s).trans (afterLoss_keepsSafety _ _)

theorem loseEntries_keepsSafety (n : Nat) (s : State) : KeepsSafety s (loseEntries n s) := by
  induction n generalizing s with
  | zero => exact .refl s
  | succ n ih => exact (loseOldest_keepsSafety s).trans (ih _)

theorem expireEntries_keepsSafety (s : State) : KeepsSafety s (expireEntries s) := loseEntries_keepsSafety _ _

theorem sendNext_keepsSafety (s : State) : KeepsSafety s (sendNext s) := by
  unfold sendNext; split
  · exact .refl s
  · dsimp only; split
    · exact (setLink_keepsSafety _ s).trans ((loseOldest_keepsSafety _).trans (setLink_keepsSafety _ _))
    · exact (setLink_keepsSafety _ s).trans (setLink_keepsSafety _ _)

theorem takeIn_keepsSafety (p : PortId) (k : FrameClass) (clean : Bool) (s : State) :
    KeepsSafety s (takeIn p k clean s) := by
  unfold takeIn; dsimp only
  refine KeepsSafety.trans ?_ (setRx_keepsSafety _ _ _)
  cases k with
  | bad =>
    dsimp only; split
    · exact portError_keepsSafety _ _ s
    · exact .refl s
  | wrongKind => exact portError_keepsSafety _ _ s
  | good => exact .refl s

/-! ## Returns -/

theorem afterPass_keepsSafety (r : Option PassResult) (s : State) : KeepsSafety s (afterPass r s) := by
  unfold afterPass; split
  · exact .of_blocks
  · exact takeCause_keepsSafety _ s
  · exact .refl s

theorem evaluateZones_keepsSafety (part : Word) (s : State) : KeepsSafety s (evaluateZones part s) := by
  obtain ⟨-, -, pins, -, -, mode, -, -, -, stop, -, -, take⟩ := slowTested_frame part s
  have tested : KeepsSafety s (slowTested part s) := .of_blocks ⟨by rw [mode], by rw [stop], by rw [pins], by rw [pins]⟩ take
  rw [evaluateZones_eq]
  exact tested.trans ((takeCauses_keepsSafety (zoneStops s.geo (zonesSampled s)) _).trans
    ((setZone_keepsSafety _ (zonesStopped part s)).trans (afterPass_keepsSafety _ _)))

theorem matchedReturn_keepsSafety (e : InFlight) (f : Frame) (s : State) : KeepsSafety s (matchedReturn e f s) := by
  have caused : KeepsSafety s (returnCaused e f s) :=
    KeepsSafety.trans (setLink_keepsSafety _ s) (takeCauses_keepsSafety _ _)
  have headed : KeepsSafety s (headEvaluated e f s) := caused.trans (setGeo_keepsSafety _ _)
  obtain ⟨-, -, pins, -, mode, -, -, -, stop, take, -⟩ :=
    returnFinished_blocks e f (evaluateZones e.part (headEvaluated e f s))
  rw [matchedReturn_eq]
  exact headed.trans ((evaluateZones_keepsSafety _ _).trans
    (.of_blocks ⟨by rw [mode], by rw [stop], by rw [pins], by rw [pins]⟩ take))

theorem goodReturn_keepsSafety (f : Frame) (s : State) : KeepsSafety s (goodReturn f s) := by
  unfold goodReturn; split
  case h_1 => exact portError_keepsSafety _ _ s
  case h_2 k _ =>
    dsimp only
    have passed : KeepsSafety s (loseEntries k (deliverFeedback f s)) :=
      (mapChans_keepsSafety _ s).trans (loseEntries_keepsSafety k _)
    generalize loseEntries k (deliverFeedback f s) = u at passed ⊢
    split
    case h_1 => exact passed
    case h_2 e rest _ =>
      refine (passed.trans (setLink_keepsSafety { u.link with inFlight := rest } u)).trans
        (KeepsSafety.trans ?_ (matchedReturn_keepsSafety e f _))
      split
      · exact .refl _
      · exact portError_keepsSafety _ _ _

theorem returnFrame_keepsSafety (clean : Bool) (bytes : List Byte) (s : State) :
    KeepsSafety s (returnFrame clean bytes s) := by
  unfold returnFrame; dsimp only; split
  · exact (takeIn_keepsSafety _ _ _ s).trans (goodReturn_keepsSafety _ _)
  · exact takeIn_keepsSafety _ _ _ s

end Sys2Proof.Machine
end

section
/-! PROOFS. The safety state, the output lines and the takes over every row of the dispatcher, and SafetyLinesAndTakesKept. -/

namespace Sys2Proof.Machine
open Sys2Proof.Claims

/-! ## Requests -/

theorem answer_keepsSafety (tag code : Byte) (r : Reply) (s : State) : KeepsSafety s (answer tag code r s) := .of_blocks

/-- A request keeps what its own rule keeps where ARMING does not refuse it. -/
theorem request_keepsSafety {tag code : Byte} {body : Body} {s : State}
    (h : s.mode.mode ≠ .arming ∨ armingAccepts code = true → KeepsSafety s (body s).1) :
    KeepsSafety s (request tag code body s) := by
  by_cases untagged : tag = 0
  · rw [untagged, request_zero]; exact .refl s
  · by_cases runs : s.mode.mode ≠ .arming ∨ armingAccepts code = true
    · rw [request_runs body untagged runs]; exact (h runs).trans (answer_keepsSafety _ _ _ _)
    · simp only [ne_eq, not_or, not_not, Bool.not_eq_true] at runs
      rw [request_arming body untagged runs.1 runs.2]; exact answer_keepsSafety _ _ _ _

/-- A request whose rule keeps it in every mode. -/
theorem served_keepsSafety {tag code : Byte} {body : Body} {s : State} (h : KeepsSafety s (body s).1) :
    KeepsSafety s (request tag code body s) := request_keepsSafety fun _ => h

/-- A request that reads (R186, R189). -/
theorem reading_keepsSafety {tag code : Byte} {body : Body} {s : State} (reads : (body s).1 = s) :
    KeepsSafety s (request tag code body s) := served_keepsSafety (by rw [reads]; exact .refl s)

theorem readSingle_reads (content : State → List Byte) (index page : Byte) (s : State) :
    (readSingle content index page s).1 = s := by unfold readSingle; split <;> rfl

theorem readChannel_reads (content : Channel → LensChannel → List Byte) (index page : Byte) (s : State) :
    (readChannel content index page s).1 = s := by unfold readChannel; split <;> rfl

theorem readPort_reads (index page : Byte) (s : State) : (readPort index page s).1 = s := by
  unfold readPort; split <;> rfl

theorem readMemory_reads (index page : Byte) (s : State) : (readMemory index page s).1 = s := by
  unfold readMemory; (repeat' split) <;> rfl

theorem readEntry_reads (index page : Byte) (s : State) : (readEntry index page s).1 = s := by
  unfold readEntry; split <;> rfl

theorem setChannelBody_keepsSafety (channel cls role kind : Byte) (f : ChannelFields) (s : State) :
    KeepsSafety s (setChannelBody channel cls role kind f s).1 := by
  have written (n : Fin 12) (d : Descriptor) : KeepsSafety s (writeDescriptor n d s) := by
    unfold writeDescriptor; dsimp only; split
    · exact (mapChan_keepsSafety _ _ s).trans (mapLens_keepsSafety _ _ _)
    · exact mapChan_keepsSafety _ _ s
  unfold setChannelBody; (repeat' split)
  · exact .refl s
  · exact .refl s
  · exact .refl s
  · exact written _ _

theorem setSourceBody_keepsSafety (mask : Half) (source : Byte) (s : State) :
    KeepsSafety s (setSourceBody mask source s).1 := by
  unfold setSourceBody; (repeat' split)
  · exact .refl s
  · exact .refl s
  · exact .refl s
  · dsimp only; exact mapChans_keepsSafety _ s

theorem stageWrite_keepsSafety (tag : Byte) (offset : Half) (bytes : List Byte) (s : State) :
    KeepsSafety s (stateAfter s (execStageWrite tag offset bytes s)) := by
  have staged : KeepsSafety s (stageWriteBody offset bytes s).1 := by
    unfold stageWriteBody; split
    · exact .refl s
    · exact .of_blocks
  unfold execStageWrite stateAfter; dsimp only; split
  · exact answer_keepsSafety _ _ _ _
  · exact served_keepsSafety staged

theorem commitGeometryBody_keepsSafety (length : Half) (crc : Word) (s : State) :
    KeepsSafety s (commitGeometryBody length crc s).1 := by
  unfold commitGeometryBody; (repeat' split)
  · exact .refl s
  · exact .refl s
  · exact .refl s
  · exact .refl s
  · exact setGeo_keepsSafety _ s
  · exact .refl s

theorem commitZoneBody_keepsSafety (length : Half) (crc : Word) (s : State) :
    KeepsSafety s (commitZoneBody length crc s).1 := by
  unfold commitZoneBody; (repeat' split)
  · exact .refl s
  · exact .refl s
  · exact .refl s
  · exact .refl s
  · exact setZone_keepsSafety _ s

theorem commitMapBody_keepsSafety (channel : Byte) (length : Half) (crc : Word) (s : State) :
    KeepsSafety s (commitMapBody channel length crc s).1 := by
  unfold commitMapBody; (repeat' split)
  · exact .refl s
  · exact .refl s
  · exact .refl s
  · exact .refl s
  · exact .refl s
  · dsimp only; exact mapLens_keepsSafety _ _ s

theorem armBody_keepsSafety (s : State) : KeepsSafety s (armBody s).1 := by
  by_cases parked : s.mode.mode = .parked
  · rw [armBody_parked parked]; exact armParked_keepsSafety parked
  · rw [armBody_used parked]; exact .refl s

theorem parkBody_keepsSafety (s : State) : KeepsSafety s (parkBody s).1 := by
  unfold parkBody
  cases mode : s.mode.mode with
  | parked => exact .refl s
  | arming => dsimp only; exact abortArming_keepsSafety _ _ _ _ (by rw [mode]; decide)
  | live =>
    dsimp only; split
    · exact parkLive_keepsSafety s
    · exact .refl s

theorem stopBody_keepsSafety (s : State) : KeepsSafety s (stopBody s).1 := by
  unfold stopBody
  cases mode : s.mode.mode with
  | parked => exact .refl s
  | arming =>
    have away : (takeCause (plainCause .consoleStop) s).mode.mode ≠ .live := by
      rw [takeCause_mode rfl, mode]; decide
    dsimp only; exact (takeCause_keepsSafety _ s).trans (abortArming_keepsSafety _ _ _ _ away)
  | live => exact takeCause_keepsSafety _ s

theorem resumeBody_keepsSafety (s : State) : KeepsSafety s (resumeBody s).1 := by
  unfold resumeBody; split
  case h_1 => exact .refl s
  case h_2 live held =>
    unfold resumeHeld; split
    · exact resumed_keepsSafety live held
    · exact .refl s
  case h_3 => exact .refl s

theorem releaseFaultBody_keepsSafety (s : State) : KeepsSafety s (releaseFaultBody s).1 := by
  unfold releaseFaultBody; (repeat' split)
  · exact .refl s
  · exact .refl s
  · exact setStop_keepsSafety _ s

theorem setLinkBody_keepsSafety (x : Option LinkSettings) (s : State) : KeepsSafety s (setLinkBody x s).1 := by
  have timed (x : LinkSettings) (u : State) : KeepsSafety u (writeTimer x u) := by
    unfold writeTimer; split
    · dsimp only; split
      · exact (setLink_keepsSafety _ u).trans (goSilent_keepsSafety _)
      · exact setLink_keepsSafety _ u
    · exact (setLink_keepsSafety _ u).trans (expireEntries_keepsSafety _)
  unfold setLinkBody; split
  · exact .refl s
  · exact (setLink_keepsSafety _ s).trans (timed _ _)

theorem clearCountersBody_keepsSafety (port kinds : Byte) (s : State) :
    KeepsSafety s (clearCountersBody port kinds s).1 := by
  unfold clearCountersBody; split
  · exact .refl s
  · exact setLink_keepsSafety _ s

theorem setSyncBody_keepsSafety (cycles required : Byte) (s : State) :
    KeepsSafety s (setSyncBody cycles required s).1 := by
  unfold setSyncBody; (repeat' split)
  · exact .refl s
  · exact .refl s
  · exact .of_play {} rfl rfl id

/-- A crane that a request may set a take going in: it is neither PARKED nor ARMING, and in NORMAL (R133, R142). -/
theorem liveNormal {s : State} (still : s.mode.mode ≠ .arming)
    (ready : ¬ (s.mode.mode = .parked ∨ s.stop.safety ≠ .normal)) :
    s.mode.mode = .live ∧ s.stop.safety = .normal := by
  rw [not_or, not_not] at ready
  refine ⟨?_, ready.2⟩
  cases mode : s.mode.mode with
  | parked => exact absurd mode ready.1
  | arming => exact absurd mode still
  | live => rfl

/-- An operation that begins a take in a LIVE crane in NORMAL. -/
theorem KeepsSafety.of_beginning {s t : State} (ready : s.mode.mode = .live ∧ s.stop.safety = .normal)
    (drives : DrivesStand s t) (supplied : takeSupplied s → takeSupplied t) : KeepsSafety s t where
  lines := drives.lines
  quiet _ off := by
    rcases off with off | off
    · exact absurd (drives.mode.trans ready.1) off
    · exact absurd (drives.safety.trans ready.2) off
  supplied := supplied

theorem recordBody_keepsSafety (take mask : Half) {s : State} (still : s.mode.mode ≠ .arming) :
    KeepsSafety s (recordBody take mask s).1 := by
  unfold recordBody; split
  case isTrue => exact .refl s
  case isFalse ready =>
    split
    · exact .refl s
    · exact .of_beginning (liveNormal still ready) ⟨rfl, rfl, rfl, rfl⟩ id
    · exact .refl s

theorem recordEndBody_keepsSafety (s : State) : KeepsSafety s (recordEndBody s).1 := by
  unfold recordEndBody; dsimp only; split
  case h_1 => exact .refl s
  case h_2 => exact .of_play ⟨rfl, rfl, rfl, rfl⟩ rfl rfl nofun
  case h_3 records =>
    split
    · exact .of_play ⟨rfl, rfl, rfl, rfl⟩ rfl rfl nofun
    · exact .of_play ⟨rfl, rfl, rfl, rfl⟩ rfl rfl id

theorem markBody_keepsSafety (s : State) : KeepsSafety s (markBody s).1 := by
  unfold markBody; dsimp only; (repeat' split)
  · exact .refl s
  · exact .refl s
  · exact .refl s
  · exact setStore_keepsSafety _ s

/-- A CUE leaves its playback CUEING (R143). -/
theorem beginCue_state (i : Fin 32) (mark : Nat) (s : State) : (beginCue i mark s).take.play.state = .cueing := by
  unfold beginCue; dsimp only
  obtain ⟨k, take⟩ := startRead_play
    (compareMaps s.store.dir[i] (s.setTake { s.take with play := cuePlay i s.store.dir[i] mark }))
  rw [take]; rfl

theorem beginCue_drives (i : Fin 32) (mark : Nat) (s : State) : DrivesStand s (beginCue i mark s) := by
  unfold beginCue compareMaps
  exact {}

theorem cueBody_keepsSafety (take : Half) (mark : Byte) {s : State} (still : s.mode.mode ≠ .arming) :
    KeepsSafety s (cueBody take mark s).1 := by
  unfold cueBody; split
  case isTrue => exact .refl s
  case isFalse ready =>
    split
    · exact .refl s
    · exact .refl s
    · dsimp only
      split
      · exact .refl s
      split
      · exact .refl s
      · refine .of_beginning (liveNormal still ready) (beginCue_drives _ _ s) fun _ playing => ?_
        rw [beginCue_state] at playing
        rcases playing with playing | playing <;> cases playing

theorem setTriggerBody_keepsSafety (kind : Byte) (timecode : Word) (scale : Half) (s : State) :
    KeepsSafety s (setTriggerBody kind timecode scale s).1 := by
  unfold setTriggerBody; split
  · exact .refl s
  · refine .of_play ⟨rfl, rfl, rfl, rfl⟩ ?_ ?_ id
    · simp only [writeTrigger, State.setTake_take]; split <;> rfl
    · simp only [writeTrigger, State.setTake_take]; split <;> rfl

theorem goBody_keepsSafety (s : State) : KeepsSafety s (goBody s).1 := by
  by_cases refused : s.mode.mode = .parked ∨ s.take.play.state ≠ .cued
  · rw [goBody_refused refused]; exact .refl s
  · rw [not_or, not_not] at refused
    rw [goBody_cued refused.1 refused.2]; split
    · exact .refl s
    · exact startPlay_keepsSafety refused.2

theorem abortPlay_keepsSafety (r : AbortReason) (s : State) : KeepsSafety s (abortPlay r s) := by
  have take := abortPlay_take r s
  refine .of_takes {} ⟨?_, ?_⟩ fun _ => takeSupplied_of_inactive ?_ <;> rw [take]
  · exact nofun
  · exact id
  · rfl

theorem abortActive_keepsSafety (r : AbortReason) (s : State) : KeepsSafety s (abortActive r s) := by
  unfold abortActive; split
  · exact abortPlay_keepsSafety r s
  · exact .refl s

theorem deleteTakeBody_keepsSafety (take : Half) (s : State) : KeepsSafety s (deleteTakeBody take s).1 := by
  unfold deleteTakeBody; dsimp only; (repeat' split)
  · exact .refl s
  · exact .refl s
  · exact .refl s
  · exact .refl s
  · exact .refl s
  · exact setStore_keepsSafety _ s

theorem formatBody_keepsSafety (s : State) : KeepsSafety s (formatBody s).1 := by
  unfold formatBody; split
  · exact .refl s
  · exact setStore_keepsSafety _ s

theorem setMemoryBody_keepsSafety (singles : Byte) (s : State) : KeepsSafety s (setMemoryBody singles s).1 := by
  unfold setMemoryBody; split
  · exact .refl s
  · exact setStore_keepsSafety _ s

theorem lensCalibrateBody_keepsSafety (channel : Byte) (s : State) : KeepsSafety s (lensCalibrateBody channel s).1 := by
  unfold lensCalibrateBody; (repeat' split)
  · exact .refl s
  · exact .refl s
  · exact .refl s
  · exact .refl s
  · exact mapLens_keepsSafety _ _ s

theorem armCaptureBody_keepsSafety (kind channel : Byte) (value : Word) (direction scope : Byte) (s : State) :
    KeepsSafety s (armCaptureBody kind channel value direction scope s).1 := by
  unfold armCaptureBody; (repeat' split)
  · exact .refl s
  · exact .refl s
  · exact setCapture_keepsSafety _ s

/-- A request keeps the safety state, the lines and the takes, whichever it is. -/
theorem runRequest_keepsSafety (i : Instr) (s : State) : KeepsSafety s (runRequest i s) := by
  cases i with
  | identify => exact reading_keepsSafety rfl
  | readStatusCrane => exact reading_keepsSafety (readSingle_reads _ _ _ s)
  | readStatusChannel => exact reading_keepsSafety (readChannel_reads _ _ _ s)
  | readStatusPort => exact reading_keepsSafety (readPort_reads _ _ s)
  | readStatusSafety => exact reading_keepsSafety (readSingle_reads _ _ _ s)
  | readStatusFaultRecord => exact reading_keepsSafety (readSingle_reads _ _ _ s)
  | readStatusCaptureRecord => exact reading_keepsSafety (readSingle_reads _ _ _ s)
  | readStatusMemory => exact reading_keepsSafety (readMemory_reads _ _ s)
  | readStatusDirectoryEntry => exact reading_keepsSafety (readEntry_reads _ _ s)
  | readStatusPlayStatus => exact reading_keepsSafety (readSingle_reads _ _ _ s)
  | readStatusSelfCheck => exact reading_keepsSafety (readSingle_reads _ _ _ s)
  | readStatusLensChannel => exact reading_keepsSafety (readChannel_reads _ _ _ s)
  | readStatusLastReply => exact reading_keepsSafety (readSingle_reads _ _ _ s)
  | setChannel => exact served_keepsSafety (setChannelBody_keepsSafety _ _ _ _ _ s)
  | setSource => exact served_keepsSafety (setSourceBody_keepsSafety _ _ s)
  | stageWrite => exact stageWrite_keepsSafety _ _ _ s
  | commitGeometry => exact served_keepsSafety (commitGeometryBody_keepsSafety _ _ s)
  | commitZoneShadow => exact served_keepsSafety (commitZoneBody_keepsSafety _ _ s)
  | commitLensMap => exact served_keepsSafety (commitMapBody_keepsSafety _ _ _ s)
  | zoneSwap => exact served_keepsSafety (setZone_keepsSafety _ s)
  | arm => exact served_keepsSafety (armBody_keepsSafety s)
  | park => exact served_keepsSafety (parkBody_keepsSafety s)
  | stop => exact served_keepsSafety (stopBody_keepsSafety s)
  | resume => exact served_keepsSafety (resumeBody_keepsSafety s)
  | releaseFault => exact served_keepsSafety (releaseFaultBody_keepsSafety s)
  | setStop => exact served_keepsSafety (setStop_keepsSafety _ s)
  | setLink => exact served_keepsSafety (setLinkBody_keepsSafety _ s)
  | clearCounters => exact served_keepsSafety (clearCountersBody_keepsSafety _ _ s)
  | setSync => exact served_keepsSafety (setSyncBody_keepsSafety _ _ s)
  | record => exact request_keepsSafety fun runs => recordBody_keepsSafety _ _ (runs.resolve_right (by decide))
  | recordEnd => exact served_keepsSafety (recordEndBody_keepsSafety s)
  | mark => exact served_keepsSafety (markBody_keepsSafety s)
  | cue => exact request_keepsSafety fun runs => cueBody_keepsSafety _ _ (runs.resolve_right (by decide))
  | setTrigger => exact served_keepsSafety (setTriggerBody_keepsSafety _ _ _ s)
  | go => exact served_keepsSafety (goBody_keepsSafety s)
  | abortPlay => exact served_keepsSafety (abortActive_keepsSafety _ s)
  | deleteTake => exact served_keepsSafety (deleteTakeBody_keepsSafety _ s)
  | format => exact served_keepsSafety (formatBody_keepsSafety s)
  | releaseMemoryError => exact served_keepsSafety (setStore_keepsSafety _ s)
  | setMemory => exact served_keepsSafety (setMemoryBody_keepsSafety _ s)
  | lensCalibrate => exact served_keepsSafety (lensCalibrateBody_keepsSafety _ s)
  | setEmbed => exact served_keepsSafety (setCapture_keepsSafety _ s)
  | armCapture => exact served_keepsSafety (armCaptureBody_keepsSafety _ _ _ _ _ s)
  | releaseCapture => exact served_keepsSafety (setCapture_keepsSafety _ s)
  | softReset => exact served_keepsSafety (softReset_keepsSafety s)
  | _ => exact .refl s

/-! ## Console frames -/

theorem serve_keepsSafety (field : List Byte) (s : State) : KeepsSafety s (serve field s) := by
  have rejected (tag code : Byte) (why : Reject) : KeepsSafety s (rejectRequest tag code why s) := by
    cases why with
    | tooLong | unknownCode | wrongLength => exact answer_keepsSafety _ _ _ s
    | badSelector | badTarget => exact reading_keepsSafety rfl
  unfold serve; split
  · exact .refl s
  · exact runRequest_keepsSafety _ s
  · exact rejected _ _ _

theorem takeFlags_keepsSafety (flags : Byte) (s : State) : KeepsSafety s (takeFlags flags s) := by
  have stopReq : KeepsSafety s (stopReqArrives flags s) := by
    unfold stopReqArrives; split
    · exact takeCause_keepsSafety _ s
    · exact .refl s
  have grip (u : State) : KeepsSafety u (gripArrives flags u) := by
    unfold gripArrives; split
    · exact takeCause_keepsSafety _ u
    · exact .refl u
  have resume (u : State) : KeepsSafety u (autoResume flags u) := by
    unfold autoResume; split
    case isTrue due =>
      obtain ⟨live, held, -⟩ := due
      exact (resumed_keepsSafety live held).trans (setStop_keepsSafety _ _)
    case isFalse => exact .refl u
  unfold takeFlags
  exact (stopReq.trans (grip _)).trans ((setStop_keepsSafety _ _).trans (resume _))

theorem adoptConsole_keepsSafety (f : Frame) (s : State) : KeepsSafety s (adoptConsole f s) := by
  unfold adoptConsole
  exact (setLink_keepsSafety _ s).trans ((takePart_keepsSafety _).trans (setLink_keepsSafety _ _))

theorem goodConsole_keepsSafety (f : Frame) (s : State) : KeepsSafety s (goodConsole f s) := by
  unfold goodConsole; dsimp only
  exact ((adoptConsole_keepsSafety f s).trans ((takeFlags_keepsSafety _ _).trans (placeOutbound_keepsSafety _ _ _))).trans
    ((serve_keepsSafety _ _).trans (finishOutbound_keepsSafety _ _ _))

theorem consoleFrame_keepsSafety (clean : Bool) (bytes : List Byte) (s : State) :
    KeepsSafety s (consoleFrame clean bytes s) := by
  have bad (u : State) : KeepsSafety u (badConsole u) := by
    unfold badConsole; split
    · exact .refl u
    · exact originateSubst_keepsSafety u
  unfold consoleFrame; dsimp only
  refine ((settleDecision_keepsSafety s).trans
    (takeIn_keepsSafety .c (classify kindCycle clean bytes) clean _)).trans ?_
  split
  · refine KeepsSafety.trans ?_ ((setLink_keepsSafety _ _).trans (goodConsole_keepsSafety _ _))
    split
    · exact portError_keepsSafety _ _ _
    · exact .refl _
  · exact (setLink_keepsSafety _ _).trans (bad _)

/-! ## Events -/

/-- What an outcome leaves of the safety state, the lines and the takes. -/
def outcomeKeepsSafety (s : State) (o : Outcome) : Prop := ∀ t, o = .next t → KeepsSafety s t

theorem outcomeKeepsSafety_next {s t : State} (h : KeepsSafety s t) : outcomeKeepsSafety s (.next t) :=
  fun _ e => by cases e; exact h

/-- A choice between an effect and none. -/
theorem ite_keepsSafety {p : Prop} [Decidable p] {s t : State} (h : p → KeepsSafety s t) :
    KeepsSafety s (if p then t else s) := by
  split
  · exact h ‹_›
  · exact .refl s

theorem prefetch_keepsSafety (errors : List WordRead) (s : State) :
    outcomeKeepsSafety s (execPrefetchReadComplete errors s) := by
  have queued (q : QueuedRecord) (u : State) : KeepsSafety u (queueRecord q u) := by
    unfold queueRecord; dsimp only; split
    · exact abortPlay_keepsSafety _ u
    · exact .of_play {} rfl rfl id
  unfold execPrefetchReadComplete; split
  case h_1 => exact outcomeKeepsSafety_next (.refl s)
  case h_2 r _ =>
    refine outcomeKeepsSafety_next ((setStore_keepsSafety (deliver s.link.part errors r s.store).1 s).trans
      (KeepsSafety.trans ?_ (startRead_keepsSafety _)))
    split
    · exact queued _ _
    · exact .refl _

/-- Every row of the dispatcher keeps the safety state, the lines and the takes. -/
theorem exec_keepsSafety (i : Instr) (s : State) : outcomeKeepsSafety s (exec i s) := by
  have served (j : Instr) (h : exec j s = .next (runRequest j s)) : outcomeKeepsSafety s (exec j s) :=
    h ▸ outcomeKeepsSafety_next (runRequest_keepsSafety j s)
  cases i with
  | consoleFrameArrival elapsed clean bytes =>
    exact outcomeKeepsSafety_next ((setTimer_keepsSafety _ s).trans
      (ite_keepsSafety fun _ => consoleFrame_keepsSafety _ _ _))
  | outboundFrameSent elapsed =>
    exact outcomeKeepsSafety_next ((setTimer_keepsSafety _ s).trans (sendNext_keepsSafety _))
  | returnArrival elapsed crew clean bytes =>
    exact outcomeKeepsSafety_next (((setTimer_keepsSafety _ s).trans (setPins_keepsSafety _ _)).trans
      (ite_keepsSafety fun _ => returnFrame_keepsSafety _ _ _))
  | crewLineRelease line =>
    exact outcomeKeepsSafety_next (ite_keepsSafety fun _ =>
      (setZone_keepsSafety _ s).trans (setPins_keepsSafety _ _))
  | returnTimeout =>
    unfold exec execReturnTimeout; dsimp only; split
    · exact outcomeKeepsSafety_next (.refl s)
    · exact outcomeKeepsSafety_next ((setTimer_keepsSafety _ s).trans (expireEntries_keepsSafety _))
  | feedbackLost =>
    unfold exec execFeedbackLost; dsimp only; split
    · exact outcomeKeepsSafety_next (.refl s)
    · exact outcomeKeepsSafety_next (ite_keepsSafety fun _ =>
        (setTimer_keepsSafety _ s).trans (loseOldest_keepsSafety _))
  | consoleSilenceTimeout =>
    unfold exec execConsoleSilenceTimeout; dsimp only; refine outcomeKeepsSafety_next ?_; split
    · exact .refl s
    · exact ((setTimer_keepsSafety _ s).trans (settleDecision_keepsSafety _)).trans (goSilent_keepsSafety _)
  | substPeriodElapsed =>
    exact outcomeKeepsSafety_next (ite_keepsSafety fun _ =>
      ((setTimer_keepsSafety _ s).trans (settleDecision_keepsSafety _)).trans (originateSubst_keepsSafety _))
  | codeGroupReceived port valid =>
    unfold exec execCodeGroupReceived; dsimp only; refine outcomeKeepsSafety_next ?_; split
    · exact setRx_keepsSafety _ _ s
    · exact (portError_keepsSafety _ _ s).trans (setRx_keepsSafety _ _ _)
  | linkFault port kind => exact outcomeKeepsSafety_next (ite_keepsSafety fun _ => portError_keepsSafety _ _ s)
  | stopTimeout => exact outcomeKeepsSafety_next (ite_keepsSafety fun due => stopTick_keepsSafety due.2.1)
  | calibrationTimeLimit n =>
    exact outcomeKeepsSafety_next (ite_keepsSafety fun _ =>
      (mapChan_keepsSafety n _ s).trans (mapLens_keepsSafety n _ _))
  | playbackData => exact outcomeKeepsSafety_next (ite_keepsSafety fun _ => playFrame_keepsSafety s)
  | armingDecision => exact outcomeKeepsSafety_next (settleDecision_keepsSafety s)
  | refPulse heldFor => exact outcomeKeepsSafety_next (ite_keepsSafety fun _ => .of_play {} rfl rfl id)
  | flywheelFrameStart => exact outcomeKeepsSafety_next (ite_keepsSafety fun _ => placeAhead_keepsSafety s)
  | refLost => exact outcomeKeepsSafety_next (ite_keepsSafety fun _ => placeAhead_keepsSafety s)
  | triggerEdge heldFor => exact outcomeKeepsSafety_next (ite_keepsSafety fun _ => .of_play {} rfl rfl id)
  | estopInOpen heldFor =>
    exact outcomeKeepsSafety_next (ite_keepsSafety fun _ =>
      (setPins_keepsSafety _ s).trans (takeCause_keepsSafety _ _))
  | estopInClose heldFor => exact outcomeKeepsSafety_next (ite_keepsSafety fun _ => setPins_keepsSafety _ s)
  | supplyWarnChange level => exact outcomeKeepsSafety_next (ite_keepsSafety fun _ => setPins_keepsSafety _ s)
  | supplyFailAssert heldFor =>
    exact outcomeKeepsSafety_next (ite_keepsSafety fun _ =>
      (setPins_keepsSafety _ s).trans (takeCause_keepsSafety _ _))
  | supplyFailDeassert heldFor => exact outcomeKeepsSafety_next (ite_keepsSafety fun _ => setPins_keepsSafety _ s)
  | pinReset heldFor => exact outcomeKeepsSafety_next (ite_keepsSafety fun _ => resetPart_keepsSafety s)
  | formatBlockTested errors differ =>
    exact outcomeKeepsSafety_next (ite_keepsSafety fun _ => setStore_keepsSafety _ s)
  | prefetchReadComplete errors => exact prefetch_keepsSafety errors s
  | _ => exact served _ rfl

/-- Every step keeps the safety state, the lines and the takes. -/
theorem step_keepsSafety {s t : State} (h : step s = .next t) : KeepsSafety s t := by
  unfold step at h
  split at h
  · cases h; exact .refl s
  · exact (KeepsSafety.of_blocks (s := s) (t := s.setPending _)).trans (exec_keepsSafety _ _ t h)

end Sys2Proof.Machine

namespace Sys2Proof.Proofs
open Sys2Proof.Machine Sys2Proof.Claims

/-- Settles O56: every operation keeps the safety state with its lines, the quiet of the takes and the record behind a
playback, so every row of the dispatcher does. -/
theorem safetyLinesAndTakesKept : Obligations.SafetyLinesAndTakesKept :=
  ⟨fun _ _ governed follows stepped => (step_keepsSafety stepped).lines governed follows,
    fun _ _ quiet stepped => (step_keepsSafety stepped).quiet quiet,
    fun _ _ supplied stepped => (step_keepsSafety stepped).supplied supplied⟩

end Sys2Proof.Proofs
end

section
/-! PROOFS. The lines' events, STOP, RESUME and RELEASE_FAULT, the stop timer at its limit, and the flags of a console
frame (sections 4.4 to 4.9). -/

namespace Sys2Proof.Machine
open Sys2Proof.Claims

/-! ## STOP -/

theorem stopBody_parked {s : State} (parked : s.mode.mode = .parked) : stopBody s = (s, plain .ok) := by
  unfold stopBody; rw [parked]; rfl

theorem stopBody_live {s : State} (live : s.mode.mode = .live) :
    stopBody s = (takeCause (plainCause .consoleStop) s, plain .ok) := by unfold stopBody; rw [live]

/-- STOP in ARMING: its cause is noted, and ends no arming itself (R65, R197). -/
theorem stopBody_arming {s : State} (arming : s.mode.mode = .arming) :
    stopBody s = (armingEnded (causeNoted (plainCause .consoleStop) s) .aborted .stop s.mode.check.checks
      s.mode.check.detail, plain .ok) := by
  have noted : takeCause (plainCause .consoleStop) s = causeNoted (plainCause .consoleStop) s :=
    takeCause_arming (plainCause .consoleStop) arming
  unfold stopBody
  rw [arming]
  dsimp only
  rw [noted, abortArming_eq]
  rfl

/-! ## The stop timer at its limit -/

/-- Whether the stop timer's next step times out with an axis still moving (R71). -/
theorem stopTimeout_due (s : State) :
    (s.mode.mode = .live ∧ s.stop.safety = .stopping ∧ motionAtRest s = false ∧
      s.stop.stopLimit ≤ satSucc 65535 s.stop.stopTimer) ↔
    s.mode.mode = .live ∧ s.stop.safety = .stopping ∧
      (∃ n : Fin 12, (s.cond.chans[n]).desc.cls = .motion ∧ (s.cond.chans[n]).outVel ≠ 0) ∧
      s.stop.stopLimit ≤ min (s.stop.stopTimer + 1) 65535 := by
  rw [← Bool.not_eq_true, motionAtRest_iff, not_not]; rfl

/-- The stop timer stepped once more (R71). -/
def stopStepped (s : State) : State := s.setStop { s.stop with stopTimer := satSucc 65535 s.stop.stopTimer }

/-- STOP_TIMEOUT drops the drives of a crane in STOPPING, and touches no take: the stop has already ended them (R68). -/
theorem stopTimeout_drops {s : State} (live : s.mode.mode = .live) (stopping : s.stop.safety = .stopping) :
    let t := takeCause (plainCause .stopTimeout) (stopStepped s)
    t = { s with stop := t.stop, pins := t.pins, capture := t.capture, lens := t.lens } ∧
    t.stop.safety = .dropped ∧ t.stop.stopTimer = min (s.stop.stopTimer + 1) 65535 ∧
    t.pins = { s.pins with estopOutClosed := false, brakeReleased := false } ∧
    t.stop.fault = some (faultEntered (plainCause .stopTimeout) (stopStepped s)) := by
  intro t
  have up : (stopStepped s).stop.safety ≠ .dropped := by
    rw [show (stopStepped s).stop.safety = s.stop.safety from rfl, stopping]; decide
  have off : (stopStepped s).stop.safety ≠ .normal := by
    rw [show (stopStepped s).stop.safety = s.stop.safety from rfl, stopping]; decide
  have live' : (stopStepped s).mode.mode = .live := live
  have drops : t = enterDropped (causeNoted (plainCause .stopTimeout) (stopStepped s)) :=
    takeCause_immediate live' rfl up
  obtain ⟨cond, take, store⟩ := Proofs.live_elsewhere (plainCause .stopTimeout) live' off
  obtain ⟨pending, timer, link, service, geo, zone⟩ := takeCause_frame (plainCause .stopTimeout) (stopStepped s)
  have mode := takeCause_mode_live (plainCause .stopTimeout) live'
  refine ⟨State.eq_of_blocks pending timer rfl link service mode cond geo zone rfl rfl store take rfl, ?_, ?_, ?_,
    Proofs.noted_fault _ (by rw [live']; decide)⟩
  · rw [drops, enterDropped_stop]
  · rw [drops, enterDropped_stop]; rfl
  · rw [drops, enterDropped_pins]; rfl

/-- What the record shows once a later or a first cause has been entered (R85, R86). -/
theorem faultEntered_shows (c : Cause) (s : State) :
    (s.stop.fault = none → (faultEntered c s).cause = c) ∧
    (s.stop.fault ≠ none → (faultEntered c s).lastLater = some (c.name, s.link.part)) := by
  unfold faultEntered
  cases s.stop.fault with
  | none => exact ⟨fun _ => rfl, fun some_ => absurd rfl some_⟩
  | some r => exact ⟨nofun, fun _ => rfl⟩

/-! ## The standing conditions -/

/-- No condition stands exactly where none of the six does (R77). -/
theorem standing_nil_iff (grip : Bool) (s : State) :
    standing grip s = [] ↔
      s.zone.stopSet = [] ∧ grip = true ∧ s.link.consoleAbsent = false ∧ s.link.feedbackLost = false ∧
      s.pins.estopInClosed = true ∧ s.pins.supplyFail = false := by
  unfold standing
  cases s.zone.stopSet <;> simp

/-- The automatic resume by its conditions (R79). -/
theorem autoResume_due (flags : Byte) (s : State) :
    (s.mode.mode = .live ∧ s.stop.safety = .held ∧ s.stop.softStop = true ∧ gripFlag flags = true ∧
      standing true s = []) ↔
    s.mode.mode = .live ∧ s.stop.safety = .held ∧ s.stop.softStop = true ∧ flags.getLsbD 1 = true ∧
      s.zone.stopSet = [] ∧ s.link.consoleAbsent = false ∧ s.link.feedbackLost = false ∧
      s.pins.estopInClosed = true ∧ s.pins.supplyFail = false := by
  rw [standing_nil_iff, gripFlag]; simp only [true_and]

theorem autoResume_eq (flags : Byte) (s : State) :
    autoResume flags s =
      if s.mode.mode = .live ∧ s.stop.safety = .held ∧ s.stop.softStop = true ∧ flags.getLsbD 1 = true ∧
          s.zone.stopSet = [] ∧ s.link.consoleAbsent = false ∧ s.link.feedbackLost = false ∧
          s.pins.estopInClosed = true ∧ s.pins.supplyFail = false then
        { s with
          stop := { s.stop with
            safety := .normal, softStop := false, stopReqMemory := false
            autoResumes := min (s.stop.autoResumes + 1) 65535 }
          cond := { s.cond with resumeCatch := true } }
      else s := by
  unfold autoResume
  exact if_congr (autoResume_due flags s) rfl rfl

/-! ## RESUME and RELEASE_FAULT -/

theorem resumeBody_normal {s : State} (live : s.mode.mode = .live) (normal : s.stop.safety = .normal) :
    resumeBody s = (s, plain .ok) := by unfold resumeBody; rw [live, normal]; rfl

theorem resumeBody_held {s : State} (live : s.mode.mode = .live) (held : s.stop.safety = .held) :
    resumeBody s = resumeHeld s := by unfold resumeBody; rw [live, held]

theorem resumeBody_away {s : State} (away : s.mode.mode = .live →
    s.stop.safety = .stopping ∨ s.stop.safety = .dropped) : resumeBody s = (s, plain .refusedMode) := by
  unfold resumeBody; split
  case h_1 live normal => rcases away live with off | off <;> rw [normal] at off <;> cases off
  case h_2 live held => rcases away live with off | off <;> rw [held] at off <;> cases off
  case h_3 => rfl

/-- The first standing condition refuses a RESUME in HELD (R77, R185). -/
theorem resume_refused {tag : Byte} {s : State} (tagged : tag ≠ 0) (live : s.mode.mode = .live)
    (held : s.stop.safety = .held) {x : Standing} {rest : List Standing}
    (first : standing s.stop.gripMemory s = x :: rest) :
    exec (.resume tag) s = .next (answer tag 0x23
      { result := .refusedCondition, data := [BitVec.ofNat 8 x.code, BitVec.ofNat 8 x.zoneId] } s) := by
  refine congrArg Host.Outcome.next
    ((request_runs resumeBody tagged (.inl (by rw [live]; decide))).trans ?_)
  rw [resumeBody_held live held, resumeHeld, first]; rfl

/-- Where no condition stands, a RESUME in HELD resumes the crane (R78). -/
theorem resume_taken {tag : Byte} {s : State} (tagged : tag ≠ 0) (live : s.mode.mode = .live)
    (held : s.stop.safety = .held) (clear : standing s.stop.gripMemory s = []) :
    exec (.resume tag) s = replied tag 0x23 .ok (resumed s) :=
  request_replied tagged (.inl (by rw [live]; decide)) (by rw [resumeBody_held live held, resumeHeld, clear])

theorem releaseFaultBody_empty {s : State} (empty : s.stop.fault = none) : releaseFaultBody s = (s, plain .ok) := by
  unfold releaseFaultBody; rw [empty]; rfl

theorem releaseFaultBody_locked {s : State} (locked : s.stop.fault ≠ none) :
    releaseFaultBody s =
      if s.mode.mode = .live ∧ s.stop.safety ≠ .held then (s, plain .refusedMode)
      else (s.setStop { s.stop with fault := none }, plain .ok) :=
  if_neg (by simpa using locked)

end Sys2Proof.Machine

namespace Sys2Proof.Proofs
open Sys2Proof.Machine Sys2Proof.Claims

/-- Settles O54: each line event, its operations on the pins, the play state and the causes written out. -/
theorem lineEventsTaken : Obligations.LineEventsTaken := fun _ _ => ⟨rfl, rfl, fun _ => rfl, rfl, rfl, rfl⟩

/-- Settles O29: RESUME by mode and safety state, in HELD by the first standing condition in the order of R77; then
RELEASE_FAULT by its record. -/
theorem resumeAndReleaseTaken : Obligations.ResumeAndReleaseTaken := by
  constructor
  · intro tag s tagged held
    have served (still : s.mode.mode ≠ .arming) : s.mode.mode ≠ .arming ∨ armingAccepts 0x23 = true := .inl still
    refine ⟨fun parked => ?_, fun arming => request_refusedInArming _ tagged arming rfl, fun live normal => ?_,
      fun live off => ?_, fun live isHeld => ?_⟩
    · exact request_replied tagged (served (by rw [parked]; decide))
        (resumeBody_away fun live => by rw [parked] at live; cases live)
    · exact request_replied tagged (served (by rw [live]; decide)) (resumeBody_normal live normal)
    · exact request_replied tagged (served (by rw [live]; decide)) (resumeBody_away fun _ => off)
    have refused {x : Standing} {rest : List Standing} (first : standing s.stop.gripMemory s = x :: rest) :
        held (BitVec.ofNat 8 x.code) (BitVec.ofNat 8 x.zoneId) := resume_refused tagged live isHeld first
    refine ⟨fun z rest stops => refused (x := .zone z) (by rw [standing, stops]; rfl), fun zones => ⟨fun grip => ?_,
      fun grip => ⟨fun console => ?_, fun console => ⟨fun feedback => ?_, fun feedback => ⟨fun estop => ?_,
        fun estop => ⟨fun supply => ?_, fun supply => ?_⟩⟩⟩⟩⟩⟩
    · exact refused (x := .grip) (by rw [standing, zones, grip]; rfl)
    · exact refused (x := .console) (by rw [standing, zones, grip, console]; rfl)
    · exact refused (x := .feedback) (by rw [standing, zones, grip, console, feedback]; rfl)
    · exact refused (x := .estop) (by rw [standing, zones, grip, console, feedback, estop]; rfl)
    · exact refused (x := .supply) (by rw [standing, zones, grip, console, feedback, estop, supply]; rfl)
    · exact resume_taken tagged live isHeld
        ((standing_nil_iff _ s).2 ⟨zones, grip, console, feedback, estop, supply⟩)
  · intro tag s tagged
    refine ⟨fun arming => request_refusedInArming _ tagged arming rfl, fun still empty => ?_,
      fun live locked off => ?_, fun locked ready => ?_⟩
    · exact request_replied tagged (.inl still) (releaseFaultBody_empty empty)
    · exact request_replied tagged (.inl (by rw [live]; decide))
        ((releaseFaultBody_locked locked).trans (if_pos ⟨live, off⟩))
    · refine request_replied tagged (.inl ?_) ((releaseFaultBody_locked locked).trans (if_neg ?_))
      · rcases ready with parked | ⟨live, -⟩
        · rw [parked]; decide
        · rw [live]; decide
      · rintro ⟨live, off⟩
        rcases ready with parked | ⟨-, held⟩
        · rw [parked] at live; cases live
        · exact off held

/-- Settles O28: STOP by mode, STOP_TIMEOUT where it is due, and the flags of a console frame one after the other. -/
theorem stopAndTimeoutTaken : Obligations.StopAndTimeoutTaken := by
  refine ⟨fun tag s tagged => ?_, fun s => ⟨fun early => ?_, fun due => ?_⟩, fun flags s => ?_⟩
  · have served : s.mode.mode ≠ .arming ∨ armingAccepts 0x22 = true := .inr rfl
    refine ⟨fun parked => request_replied tagged served (stopBody_parked parked),
      fun live => request_replied tagged served (stopBody_live live), fun arming => ?_⟩
    exact ⟨_, handCause_testedFor (plainCause .consoleStop) s, request_replied tagged served (stopBody_arming arming)⟩
  · exact congrArg Host.Outcome.next (if_neg fun now => early ((stopTimeout_due s).1 now))
  · obtain ⟨live, stopping, moves, late⟩ := (stopTimeout_due s).2 due
    obtain ⟨blocks, safety, timer, pins, fault⟩ := stopTimeout_drops live stopping
    obtain ⟨first, later⟩ := faultEntered_shows (plainCause .stopTimeout) (stopStepped s)
    refine ⟨_, ?_, blocks, safety, timer, pins, _, fault, fun empty => by rw [first empty]; rfl, later⟩
    refine congrArg Host.Outcome.next ((if_pos ⟨live, stopping, moves, late⟩).trans ?_)
    exact stopTick_timesOut (by rw [moves]; decide) late
  · exact autoResume_eq flags _

end Sys2Proof.Proofs
end

section
/-! PROOFS. ReturnChecksDrop: an immediate cause among a return's own drops the drives (R68, R175). -/

namespace Sys2Proof.Machine
open Sys2Proof.Claims

/-- An immediate cause among those taken leaves a LIVE crane in DROPPED (R68). -/
theorem takeCauses_dropped {c : Cause} {cs : List Cause} (among : c ∈ cs) (immediate : c.name.cls = .i) {s : State}
    (live : s.mode.mode = .live) : (takeCauses cs s).stop.safety = .dropped := by
  induction cs generalizing s with
  | nil => cases among
  | cons d ds ih =>
    rcases List.mem_cons.1 among with rfl | later
    · exact (takeCauses_passes ds _).dropped ((takeCause_stops c live).2.2 immediate)
    · exact ih later ((takeCause_passes d s).live.2 live)

/-- What R175 finds against the return of a frame in one slot: an error past the channel's limit, or a drive that is
neither READY nor NOT_READY. -/
def slotFails (d : Descriptor) (sent : SentSlot) (slot : Slot) : Prop :=
  (d.followLimit ≠ 0 ∧ sent.calibrated = false ∧ d.followLimit < (sent.value - slot.value.toInt).natAbs) ∨
  (slot.flag.extractLsb' 4 4 ≠ (1 : BitVec 4) ∧ slot.flag.extractLsb' 4 4 ≠ (2 : BitVec 4))

/-- A slot that fails a test of R175 raises an immediate cause. -/
theorem slotCauses_immediate {s : State} {e : InFlight} {f : Frame} {n : Fin 12}
    (used : (s.cond.chans[n]).desc.cls ≠ .unused) (enabled : (e.outputs[n]).enable = true)
    (fails : slotFails (s.cond.chans[n]).desc e.outputs[n] f.slots[n]) :
    ∃ c ∈ slotCauses s e f n, c.name.cls = .i := by
  have sent : ((s.chan n).used && (e.outputs[n]).enable) = true :=
    Bool.and_eq_true_iff.2 ⟨(Channel.used_iff _).2 used, enabled⟩
  unfold slotCauses
  dsimp only
  rw [if_pos sent]
  rcases fails with beyond | status
  · rw [if_pos (show (s.chan n).desc.followLimit ≠ 0 ∧ _ ∧ (s.chan n).desc.followLimit < _ from beyond)]
    exact ⟨_, List.mem_append_left _ (List.mem_singleton.2 rfl), rfl⟩
  · rw [if_neg (show ¬ (slotStatus f.slots[n] = statusReady ∨ slotStatus f.slots[n] = statusNotReady) from
      not_or.2 status)]
    exact ⟨_, List.mem_append_right _ (List.mem_singleton.2 rfl), rfl⟩

/-- A matched return one of whose enabled slots fails a test of R175 drops the drives of a LIVE crane and enters its
cause, whatever its evaluation does afterwards. -/
theorem matchedReturn_drops {s : State} {e : InFlight} {f : Frame} {n : Fin 12} (live : s.mode.mode = .live)
    (used : (s.cond.chans[n]).desc.cls ≠ .unused) (enabled : (e.outputs[n]).enable = true)
    (fails : slotFails (s.cond.chans[n]).desc e.outputs[n] f.slots[n]) :
    (matchedReturn e f s).stop.safety = .dropped ∧ (matchedReturn e f s).stop.fault ≠ none := by
  obtain ⟨c, raised, immediate⟩ := slotCauses_immediate (s := endLosses s) used enabled fails
  have among : c ∈ returnCauses (endLosses s) e f := List.mem_flatMap.2 ⟨n, List.mem_finRange n, raised⟩
  have dropped : (returnCaused e f s).stop.safety = .dropped := takeCauses_dropped among immediate live
  have entered : (returnCaused e f s).stop.fault ≠ none :=
    takeCauses_noted (List.ne_nil_of_mem among) (s := endLosses s) (by
      rw [show (endLosses s).mode.mode = .live from live]; exact nofun)
  have passes := evaluateZones_passes e.part (headEvaluated e f s)
  obtain ⟨-, -, -, -, -, -, -, -, stop, -, -⟩ :=
    returnFinished_blocks e f (evaluateZones e.part (headEvaluated e f s))
  rw [matchedReturn_eq, stop]
  exact ⟨passes.dropped dropped, passes.fault.entered entered⟩

end Sys2Proof.Machine

namespace Sys2Proof.Proofs
open Sys2Proof.Machine Sys2Proof.Claims

/-- Settles O40: the entries passed over leave a LIVE crane LIVE and its descriptors alone, so the failing slot's
immediate cause drops it. -/
theorem returnChecksDrop : Obligations.ReturnChecksDrop := by
  intro elapsed crew bytes s t e ahead rest n synced length crc kind list this none_ follows live used enabled fails run
  have listens : s.link.portD.rx.listening = true := bne_iff_ne.2 synced
  have hears : (returnHeard elapsed crew s).link.portD.rx.listening = true := frameTaken_listening listens
  obtain ⟨u, same, reached⟩ := goodReturn_reaches (f := parseFrame bytes) hears list this none_
  have arrived := (returnArrival_good (elapsed := elapsed) (crew := crew) listens length crc kind).symm.trans run
  rw [same] at arrived
  obtain rfl : matchedReturn e (parseFrame bytes) u = t := Host.Outcome.next.inj arrived
  obtain ⟨-, -, -, -, -, mode, -⟩ := deliverFeedback_blocks (parseFrame bytes) (returnHeard elapsed crew s)
  obtain ⟨-, -, -, desc, -⟩ := deliverFeedback_at (parseFrame bytes) (returnHeard elapsed crew s) n
  have stillLive : u.mode.mode = .live := reached.passes.live.2 (by rw [mode]; exact live)
  have descKept : (u.cond.chans[n]).desc = (s.cond.chans[n]).desc := by
    have only := reached.passes.held n
    unfold holdOnly at only
    rw [only]
    exact desc
  have slot : (parseFrame bytes).slots[n] = { flag := byteAt bytes (8 + 5 * n), value := wordAt bytes (9 + 5 * n) } :=
    Vector.getElem_ofFn _
  obtain ⟨dropped, entered⟩ := matchedReturn_drops (e := e) (f := parseFrame bytes) stillLive (by rw [descKept]; exact used)
    enabled (by rw [descKept, slot]; exact fails)
  have moded : (matchedReturn e (parseFrame bytes) u).mode.mode = .live :=
    (matchedReturn_passes e (parseFrame bytes) u).live.2 stillLive
  obtain ⟨-, estop, brake⟩ := (exec_keepsSafety _ s _ run).lines (fun off => absurd live off) follows
  have undriven : drivable (matchedReturn e (parseFrame bytes) u) = false := by
    unfold drivable
    rw [dropped]
    simp
  exact ⟨dropped, moded, estop.trans undriven, brake.trans undriven, entered⟩

end Sys2Proof.Proofs
end

section
/-! PROOFS. CaptureArmedAndTripped: the condition that ARM_CAPTURE names, a crossing tested, TIMECODE at a placement,
TAKE_INDEX at a hand-on and SLOW_ENTER at a zone evaluation. -/

namespace Sys2Proof.Machine
open Sys2Proof.Claims

/-! ## The condition an ARM_CAPTURE names -/

theorem captureKindOf?_eq_some (b : Byte) (k : CaptureKind) : captureKindOf? b = some k ↔ b.toNat = captureKindCode k := by
  constructor
  · intro h; unfold captureKindOf? at h
    split at h <;> cases h <;> assumption
  · intro h; unfold captureKindOf?; rw [h]; cases k <;> rfl

theorem directionOf?_eq_some (b : Byte) (d : Direction) : directionOf? b = some d ↔ b.toNat = directionCode d := by
  constructor
  · intro h; unfold directionOf? at h
    split at h <;> cases h <;> assumption
  · intro h; unfold directionOf?; rw [h]; cases d <;> rfl

theorem captureKindOf?_isSome (b : Byte) : (captureKindOf? b).isSome = true ↔ b.toNat ≤ 5 := by
  unfold captureKindOf?
  split
  case h_7 => simp only [imp_false] at *; exact iff_of_false nofun (by omega)
  all_goals exact iff_of_true rfl (by omega)

theorem directionOf?_isSome (b : Byte) : (directionOf? b).isSome = true ↔ b.toNat ≤ 2 := by
  unfold directionOf?
  split
  case h_4 => simp only [imp_false] at *; exact iff_of_false nofun (by omega)
  all_goals exact iff_of_true rfl (by omega)

theorem scopeOf?_isSome (b : Byte) : (scopeOf? b).isSome = true ↔ b.toNat ≤ 2 := by
  unfold scopeOf?
  split
  case h_4 => simp only [imp_false] at *; exact iff_of_false nofun (by omega)
  all_goals exact iff_of_true rfl (by omega)

/-- Each kind by the code that an ARM_CAPTURE gives it. -/
theorem captureKind_codes {b : Byte} {k : CaptureKind} (coded : captureKindOf? b = some k) :
    (k.crossing = true ↔ b.toNat ≤ 1) ∧ (k = .outputCrosses ↔ b = 0) ∧ (k = .takeIndex ↔ b = 2) ∧
    (b = 2 ∨ b = 4 → k.valued = true) ∧ (b = 3 ∨ b = 5 → k.valued = false) := by
  have code := (captureKindOf?_eq_some b k).1 coded
  obtain rfl : b = BitVec.ofNat 8 (captureKindCode k) := by rw [← code]; simp
  cases k <;> decide

section
variable {s : State} {kind channel direction scope : Byte} {value : Word}

/-- The parameters of an ARM_CAPTURE lie inside their sets (R157). -/
def captureFits (s : State) (kind channel : Byte) (value : Word) (direction scope : Byte) : Prop :=
  kind.toNat ≤ 5 ∧ scope.toNat ≤ 2 ∧
  (kind.toNat ≤ 1 → direction.toNat ≤ 2 ∧ channel.toNat < 12) ∧
  (kind = 0 → ∀ n : Fin 12, channel.toNat = n.val → (s.cond.chans[n]).desc.cls ≠ .unused) ∧
  (kind = 2 → value.toNat ≤ 16777215)

theorem capturedCondition_uncoded (outside : captureKindOf? kind = none ∨ scopeOf? scope = none) :
    capturedCondition s kind channel value direction scope = none := by
  unfold capturedCondition
  rcases outside with none_ | none_
  · rw [none_]
  · rw [none_]; cases captureKindOf? kind <;> rfl

variable {k : CaptureKind} {sc : Scope}

theorem capturedCondition_crossing (coded : captureKindOf? kind = some k) (ranged : scopeOf? scope = some sc)
    (crossing : k.crossing = true) {n : Fin 12} {d : Direction} (named : channelOf? channel = some n)
    (directed : directionOf? direction = some d) :
    capturedCondition s kind channel value direction scope =
      if k = .outputCrosses ∧ (s.chan n).used = false then none
      else some { kind := k, channel := n, value := value, direction := d, scope := sc } := by
  unfold capturedCondition
  rw [coded, ranged]; dsimp only
  rw [if_pos crossing, named, directed]

theorem capturedCondition_undirected (coded : captureKindOf? kind = some k) (ranged : scopeOf? scope = some sc)
    (crossing : k.crossing = true) (outside : channelOf? channel = none ∨ directionOf? direction = none) :
    capturedCondition s kind channel value direction scope = none := by
  unfold capturedCondition
  rw [coded, ranged]; dsimp only
  rw [if_pos crossing]
  rcases outside with none_ | none_
  · rw [none_]
  · rw [none_]; cases channelOf? channel <;> rfl

theorem capturedCondition_plain (coded : captureKindOf? kind = some k) (ranged : scopeOf? scope = some sc)
    (plain : ¬ k.crossing = true) :
    capturedCondition s kind channel value direction scope =
      if k = .takeIndex ∧ 16777215 < value.toNat then none
      else some { kind := k, channel := 0, value := if k.valued then value else 0, direction := .up, scope := sc } := by
  unfold capturedCondition
  rw [coded, ranged]; dsimp only
  rw [if_neg plain]

/-- Parameters outside their sets name no condition (R157). -/
theorem capturedCondition_unfit (unfit : ¬ captureFits s kind channel value direction scope) :
    capturedCondition s kind channel value direction scope = none := by
  cases coded : captureKindOf? kind with
  | none => exact capturedCondition_uncoded (.inl coded)
  | some k =>
  cases ranged : scopeOf? scope with
  | none => exact capturedCondition_uncoded (.inr ranged)
  | some sc =>
  obtain ⟨crosses, output, index, -⟩ := captureKind_codes coded
  have kindIn : kind.toNat ≤ 5 := (captureKindOf?_isSome kind).1 (by rw [coded]; rfl)
  have scopeIn : scope.toNat ≤ 2 := (scopeOf?_isSome scope).1 (by rw [ranged]; rfl)
  by_cases crossing : k.crossing = true
  · cases named : channelOf? channel with
    | none => exact capturedCondition_undirected coded ranged crossing (.inl named)
    | some n =>
    cases directed : directionOf? direction with
    | none => exact capturedCondition_undirected coded ranged crossing (.inr directed)
    | some d =>
    rw [capturedCondition_crossing coded ranged crossing named directed]
    have channelIn : channel.toNat < 12 := by
      by_contra outside; rw [channelOf?_none (Nat.not_lt.1 outside)] at named; cases named
    have directionIn : direction.toNat ≤ 2 := (directionOf?_isSome direction).1 (by rw [directed]; rfl)
    refine if_pos (by_contra fun usable => unfit ⟨kindIn, scopeIn, fun _ => ⟨directionIn, channelIn⟩, fun zero m is => ?_,
      fun two => ?_⟩)
    · obtain rfl : m = n := Option.some.inj ((channelOf?_val is).symm.trans named)
      exact (Channel.used_iff _).1 (Bool.eq_true_of_not_eq_false fun unused => usable ⟨output.2 zero, unused⟩)
    · have low := crosses.1 crossing
      rw [two] at low; exact absurd low (by decide)
  · rw [capturedCondition_plain coded ranged crossing]
    have high : ¬ kind.toNat ≤ 1 := mt crosses.2 crossing
    refine if_pos (by_contra fun short => unfit ⟨kindIn, scopeIn, fun low => absurd low high, fun zero => ?_, fun two => ?_⟩)
    · rw [zero] at high; exact absurd (by decide) high
    · exact Nat.not_lt.1 fun long => short ⟨index.2 two, long⟩

/-- Parameters inside their sets name the condition of their kind and scope, the items the kind does not use at 0 and UP
(R157). -/
theorem capturedCondition_fit (fits : captureFits s kind channel value direction scope)
    (coded : captureKindOf? kind = some k) (ranged : scopeOf? scope = some sc) :
    ∃ c, capturedCondition s kind channel value direction scope = some c ∧ c.kind = k ∧ c.scope = sc ∧
      (kind.toNat ≤ 1 →
        c.channel.val = channel.toNat ∧ c.value = value ∧ directionOf? direction = some c.direction) ∧
      (¬ kind.toNat ≤ 1 → c.channel = 0 ∧ c.direction = .up) ∧
      (kind = 2 ∨ kind = 4 → c.value = value) ∧ (kind = 3 ∨ kind = 5 → c.value = 0) := by
  obtain ⟨-, -, crossed, used, short⟩ := fits
  obtain ⟨crosses, output, index, valued, unvalued⟩ := captureKind_codes coded
  by_cases crossing : k.crossing = true
  · have low := crosses.1 crossing
    obtain ⟨directionIn, channelIn⟩ := crossed low
    obtain ⟨d, directed⟩ := Option.isSome_iff_exists.1 ((directionOf?_isSome direction).2 directionIn)
    have named : channelOf? channel = some ⟨channel.toNat, channelIn⟩ := channelOf?_val rfl
    have usable : ¬ (k = .outputCrosses ∧ (s.chan ⟨channel.toNat, channelIn⟩).used = false) := fun ⟨is, unused⟩ => by
      have inUse := (Channel.used_iff _).2 (used (output.1 is) ⟨channel.toNat, channelIn⟩ rfl)
      exact Bool.false_ne_true (unused.symm.trans inUse)
    refine ⟨_, (capturedCondition_crossing coded ranged crossing named directed).trans (if_neg usable), rfl, rfl,
      fun _ => ⟨rfl, rfl, directed⟩, fun high => absurd low high, fun _ => rfl, ?_⟩
    rintro (rfl | rfl) <;> exact absurd low (by decide)
  · have high : ¬ kind.toNat ≤ 1 := mt crosses.2 crossing
    refine ⟨_, (capturedCondition_plain coded ranged crossing).trans (if_neg fun ⟨is, long⟩ =>
      Nat.not_lt.2 (short (index.1 is)) long), rfl, rfl, fun low => absurd low high, fun _ => ⟨rfl, rfl⟩,
      fun codes => if_pos (valued codes), fun codes => if_neg (by rw [unvalued codes]; exact nofun)⟩

theorem armCaptureBody_unnamed (unnamed : capturedCondition s kind channel value direction scope = none) :
    armCaptureBody kind channel value direction scope s = (s, plain .badParam) := by
  unfold armCaptureBody
  rw [unnamed]; rfl

theorem armCaptureBody_named {c : Condition}
    (named : capturedCondition s kind channel value direction scope = some c) :
    armCaptureBody kind channel value direction scope s =
      if s.capture.state = .tripped then (s, plain .refusedBusy)
      else (s.setCapture { s.capture with state := .armed, condition := some c, previous := none }, plain .ok) := by
  unfold armCaptureBody
  rw [named]; rfl

end

/-! ## A crossing tested -/

/-- A step from one sample to the next crosses the armed value in an armed direction (R158). -/
def crossed (c : Condition) (before now : Int) : Prop :=
  ((c.direction = .up ∨ c.direction = .either) ∧ before < c.value.toInt ∧ c.value.toInt ≤ now) ∨
  ((c.direction = .down ∨ c.direction = .either) ∧ c.value.toInt < before ∧ now ≤ c.value.toInt)

theorem crosses_iff (c : Condition) (before now : Int) : crosses c before now = true ↔ crossed c before now := by
  unfold crosses crossed
  generalize c.value.toInt = armed
  cases c.direction <;> simp

/-- What the test of a crossing kind finds: the new sample, where the step to it crosses (R158). -/
def crossingFound (previous : Option Int) (sample : Fin 12 → Int) (c : Condition) : Option MetValue :=
  match previous with
  | none => none
  | some before => if crosses c before (sample c.channel) then some (.number (sample c.channel)) else none

theorem crossingFound_eq_some (previous : Option Int) (sample : Fin 12 → Int) (c : Condition) (m : MetValue) :
    crossingFound previous sample c = some m ↔
      (∃ before, previous = some before ∧ crossed c before (sample c.channel)) ∧ m = .number (sample c.channel) := by
  unfold crossingFound
  cases previous with
  | none => simp
  | some before =>
    by_cases found : crosses c before (sample c.channel) = true
    · simp [found, (crosses_iff _ _ _).1 found, eq_comm (a := m)]
    · simp [found, mt (crosses_iff _ _ _).2 found]

section
variable {kind : CaptureKind} {play : PlayState} {sample : Fin 12 → Int} {part timecode : Word} {s : State}

theorem testCrossing_eq : testCrossing kind play sample part timecode s =
    keepSample kind sample (testCapture kind play (crossingFound s.capture.previous sample) part timecode s) := rfl

/-- The test of a crossing kind changes nothing but the Capture Unit. -/
theorem testCrossing_only : testCrossing kind play sample part timecode s =
    { s with capture := (testCrossing kind play sample part timecode s).capture } := by
  apply State.eq_of_blocks <;> simp

theorem keepSample_armed {c : Condition} (armed : s.capture.state = .armed) (is : s.capture.condition = some c)
    (this : c.kind = kind) :
    keepSample kind sample s = { s with capture := { s.capture with previous := some (sample c.channel) } } := by
  unfold keepSample
  rw [armed, is]
  exact if_pos this

/-- A crossing that is met in its scope trips the unit; no sample is kept (R158, R161). -/
theorem testCrossing_trips {c : Condition} (waits : awaits s.capture kind play c)
    (met : ∃ before, s.capture.previous = some before ∧ crossed c before (sample c.channel)) :
    (testCrossing kind play sample part timecode s).capture =
      trippedBy c (.number (sample c.channel)) part timecode s := by
  have tripped := (testCapture_testedFor kind play (crossingFound s.capture.previous sample) part timecode s).1 c _ waits
    ((crossingFound_eq_some _ _ _ _).2 ⟨met, rfl⟩)
  rw [testCrossing_eq, keepSample_idle (.inl (by rw [tripped]; exact nofun))]
  exact tripped

/-- A crossing that is not met, or not in its scope, keeps the new sample (R158). -/
theorem testCrossing_keeps {c : Condition} (armed : s.capture.state = .armed) (is : s.capture.condition = some c)
    (this : c.kind = kind)
    (unmet : ¬ ((∃ before, s.capture.previous = some before ∧ crossed c before (sample c.channel)) ∧
      (c.scope = .liveOnly → play ≠ .running) ∧ (c.scope = .playbackOnly → play = .running))) :
    testCrossing kind play sample part timecode s =
      { s with capture := { s.capture with previous := some (sample c.channel) } } := by
  rcases testCapture_cases kind play (crossingFound s.capture.previous sample) part timecode s with
    ⟨d, m, waits, found, -⟩ | ⟨-, same⟩
  · obtain ⟨-, that, -, inScope⟩ := waits
    obtain rfl := Option.some.inj (is.symm.trans that)
    exact absurd ⟨((crossingFound_eq_some _ _ _ _).1 found).1, inScope⟩ unmet
  · rw [testCrossing_eq, same, keepSample_armed armed is this]

end

/-! ## TIMECODE at a frame's placement -/

theorem snapshotNow_of_blocks {s t : State} (cond : t.cond = s.cond) (geo : t.geo = s.geo) (zone : t.zone = s.zone) :
    snapshotNow t = snapshotNow s := by
  unfold snapshotNow
  rw [cond, geo, zone]

/-- The state a TIMECODE condition is tested in: the frame placed, the recording and the take that begin at it begun. -/
def placementBegun (timecode : Word) (s : State) : State := frameStarts timecode (placeFrame s).1

/-- What the TIMECODE test of a placement finds. -/
def timecodeFound (timecode : Word) (c : Condition) : Option MetValue :=
  if timecode = c.value then some (.number timecode.toNat) else none

theorem placeOutbound_unstarted {request : State → State} {timecode : Word} {s : State}
    (none_ : (placeFrame s).2.start = .none) : placeOutbound request timecode s = placeFrame s := if_pos none_

theorem placeOutbound_started {request : State → State} {timecode : Word} {s : State}
    (some_ : (placeFrame s).2.start ≠ .none) :
    placeOutbound request timecode s =
      (testCapture .timecode (governingPlay request (placementBegun timecode s)) (timecodeFound timecode)
        (placementBegun timecode s).link.part timecode (placementBegun timecode s), (placeFrame s).2) := if_neg some_

theorem placementBegun_blocks (timecode : Word) (s : State) :
    (placementBegun timecode s).capture = s.capture ∧ (placementBegun timecode s).link = s.link ∧
    snapshotNow (placementBegun timecode s) = snapshotNow s := by
  refine ⟨?_, ?_, snapshotNow_of_blocks ?_ ?_ ?_⟩ <;> simp [placementBegun]

/-- A TIMECODE condition is tested where the frame starts a period, under the play state that its request and its take
values leave (R159, R160). -/
theorem placeOutbound_testedFor (request : State → State) (timecode : Word) (s : State) :
    testedFor .timecode
      (governingPlay request { (placeOutbound request timecode s).1 with capture := s.capture })
      (fun c => if (placeOutbound request timecode s).2.start ≠ .none ∧ timecode = c.value then
        some (.number timecode.toNat) else none)
      s.link.part timecode { s with take := (placeOutbound request timecode s).1.take }
      (placeOutbound request timecode s).1.capture := by
  by_cases start : (placeFrame s).2.start = .none
  · rw [placeOutbound_unstarted start]
    have nothing (c : Condition) : (if (placeFrame s).2.start ≠ .none ∧ timecode = c.value then
        some (MetValue.number timecode.toNat) else none) = none := if_neg fun h => h.1 start
    exact ⟨fun c m _ met => absurd ((nothing c).symm.trans met) nofun, fun _ => by simp⟩
  · rw [placeOutbound_started start]
    obtain ⟨capture, link, snapshot⟩ := placementBegun_blocks timecode s
    have tested := testCapture_testedFor .timecode (governingPlay request (placementBegun timecode s))
      (timecodeFound timecode) (placementBegun timecode s).link.part timecode (placementBegun timecode s)
    have changed := testCapture_eq .timecode (governingPlay request (placementBegun timecode s))
      (timecodeFound timecode) (placementBegun timecode s).link.part timecode (placementBegun timecode s)
    generalize testCapture .timecode (governingPlay request (placementBegun timecode s)) (timecodeFound timecode)
      (placementBegun timecode s).link.part timecode (placementBegun timecode s) = t at tested changed
    have before : { t with capture := s.capture } = placementBegun timecode s := by
      rw [changed, ← capture]; rfl
    have take : t.take = (placementBegun timecode s).take := by rw [changed]; rfl
    have found : (fun c : Condition => if (placeFrame s).2.start ≠ .none ∧ timecode = c.value then
        some (MetValue.number timecode.toNat) else none) = timecodeFound timecode := by
      funext c; unfold timecodeFound; simp only [ne_eq, start, not_false_eq_true, true_and]
    dsimp only
    rw [before, found]
    rw [link] at tested
    exact testedFor_congr capture.symm take snapshot.symm tested

/-! ## The play state that a frame's request leaves -/

/-- GO taken leaves the playback RUNNING once the frame has its take values (R145, R160). -/
theorem supply_afterGo {tag : Byte} {s t : State} (tagged : served tag s) (live : s.mode.mode = .live)
    (cued : s.take.play.state = .cued) (powered : s.pins.supplyWarn = false) (few : s.take.play.faultRun ≠ 2)
    (run : exec (.go tag) s = .next t) : (supply t).1.take.play.state = .running := by
  have used : s.mode.mode ≠ .parked := by rw [live]; decide
  have started : goBody s = (startPlay s, plain .ok) :=
    (goBody_cued used cued).trans (if_neg (by rw [powered]; decide))
  have taken : exec (.go tag) s = replied tag 0x36 .ok (startPlay s) :=
    request_replied tagged.1 (.inl tagged.2) started
  obtain rfl := Host.Outcome.next.inj (taken.symm.trans run)
  rw [supply_used (s := answer _ _ _ (startPlay s)) rfl (.inr few)]
  obtain ⟨shape, -⟩ := playAdvanced_eq (s := answer _ _ _ (startPlay s)) rfl
  exact (congrArg (fun u : State => u.take.play.state) shape).trans rfl

/-- ABORT_PLAY taken leaves a RUNNING playback ABORTED once the frame has its take values (R149, R160). -/
theorem supply_afterAbort {tag : Byte} {s t : State} (tagged : served tag s) (running : s.take.play.state = .running)
    (run : exec (.abortPlay tag) s = .next t) : (supply t).1.take.play.state = .aborted := by
  have active : s.take.play.active = true := (Playback.active_iff _).2 (.inr (.inr running))
  have aborted : abortPlayBody s = (abortPlay .request s, plain .ok) := congrArg (·, plain .ok) (if_pos active)
  have taken : exec (.abortPlay tag) s = replied tag 0x37 .ok (abortPlay .request s) :=
    request_replied tagged.1 (.inl tagged.2) aborted
  obtain rfl := Host.Outcome.next.inj (taken.symm.trans run)
  rw [supply_away (s := answer _ _ _ (abortPlay .request s)) nofun nofun nofun]
  rfl

/-! ## TAKE_INDEX at a hand-on, and the index that a frame gives it -/

/-- A unit that awaits TAKE_INDEX is tested for it as it stood before the hand-on's tests (R158, R159). -/
theorem outputTests_takeIndex (index : Option Nat) (timecode : Word) {s : State}
    (awaited : ∀ c, s.capture.condition = some c → c.kind = .takeIndex) :
    testedFor .takeIndex s.take.play.state
      (fun c => if index = some c.value.toNat then some (.number c.value.toNat) else none) s.link.part timecode s
      (outputTests index timecode s).capture := by
  have tested := outputTests_testedFor index timecode s
  rwa [testCrossing_idle (.inr fun c is => by rw [awaited c is]; decide)] at tested

theorem takeIndexOf_appended (before : Recording) (p : Playback) : takeIndexOf before true p = some before.index := rfl

theorem takeIndexOf_recording {before : Recording} (active : before.state ≠ .idle) (p : Playback) :
    takeIndexOf before false p = none := by
  unfold takeIndexOf
  rw [if_neg nofun, if_pos ((Recording.active_iff _).2 active)]

theorem takeIndexOf_playing {before : Recording} (idle : before.state = .idle) (p : Playback) :
    takeIndexOf before false p = if p.state = .running then some p.index else none := by
  unfold takeIndexOf
  rw [if_neg nofun, if_neg fun active => (Recording.active_iff _).1 active idle]

/-! ## SLOW_ENTER at a zone evaluation -/

theorem evaluateZones_scale (part : Word) (s : State) : (evaluateZones part s).zone.scale = (zonesFormed s).scale := by
  rw [evaluateZones_zone, verifyStep_scale]

/-- A unit that awaits SLOW_ENTER is tested for it once the speed scale is formed, the causes after it leaving what the
test left (R158, R159). -/
theorem evaluateZones_slows (part : Word) {s : State}
    (awaited : ∀ c, s.capture.condition = some c → c.kind = .slowEnter) :
    testedFor .slowEnter s.take.play.state
      (fun _ => if s.zone.scale = 256 ∧ (evaluateZones part s).zone.scale < 256 then
        some (.number (evaluateZones part s).zone.scale) else none)
      part (latestTimecode s) { s with zone := (evaluateZones part s).zone } (evaluateZones part s).capture := by
  have tested : testedFor .slowEnter s.take.play.state
      (fun _ => if s.zone.scale = 256 ∧ (zonesFormed s).scale < 256 then some (.number (zonesFormed s).scale) else none)
      part (consoleTimecode (s.setZone (zonesFormed s))) (s.setZone (zonesFormed s)) (slowTested part s).capture :=
    testCapture_testedFor _ _ _ _ _ _
  have condition : (slowTested part s).capture.condition = s.capture.condition := testCapture_condition _ _ _ _ _ _
  have kept : (evaluateZones part s).capture = (slowTested part s).capture :=
    evaluateZones_captureKept part s (.inr fun c is => by rw [awaited c (condition.symm.trans is)]; decide)
  have timecode : consoleTimecode (s.setZone (zonesFormed s)) = latestTimecode s := (latestTimecode_eq s).symm
  rw [timecode, ← evaluateZones_scale part s, ← kept] at tested
  refine testedFor_congr (s := s.setZone (zonesFormed s)) rfl rfl ?_ tested
  unfold snapshotNow
  dsimp only
  rw [evaluateZones_scale]; rfl

end Sys2Proof.Machine

namespace Sys2Proof.Proofs
open Sys2Proof.Machine Sys2Proof.Claims

/-- Settles O32: ARM_CAPTURE by the condition it names, and each kind's test by what it finds and awaits. -/
theorem captureArmedAndTripped : Obligations.CaptureArmedAndTripped := by
  refine ⟨?_, ?_, placeOutbound_testedFor, ?_, fun index timecode s => outputTests_takeIndex index timecode, ?_,
    fun part s => evaluateZones_slows part⟩
  · rintro tag kind channel value direction scope s ⟨tagged, notArming⟩
    refine ⟨fun unfit => request_replied tagged (.inl notArming) (armCaptureBody_unnamed (capturedCondition_unfit unfit)),
      fun fits tripped => ?_, fun fits ready k sc coded ranged => ?_⟩
    · obtain ⟨k, coded⟩ := Option.isSome_iff_exists.1 ((captureKindOf?_isSome kind).2 fits.1)
      obtain ⟨sc, ranged⟩ := Option.isSome_iff_exists.1 ((scopeOf?_isSome scope).2 fits.2.1)
      obtain ⟨c, named, -⟩ := capturedCondition_fit fits coded ranged
      exact request_replied tagged (.inl notArming) ((armCaptureBody_named named).trans (if_pos tripped))
    · obtain ⟨c, named, shown⟩ := capturedCondition_fit fits coded ranged
      exact ⟨c, request_replied tagged (.inl notArming) ((armCaptureBody_named named).trans (if_neg ready)), shown⟩
  · intro kind play sample part timecode s
    refine ⟨testCrossing_only, fun off => testCrossing_idle (.inl off), fun c armed is => ⟨fun other => ?_,
      fun this unmet => testCrossing_keeps armed is this unmet,
      fun this met inScope => testCrossing_trips ⟨armed, is, this, inScope⟩ met⟩⟩
    refine testCrossing_idle (.inr fun d that => ?_)
    obtain rfl := Option.some.inj (is.symm.trans that)
    exact other
  · exact fun tag s t tagged => ⟨fun live cued powered few => supply_afterGo tagged live cued powered few,
      supply_afterAbort tagged⟩
  · rintro before appended p
    exact ⟨by rintro rfl; rfl, by rintro rfl active; exact takeIndexOf_recording active p,
      by rintro rfl idle; exact takeIndexOf_playing idle p⟩

end Sys2Proof.Proofs
end

section
/-! PROOFS. StallsFound: the stall window, the stall test and what a stall found leaves (R102 to R104). -/

namespace Sys2Proof.Machine
open Sys2Proof.Claims

/-! ## The window and its tests -/

theorem pushWindow_eq (w : List Int) (x : Int) : pushWindow w x = (w ++ [x]).drop (w.length - 19) := by
  rw [pushWindow, Nat.add_sub_add_right w.length 1 19]

theorem pushWindow_length {w : List Int} (few : w.length ≤ 20) (x : Int) : (pushWindow w x).length ≤ 20 := by
  rw [pushWindow_eq, List.length_drop, List.length_append, List.length_singleton]
  omega

theorem stalled_iff (w : List Int) : stalled w = true ↔ w.length = 20 ∧ ∀ a ∈ w, ∀ b ∈ w, a ≤ b + 2 := by
  simp only [stalled, Bool.and_eq_true, decide_eq_true_eq, List.all_eq_true, sub_le_iff_le_add']

theorem inPhase_iff (l : LensChannel) (part : Word) :
    inPhase l part = true ↔ ∃ first, l.phaseFrom = some first ∧ (part - first).toNat < 2 ^ 31 := by
  unfold inPhase
  cases l.phaseFrom with
  | none => exact ⟨nofun, nofun⟩
  | some first => simp

theorem mapFitOf_eq (active : Option LensMap) (low high : Int) : mapFitOf active low high = fitOf active low high := by
  cases active with
  | none => rfl
  | some m => simp only [mapFitOf, fitOf, List.all_eq_true, Bool.and_eq_true, decide_eq_true_eq]

/-! ## What a stall found leaves -/

section
variable {part : Word} {v : Int} {l : LensChannel}

theorem foundStall_seekLow (low : l.cal = .seekLow) :
    foundStall part v l =
      { l with window := [], phaseFrom := none, apply := some v, foundMin := some v, cal := .seekHigh } := if_pos low

theorem foundStall_travel (high : l.cal = .seekHigh) (travel : l.foundMin.getD v < v) :
    foundStall part v l =
      { l with
        window := [], phaseFrom := none, apply := some v, foundMin := none, cal := .done
        result := some
          { foundMin := l.foundMin.getD v, foundMax := v, fit := fitOf l.active (l.foundMin.getD v) v
            madeAt := part } } := by
  rw [← mapFitOf_eq]
  exact (if_neg (by rw [high]; decide)).trans (if_pos travel)

theorem foundStall_noTravel (high : l.cal = .seekHigh) (none_ : v ≤ l.foundMin.getD v) :
    foundStall part v l =
      { l with
        window := [], phaseFrom := none, apply := some v, foundMin := none, cal := .failed
        failure := some .noTravel } :=
  (if_neg (by rw [high]; decide)).trans (if_neg (Int.not_lt.2 none_))

theorem foundStall_window : (foundStall part v l).window = [] := by
  unfold foundStall; dsimp only; (repeat' split) <;> rfl

end

/-! ## The stall test at a return -/

section
variable {part : Word} {c : Channel} {l : LensChannel}

theorem stallStep_unsought (unsought : l.calibrating = false ∨ inPhase l part = false) : stallStep part c l = l :=
  if_neg (by rcases unsought with h | h <;> rw [h] <;> simp)

section
variable (runs : l.calibrating = true) (sent : inPhase l part = true)
include runs sent

theorem stallStep_moving (moving : ¬ stalled (pushWindow l.window c.feedback) = true) :
    stallStep part c l = { l with window := pushWindow l.window c.feedback } :=
  (if_pos (by rw [runs, sent]; rfl)).trans (if_neg moving)

theorem stallStep_stalled (stall : stalled (pushWindow l.window c.feedback) = true) :
    stallStep part c l = foundStall part (foundValue c l) l :=
  (if_pos (by rw [runs, sent]; rfl)).trans (if_pos stall)

end

theorem stallStep_window (few : l.window.length ≤ 20) : (stallStep part c l).window.length ≤ 20 := by
  unfold stallStep
  dsimp only
  (repeat' split)
  · rw [foundStall_window]; exact Nat.zero_le 20
  · exact pushWindow_length few _
  · exact few

end

end Sys2Proof.Machine

namespace Sys2Proof.Proofs
open Sys2Proof.Machine

/-- Settles O31: no test without a running calibration and a frame of its phase; else the window moves on, or the stall
it holds turns the phase or ends the calibration. -/
theorem stallsFound : Obligations.StallsFound := by
  intro part c l few t w stall sent limit lo hi v low
  have window : pushWindow l.window c.feedback = w := pushWindow_eq _ _
  have stall_iff : stalled (pushWindow l.window c.feedback) = true ↔ stall := by rw [window]; exact stalled_iff w
  have sent_iff : inPhase l part = true ↔ sent := inPhase_iff l part
  have found : foundValue c l = v := rfl
  have start : l.foundMin.getD v = low := by simp only [low]; cases l.foundMin <;> rfl
  refine ⟨stallStep_window few, fun unsought => ?_, fun runs inside => ?_⟩
  · exact stallStep_unsought (unsought.imp_right fun h => Bool.eq_false_iff.2 fun e => h (sent_iff.1 e))
  · have stalls (h : stall) : t = foundStall part v l := stallStep_stalled runs (sent_iff.2 inside) (stall_iff.2 h)
    refine ⟨fun moving => ?_, fun h seekLow => ?_, fun h seekHigh travel => ?_, fun h seekHigh none_ => ?_⟩
    · rw [← window]
      exact stallStep_moving runs (sent_iff.2 inside) fun e => moving (stall_iff.1 e)
    · exact (stalls h).trans (foundStall_seekLow seekLow)
    · rw [← start] at travel ⊢
      exact (stalls h).trans (foundStall_travel seekHigh travel)
    · exact (stalls h).trans (foundStall_noTravel seekHigh (start ▸ none_))

end Sys2Proof.Proofs
end

section
/-! PROOFS. CalibrationBeginsAndTimesOut: LENS_CALIBRATE by its checks (R99, R100), and the time limit at its due moment
(R105). -/

namespace Sys2Proof.Machine
open Sys2Proof.Claims

theorem State.chan_notLens_iff (s : State) (n : Fin 12) :
    (s.chan n).isLens = false ↔ (s.cond.chans[n]).desc.cls ≠ .lens := by
  rw [Bool.eq_false_iff, ne_eq, Channel.isLens_iff]
  rfl

/-! ## LENS_CALIBRATE -/

/-- R99: the conditions of the third check. -/
theorem calibrationBusy_iff (c : Channel) (l : LensChannel) :
    (l.calibrating = true ∨ c.onTake = true) ↔
      l.cal = .seekLow ∨ l.cal = .seekHigh ∨ c.source = .take ∨ c.source = .takeTrim := by
  rw [LensChannel.calibrating_iff, Channel.onTake_iff, or_assoc]

theorem lensCalibrateBody_unnamed {channel : Byte} {s : State} (unnamed : channelOf? channel = none) :
    lensCalibrateBody channel s = (s, plain .badParam) := by
  unfold lensCalibrateBody; rw [unnamed]; rfl

section
variable {channel : Byte} {s : State} {n : Fin 12} (named : channelOf? channel = some n)
include named

theorem lensCalibrateBody_notLens (notLens : (s.cond.chans[n]).desc.cls ≠ .lens) :
    lensCalibrateBody channel s = (s, plain .badParam) := by
  unfold lensCalibrateBody; rw [named]
  exact if_pos ((State.chan_notLens_iff s n).2 notLens)

section
variable (lens : (s.cond.chans[n]).desc.cls = .lens)
include lens

theorem lensCalibrateBody_mode
    (away : s.mode.mode = .parked ∨ s.stop.safety = .stopping ∨ s.stop.safety = .dropped) :
    lensCalibrateBody channel s = (s, plain .refusedMode) := by
  unfold lensCalibrateBody; rw [named]
  exact (if_neg fun e => (State.chan_notLens_iff s n).1 e lens).trans (if_pos away)

/-- Past the check of R99 on the mode and the safety state, LENS_CALIBRATE is decided by what the channel does. -/
theorem lensCalibrateBody_ready
    (ready : ¬ (s.mode.mode = .parked ∨ s.stop.safety = .stopping ∨ s.stop.safety = .dropped)) :
    lensCalibrateBody channel s =
      if (s.lens[n]).calibrating = true ∨ (s.cond.chans[n]).onTake = true then (s, plain .refusedBusy)
      else
        (withLens s n
          (beginCalibration (effMin s.cond.chans[n] s.lens[n]) (effMax s.cond.chans[n] s.lens[n]) s.lens[n]),
          plain .accepted) := by
  unfold lensCalibrateBody; rw [named]
  exact (if_neg fun e => (State.chan_notLens_iff s n).1 e lens).trans (if_neg ready)

end
end

/-! ## The time limit -/

/-- R105: the moment at which the time limit is due. -/
theorem limitPasses_iff (s : State) (n : Fin 12) :
    limitPasses s n = true ↔
      s.mode.mode = .live ∧ s.stop.safety ≠ .dropped ∧ (s.cond.chans[n]).desc.cls = .lens ∧
      ((s.lens[n]).cal = .seekLow ∨ (s.lens[n]).cal = .seekHigh) ∧ (s.lens[n]).apply = none ∧
      30000 ≤ (s.lens[n]).count := by
  have long : 30000 < calCount s.lens[n] ↔ 30000 ≤ (s.lens[n]).count := by unfold calCount; omega
  simp only [limitPasses, State.chan, State.lensOf, Bool.and_eq_true, beq_iff_eq, bne_iff_ne, Channel.isLens_iff,
    LensChannel.calibrating_iff, Option.isNone_iff_eq_none, decide_eq_true_eq, long, and_assoc]

end Sys2Proof.Machine

namespace Sys2Proof.Proofs
open Sys2Proof.Machine Sys2Proof.Claims

/-- Settles O30: LENS_CALIBRATE by its checks in their order; the time limit where it is due, and nothing elsewhere. -/
theorem calibrationBeginsAndTimesOut : Obligations.CalibrationBeginsAndTimesOut := by
  refine ⟨?_, ?_⟩
  · rintro tag channel s ⟨tagged, notArming⟩ run
    have runs : s.mode.mode ≠ .arming ∨ armingAccepts 0x40 = true := .inl notArming
    refine ⟨fun unnamed => request_replied tagged runs (lensCalibrateBody_unnamed (channelOf?_none unnamed)), ?_⟩
    intro n at_ c l
    have named := channelOf?_val at_
    refine ⟨fun notLens => request_replied tagged runs (lensCalibrateBody_notLens named notLens), fun lens =>
      ⟨fun away => request_replied tagged runs (lensCalibrateBody_mode named lens away), fun live still => ?_⟩⟩
    have ready : ¬ (s.mode.mode = .parked ∨ s.stop.safety = .stopping ∨ s.stop.safety = .dropped) := by
      rw [live]
      rcases still with still | still <;> rw [still] <;> decide
    have decided := lensCalibrateBody_ready named lens ready
    refine ⟨fun busy => request_replied tagged runs (decided.trans (if_pos ((calibrationBusy_iff c l).2 busy))),
      fun notLow notHigh source => request_replied tagged runs ?_⟩
    have idle : ¬ (l.calibrating = true ∨ c.onTake = true) := by
      rw [calibrationBusy_iff]
      rcases source with source | source <;> simp [notLow, notHigh, source]
    refine (decided.trans (if_neg idle)).trans ?_
    unfold effMin effMax
    rw [lens]
    rfl
  · intro n s c l due
    have due_iff : limitPasses s n = true ↔ due := limitPasses_iff s n
    refine ⟨fun early => congrArg Host.Outcome.next (if_neg fun passes => early (due_iff.1 passes)), ?_⟩
    intro now p
    refine congrArg Host.Outcome.next ((if_pos (due_iff.2 now)).trans ?_)
    obtain ⟨-, -, -, runs, settled, long⟩ := now
    have timedOut : calibrate (s.limits n).1 (s.limits n).2 s.link.part (s.chan n) (s.lensOf n) = _ :=
      calibrate_timesOut settled ((LensChannel.calibrating_iff l).2 runs) long
    rw [timedOut]
    rfl

end Sys2Proof.Proofs
end

section
/-! PROOFS. COMMIT of a lens map (R91, R92): the map that a string spells, a map written by the layout of section 10.6
and read back, and the checks in their order. -/

namespace Sys2Proof.Machine
open Sys2Proof.Claims

/-! ## Words of a string and of its parts -/

theorem wordAt_le32_skip (w : Word) (bs : List Byte) (i : Nat) : wordAt (le32 w ++ bs) (i + 4) = wordAt bs i := rfl

theorem wordAt_le32_alone (w : Word) : wordAt (le32 w) 0 = w := by
  have read := wordAt_le32 w []
  rwa [List.append_nil] at read

theorem wordAt_append_skip (a b : List Byte) (i : Nat) : wordAt (a ++ b) (a.length + i) = wordAt b i := by
  simp only [wordAt, Nat.add_assoc, byteAt_append]

theorem wordAt_flatMap {α : Type} {w : Nat} {code : α → List Byte} (wide : Wide w code) {l : List α} {k j : Nat}
    (listed : k < l.length) (inside : j + 3 < w) : wordAt (l.flatMap code) (w * k + j) = wordAt (code l[k]) j := by
  simp only [wordAt, Nat.add_assoc]
  rw [byteAt_flatMap wide listed (by omega), byteAt_flatMap wide listed (by omega),
    byteAt_flatMap wide listed (by omega), byteAt_flatMap wide listed (by omega)]

theorem word_toInt {x : Int} (low : int32Min ≤ x) (high : x ≤ int32Max) : (BitVec.ofInt 32 x).toInt = x :=
  BitVec.toInt_ofInt_eq_self (by decide) low (Int.lt_add_one_of_le high)

/-! ## The map that a string spells -/

/-- Point j of a map's string (section 10.6). -/
def pointRead (bs : List Byte) (j : Nat) : Int × Int :=
  ((wordAt bs (4 + 8 * j)).toInt, (wordAt bs (8 + 8 * j)).toInt)

/-- The map that a string spells, under a checksum. -/
def mapRead (bs : List Byte) (crc : Word) : LensMap :=
  { mapId := (halfAt bs 0).toNat, points := (List.range (halfAt bs 2).toNat).map (pointRead bs), crc := crc }

/-- Items 5 to 8 of R91. -/
def mapFormed (bs : List Byte) (length : Nat) : Prop :=
  let count := (halfAt bs 2).toNat
  let point := pointRead bs
  2 ≤ count ∧ count ≤ 64 ∧ length = 4 + 8 * count ∧ (halfAt bs 0).toNat ≠ 0 ∧
  (∀ j, j + 1 < count → (point j).1 < (point (j + 1)).1) ∧
  ((∀ j, j + 1 < count → (point j).2 < (point (j + 1)).2) ∨ (∀ j, j + 1 < count → (point (j + 1)).2 < (point j).2))

theorem parsePoints_eq (bs : List Byte) (j n : Nat) : parsePoints bs j n = (List.range' j n).map (pointRead bs) := by
  induction n generalizing j with
  | zero => rfl
  | succ n ih => rw [parsePoints, ih, List.range'_succ, List.map_cons, pointRead]

theorem chained_iff (r : Int → Int → Bool) (xs : List Int) :
    chained r xs = true ↔ xs.IsChain fun a b => r a b = true := by
  induction xs with
  | nil => exact iff_of_true rfl .nil
  | cons a xs ih =>
    cases xs with
    | nil => exact iff_of_true rfl (.singleton a)
    | cons b xs => rw [chained, Bool.and_eq_true, ih, List.isChain_cons_cons]

/-- The first `count` values of a sequence stand in a relation, each to the next one. -/
theorem chained_range (r : Int → Int → Prop) [DecidableRel r] (f : Nat → Int) (count : Nat) :
    chained (fun a b => decide (r a b)) ((List.range count).map f) = true ↔
      ∀ j, j + 1 < count → r (f j) (f (j + 1)) := by
  simp only [chained_iff, List.isChain_iff_getElem, List.length_map, List.length_range, List.getElem_map,
    List.getElem_range, decide_eq_true_eq]

/-- R91, items 5 to 8, as the model tests them. -/
theorem mapFormed_iff (bs : List Byte) (length : Nat) :
    mapFormed bs length ↔
      let count := (halfAt bs 2).toNat
      let points := parsePoints bs 0 count
      let rises := chained fun a b => decide (a < b)
      2 ≤ count ∧ count ≤ 64 ∧ length = 4 + 8 * count ∧ (halfAt bs 0).toNat ≠ 0 ∧ rises (points.map Prod.fst) = true ∧
      (rises (points.map Prod.snd) = true ∨ chained (fun a b => decide (b < a)) (points.map Prod.snd) = true) := by
  have rises := chained_range (· < ·)
  have falls := chained_range fun a b => b < a
  simp only [mapFormed, parsePoints_eq, ← List.range_eq_range', List.map_map, Function.comp_def, rises, falls]

theorem parseMap_formed {bs : List Byte} {length : Nat} (formed : mapFormed bs length) (crc : Word) :
    parseMap bs length crc = some (mapRead bs crc) := by
  refine (if_pos ((mapFormed_iff bs length).1 formed)).trans ?_
  rw [parsePoints_eq, ← List.range_eq_range']
  rfl

theorem parseMap_unformed {bs : List Byte} {length : Nat} (unformed : ¬ mapFormed bs length) (crc : Word) :
    parseMap bs length crc = none :=
  if_neg (mt (mapFormed_iff bs length).2 unformed)

/-! ## A map written by the layout -/

/-- The string of a map by the layout of section 10.6. -/
def mapImage (id : Nat) (points : List (Int × Int)) : List Byte :=
  u16 id ++ (u16 points.length ++ points.flatMap pointBytes)

theorem wide_pointBytes : Wide 8 pointBytes := fun _ => rfl

section
variable {id : Nat} {points : List (Int × Int)}

theorem mapImage_length : (mapImage id points).length = 4 + 8 * points.length := by
  simp only [mapImage, u16, List.length_append, le16_length, flatMap_length wide_pointBytes]
  omega

theorem mapImage_id (fits : id ≤ 65535) : (halfAt (mapImage id points) 0).toNat = id := by
  rw [mapImage, u16, halfAt_le16, half_toNat fits]

theorem mapImage_count (few : points.length ≤ 64) : (halfAt (mapImage id points) 2).toNat = points.length := by
  rw [mapImage, u16, u16, halfAt_le16_skip, halfAt_le16, half_toNat (by omega)]

theorem wordAt_mapImage {k j : Nat} (listed : k < points.length) (inside : j + 3 < 8) :
    wordAt (mapImage id points) (4 + (8 * k + j)) = wordAt (pointBytes points[k]) j :=
  (wordAt_append_skip (u16 id ++ u16 points.length) _ _).trans (wordAt_flatMap wide_pointBytes listed inside)

section
variable (wide : ∀ p ∈ points, int32Min ≤ p.1 ∧ p.1 ≤ int32Max ∧ int32Min ≤ p.2 ∧ p.2 ≤ int32Max)
include wide

/-- R92: a point whose two numbers are 32-bit values is read back as it was written. -/
theorem pointRead_mapImage {k : Nat} (listed : k < points.length) :
    pointRead (mapImage id points) k = points[k] := by
  obtain ⟨low, high, least, greatest⟩ := wide _ (List.getElem_mem listed)
  have value : wordAt (mapImage id points) (4 + 8 * k) = BitVec.ofInt 32 points[k].1 :=
    (wordAt_mapImage listed (j := 0) (by decide)).trans (wordAt_le32 _ _)
  have count : wordAt (mapImage id points) (8 + 8 * k) = BitVec.ofInt 32 points[k].2 := by
    rw [show 8 + 8 * k = 4 + (8 * k + 4) by omega, wordAt_mapImage listed (by decide)]
    exact (wordAt_le32_skip _ _ 0).trans (wordAt_le32_alone _)
  rw [pointRead, value, count, word_toInt low high, word_toInt least greatest]

/-- R92, section 10.6: a map written by the layout is read back whole. -/
theorem mapRead_mapImage (fits : id ≤ 65535) (few : points.length ≤ 64) (crc : Word) :
    mapRead (mapImage id points) crc = { mapId := id, points := points, crc := crc } := by
  rw [mapRead, mapImage_id fits, mapImage_count few]
  congr
  refine List.ext_getElem (by simp) fun k _ listed => ?_
  rw [List.getElem_map, List.getElem_range]
  exact pointRead_mapImage wide listed

/-- What holds between any two points of a map in their order holds between each point of its string and the next. -/
theorem mapImage_next {r : Int × Int → Int × Int → Prop} (ordered : points.Pairwise r) (j : Nat)
    (listed : j + 1 < points.length) :
    r (pointRead (mapImage id points) j) (pointRead (mapImage id points) (j + 1)) := by
  rw [pointRead_mapImage wide (Nat.lt_of_succ_lt listed), pointRead_mapImage wide listed]
  exact List.pairwise_iff_getElem.1 ordered j (j + 1) _ listed (Nat.lt_succ_self j)

/-- A map of the documented shape, written by the layout, passes items 5 to 8 of R91. -/
theorem mapFormed_mapImage (named : 1 ≤ id) (fits : id ≤ 65535) (two : 2 ≤ points.length) (few : points.length ≤ 64)
    (rising : (points.map Prod.fst).Pairwise (· < ·))
    (monotonic : (points.map Prod.snd).Pairwise (· < ·) ∨ (points.map Prod.snd).Pairwise (· > ·)) :
    mapFormed (mapImage id points) (mapImage id points).length := by
  rw [List.pairwise_map] at rising
  rw [List.pairwise_map, List.pairwise_map] at monotonic
  rw [mapFormed, mapImage_length, mapImage_id fits, mapImage_count few]
  exact ⟨two, few, rfl, Nat.ne_of_gt named, mapImage_next wide rising,
    monotonic.imp (mapImage_next wide) (mapImage_next wide)⟩

end

end

/-! ## COMMIT of a lens map -/

section
variable {channel : Byte} {length : Half} {crc : Word} {s : State}

theorem commitMapBody_unnamed (unnamed : channelOf? channel = none) :
    commitMapBody channel length crc s = (s, plain .badParam) := by
  unfold commitMapBody; rw [unnamed]; rfl

section
variable {n : Fin 12} (named : channelOf? channel = some n)
include named

theorem commitMapBody_notLens (notLens : (s.cond.chans[n]).desc.cls ≠ .lens) :
    commitMapBody channel length crc s = (s, plain .badParam) := by
  unfold commitMapBody; rw [named]
  exact if_pos ((State.chan_notLens_iff s n).2 notLens)

variable (lens : (s.cond.chans[n]).desc.cls = .lens)
include lens

theorem commitMapBody_lens :
    commitMapBody channel length crc s =
      if length.toNat < 4 ∨ 1024 < length.toNat then (s, plain .badParam)
      else if crc32 (s.service.staging.take length.toNat) ≠ crc then (s, plain .badChecksum)
      else ((parseMap (s.service.staging.take length.toNat) length.toNat crc).elim (s, plain .badParam) fun m =>
        (withLens s n { s.lens[n] with pending := some m }, plain .ok)) := by
  unfold commitMapBody; rw [named]
  refine (if_neg fun e => (State.chan_notLens_iff s n).1 e lens).trans ?_
  unfold staged
  cases parseMap (s.service.staging.take length.toNat) length.toNat crc <;> rfl

theorem commitMapBody_length (wrong : length.toNat < 4 ∨ 1024 < length.toNat) :
    commitMapBody channel length crc s = (s, plain .badParam) := (commitMapBody_lens named lens).trans (if_pos wrong)

variable (right : ¬ (length.toNat < 4 ∨ 1024 < length.toNat))
include right

theorem commitMapBody_checksum (wrong : crc32 (s.service.staging.take length.toNat) ≠ crc) :
    commitMapBody channel length crc s = (s, plain .badChecksum) :=
  (commitMapBody_lens named lens).trans ((if_neg right).trans (if_pos wrong))

variable (sum : crc32 (s.service.staging.take length.toNat) = crc)
include sum

theorem commitMapBody_unformed (unformed : ¬ mapFormed (s.service.staging.take length.toNat) length.toNat) :
    commitMapBody channel length crc s = (s, plain .badParam) := by
  rw [commitMapBody_lens named lens, if_neg right, if_neg (not_not.2 sum), parseMap_unformed unformed, Option.elim_none]

theorem commitMapBody_formed (formed : mapFormed (s.service.staging.take length.toNat) length.toNat) :
    commitMapBody channel length crc s =
      (withLens s n { s.lens[n] with pending := some (mapRead (s.service.staging.take length.toNat) crc) },
        plain .ok) := by
  rw [commitMapBody_lens named lens, if_neg right, if_neg (not_not.2 sum), parseMap_formed formed, Option.elim_some]

end

end

end Sys2Proof.Machine

namespace Sys2Proof.Proofs
open Sys2Proof.Machine Sys2Proof.Claims

/-- Settles O20: a map written by the layout passes the checks and is read back whole; then each check in its order. -/
theorem commitLensMapLoads : Obligations.CommitLensMapLoads := by
  refine ⟨?_, ?_⟩
  · intro tag channel length crc s n id points tagged notArming at_ lens named fits two few wide rising monotonic image
      size staged_
    have runs : s.mode.mode ≠ .arming ∨ armingAccepts 0x19 = true := .inl notArming
    have extent : image.length = 4 + 8 * points.length := mapImage_length
    have right : ¬ (length.toNat < 4 ∨ 1024 < length.toNat) := by omega
    have bytes : s.service.staging.take length.toNat = image := by rw [size, staged_]
    have chan := channelOf?_val at_
    refine ⟨fun wrong => request_replied tagged runs (commitMapBody_checksum chan lens right (by rwa [bytes])),
      fun sum => request_replied tagged runs ?_⟩
    have formed : mapFormed (s.service.staging.take length.toNat) length.toNat := by
      rw [bytes, size]
      exact mapFormed_mapImage wide named fits two few rising monotonic
    have read : mapRead image crc = _ := mapRead_mapImage wide fits few crc
    rw [commitMapBody_formed chan lens right (by rw [bytes, sum]) formed, bytes, read]
  · intro tag channel length crc s tagged run bytes id count point formed
    have formed_iff : formed ↔ mapFormed bytes length.toNat := Iff.rfl
    refine ⟨fun arming => request_refusedInArming _ tagged arming rfl, fun notArming => ?_⟩
    have runs : s.mode.mode ≠ .arming ∨ armingAccepts 0x19 = true := .inl notArming
    refine ⟨fun unnamed => request_replied tagged runs (commitMapBody_unnamed (channelOf?_none unnamed)),
      fun n at_ => ?_⟩
    have chan := channelOf?_val at_
    refine ⟨fun notLens => request_replied tagged runs (commitMapBody_notLens chan notLens), fun lens =>
      ⟨fun wrong => request_replied tagged runs (commitMapBody_length chan lens wrong), fun long short => ?_⟩⟩
    have right : ¬ (length.toNat < 4 ∨ 1024 < length.toNat) := by omega
    exact ⟨fun wrong => request_replied tagged runs (commitMapBody_checksum chan lens right wrong),
      fun sum un => request_replied tagged runs (commitMapBody_unformed chan lens right sum (mt formed_iff.2 un)),
      fun sum fit => request_replied tagged runs (commitMapBody_formed chan lens right sum (formed_iff.1 fit))⟩

end Sys2Proof.Proofs
end

section
/-! PROOFS. LensMappingStaysInside: the inverse mapping of a map whose numbers are strictly monotonic on both sides
(R94), and the forward mapping as the inverse mapping of the map with its two sides exchanged (R93). -/

namespace Sys2Proof.Machine
open Sys2Proof.Claims

/-! ## Between two numbers -/

theorem betweenCounts_iff (a b k : Int) : betweenCounts a b k = true ↔ (a ≤ k ∧ k ≤ b) ∨ (b ≤ k ∧ k ≤ a) := by
  simp only [betweenCounts, Bool.or_eq_true, Bool.and_eq_true, decide_eq_true_eq]

theorem betweenCounts_first (a b : Int) : betweenCounts a b a = true := by rw [betweenCounts_iff]; omega

theorem betweenCounts_last (a b : Int) : betweenCounts a b b = true := by rw [betweenCounts_iff]; omega

theorem betweenCounts_within {a b x y k : Int} (hx : betweenCounts a b x = true) (hy : betweenCounts a b y = true)
    (hk : betweenCounts x y k = true) : betweenCounts a b k = true := by
  rw [betweenCounts_iff] at *; omega

/-! ## The rounded proportion inside a segment -/

/-- The value that a segment gives a count: its first value and the rounded proportion (R94). -/
def proportion (p q : Int × Int) (k : Int) : Int := p.1 + roundDiv ((k - p.2) * (q.1 - p.1)) (q.2 - p.2)

theorem roundDiv_zero (d : Int) : roundDiv 0 d = 0 := by rw [roundDiv_eq, Int.zero_mul, Int.sign_zero, Int.zero_mul]

theorem roundDiv_exact {d : Int} (nonzero : d ≠ 0) (y : Int) : roundDiv (d * y) d = y := by
  have size : (2 * (d * y).natAbs + d.natAbs) / (2 * d.natAbs) = y.natAbs := by
    rw [Int.natAbs_mul, show 2 * (d.natAbs * y.natAbs) + d.natAbs = d.natAbs + 2 * d.natAbs * y.natAbs by ring,
      Nat.add_mul_div_left _ _ (by omega), Nat.div_eq_of_lt (by omega), Nat.zero_add]
  have sign : (d * y * d).sign = y.sign := by
    rw [mul_right_comm, Int.sign_mul, Int.sign_eq_one_of_pos (mul_self_pos.2 nonzero), Int.one_mul]
  rw [roundDiv_eq, size, sign, Int.sign_mul_natAbs]

/-- A rounded share of a number lies between 0 and the number. -/
theorem roundDiv_share {x d : Int} (nonzero : d ≠ 0) (share : betweenCounts 0 d x = true) (y : Int) :
    betweenCounts 0 y (roundDiv (x * y) d) = true := by
  obtain ⟨half, -, up, down⟩ := roundDiv_roundsHalfAway (x * y) d nonzero
  rw [betweenCounts_iff] at share ⊢
  have whole : x.natAbs ≤ d.natAbs := by omega
  have sameSign : 0 ≤ x * d := by
    rcases share with ⟨hx, hd⟩ | ⟨hx, hd⟩
    · exact mul_nonneg hx (hx.trans hd)
    · exact mul_nonneg_of_nonpos_of_nonpos hd (hx.trans hd)
  have size : (roundDiv (x * y) d).natAbs ≤ y.natAbs := by
    have bound : (2 * (roundDiv (x * y) d).natAbs) * d.natAbs ≤ (2 * y.natAbs + 1) * d.natAbs := by
      calc _ ≤ 2 * (x * y).natAbs + d.natAbs := half
        _ = 2 * (x.natAbs * y.natAbs) + d.natAbs := by rw [Int.natAbs_mul]
        _ ≤ 2 * (d.natAbs * y.natAbs) + d.natAbs := by gcongr
        _ = (2 * y.natAbs + 1) * d.natAbs := by ring
    have := Nat.le_of_mul_le_mul_right bound (Int.natAbs_pos.2 nonzero)
    omega
  rcases le_total 0 y with pos | neg
  · have := up (by rw [mul_right_comm]; exact mul_nonneg sameSign pos)
    omega
  · have := down (by rw [mul_right_comm]; exact mul_nonpos_of_nonneg_of_nonpos sameSign neg)
    omega

section
variable {p q : Int × Int}

theorem proportion_first : proportion p q p.2 = p.1 := by
  rw [proportion, Int.sub_self, Int.zero_mul, roundDiv_zero, Int.add_zero]

section
variable (apart : p.2 ≠ q.2)
include apart

theorem proportion_last : proportion p q q.2 = q.1 := by
  rw [proportion, roundDiv_exact (by omega)]
  omega

theorem proportion_between {k : Int} (holds : betweenCounts p.2 q.2 k = true) :
    betweenCounts p.1 q.1 (proportion p q k) = true := by
  have share := roundDiv_share (x := k - p.2) (d := q.2 - p.2) (by omega)
    (by rw [betweenCounts_iff] at *; omega) (q.1 - p.1)
  rw [betweenCounts_iff] at *
  unfold proportion
  omega

end
end

/-! ## Lists of numbers, rising or falling -/

/-- Strictly rising, or strictly falling (R90). -/
def Monotonic (xs : List Int) : Prop := xs.Pairwise (· < ·) ∨ xs.Pairwise (· > ·)

theorem Monotonic.sublist {xs ys : List Int} (mono : Monotonic ys) (sub : xs.Sublist ys) : Monotonic xs :=
  mono.imp (·.sublist sub) (·.sublist sub)

theorem Monotonic.two {x y : Int} (mono : Monotonic [x, y]) : x ≠ y := by
  rcases mono with rise | fall
  · have := List.pairwise_pair.1 rise
    omega
  · have := List.pairwise_pair.1 fall
    omega

theorem Monotonic.three {x y z : Int} (mono : Monotonic [x, y, z]) : (x < y ∧ y < z) ∨ (z < y ∧ y < x) := by
  simp only [Monotonic, List.pairwise_cons, List.forall_mem_cons, List.not_mem_nil, false_imp_iff, implies_true,
    List.Pairwise.nil, and_true] at mono
  omega

theorem pairwise_ends {r : Int → Int → Prop} {xs : List Int} (ordered : xs.Pairwise r) {a b x : Int}
    (first : xs.head? = some a) (last : xs.getLast? = some b) (listed : x ∈ xs) :
    (x = a ∨ r a x) ∧ (x = b ∨ r x b) := by
  obtain ⟨rest, rfl⟩ := List.head?_eq_some_iff.1 first
  obtain ⟨front, at_⟩ := List.getLast?_eq_some_iff.1 last
  refine ⟨(List.mem_cons.1 listed).imp_right (List.rel_of_pairwise_cons ordered), ?_⟩
  rw [at_] at listed ordered
  obtain ⟨-, -, across⟩ := List.pairwise_append.1 ordered
  rcases List.mem_append.1 listed with early | end_
  · exact .inr (across x early b (List.mem_singleton_self b))
  · exact .inl (List.mem_singleton.1 end_)

/-- Every number of a monotonic list lies between its first and its last. -/
theorem Monotonic.ends {xs : List Int} (mono : Monotonic xs) {a b x : Int} (first : xs.head? = some a)
    (last : xs.getLast? = some b) (listed : x ∈ xs) : betweenCounts a b x = true := by
  rw [betweenCounts_iff]
  rcases mono with rise | fall
  · have := pairwise_ends rise first last listed
    omega
  · have := pairwise_ends fall first last listed
    omega

/-! ## The segments of a list of points -/

/-- Every number between the second numbers of the first and the last point lies in a segment. -/
theorem exists_segment {k : Int} {l : List (Int × Int)} {first last : Int × Int} (head : l.head? = some first)
    (tail : l.getLast? = some last) (two : 2 ≤ l.length) (inside : betweenCounts first.2 last.2 k = true) :
    ∃ a p q b, l = a ++ p :: q :: b ∧ betweenCounts p.2 q.2 k = true := by
  induction l generalizing first with
  | nil => cases head
  | cons p l ih =>
    obtain rfl : p = first := Option.some.inj head
    cases l with
    | nil => exact absurd two (by decide : ¬ 2 ≤ 1)
    | cons q b =>
      by_cases here : betweenCounts p.2 q.2 k = true
      · exact ⟨[], p, q, b, rfl, here⟩
      · have later : betweenCounts q.2 last.2 k = true := by rw [betweenCounts_iff] at *; omega
        cases b with
        | nil =>
          obtain rfl : q = last := Option.some.inj tail
          exact absurd inside here
        | cons r b =>
          obtain ⟨a, u, v, c, at_, holds⟩ := ih rfl (by simpa using tail) (by simp) later
          exact ⟨p :: a, u, v, c, by rw [at_, List.cons_append], holds⟩

/-- Every point of a list of two or more ends a segment. -/
theorem mem_segment {l : List (Int × Int)} (two : 2 ≤ l.length) {p : Int × Int} (listed : p ∈ l) :
    (∃ a q b, l = a ++ p :: q :: b) ∨ ∃ a q b, l = a ++ q :: p :: b := by
  obtain ⟨a, b, rfl⟩ := List.append_of_mem listed
  cases b with
  | cons q b => exact .inl ⟨a, q, b, rfl⟩
  | nil =>
    rcases List.eq_nil_or_concat a with rfl | ⟨c, q, rfl⟩
    · exact absurd two (by decide : ¬ 2 ≤ 1)
    · exact .inr ⟨c, q, [], by simp⟩

/-- The second numbers of a segment's points differ. -/
theorem Monotonic.apart {l a b : List (Int × Int)} {p q : Int × Int} (mono : Monotonic (l.map Prod.snd))
    (at_ : l = a ++ p :: q :: b) : p.2 ≠ q.2 := by
  have sub : [p, q].Sublist l := at_ ▸ by simp
  exact (mono.sublist (sub.map Prod.snd)).two

/-- The first segment that holds a count gives it the value of any other that holds it: two segments share at most the
point between them. -/
theorem inverseFrom_segment {r p q : Int × Int} {rest a b : List (Int × Int)} {k : Int}
    (mono : Monotonic ((r :: rest).map Prod.snd)) (at_ : r :: rest = a ++ p :: q :: b)
    (holds : betweenCounts p.2 q.2 k = true) : inverseFrom r rest k = proportion p q k := by
  induction a generalizing r rest with
  | nil =>
    cases at_
    exact if_pos holds
  | cons x a ih =>
    obtain ⟨rfl, rfl⟩ := List.cons.inj at_
    have later := mono.sublist (List.sublist_cons_self r.2 _)
    cases a with
    | nil =>
      have ordered := (mono.sublist (xs := [r.2, p.2, q.2]) (by simp)).three
      by_cases also : betweenCounts r.2 p.2 k = true
      · obtain rfl : k = p.2 := by rw [betweenCounts_iff] at *; omega
        exact (if_pos also).trans ((proportion_last (by omega)).trans proportion_first.symm)
      · exact (if_neg also).trans (ih later rfl)
    | cons y a =>
      have before := (mono.sublist (xs := [r.2, y.2, p.2]) (by simp)).three
      have after := (mono.sublist (xs := [r.2, p.2, q.2]) (by simp)).three
      have apart : ¬ betweenCounts r.2 y.2 k = true := by rw [betweenCounts_iff] at *; omega
      exact (if_neg apart).trans (ih later rfl)

/-! ## The inverse mapping -/

/-- R90: a map of two points or more, from `first` to `last`, whose numbers are strictly monotonic on both sides. -/
structure MapShape (m : LensMap) (first last : Int × Int) : Prop where
  head : m.points.head? = some first
  tail : m.points.getLast? = some last
  two : 2 ≤ m.points.length
  fst : Monotonic (m.points.map Prod.fst)
  snd : Monotonic (m.points.map Prod.snd)

theorem inverseMap_points {m : LensMap} {p : Int × Int} {rest : List (Int × Int)} (points : m.points = p :: rest)
    (k : Int) :
    inverseMap m k =
      let last := rest.getLastD p
      if m.rising = true then
        if k < p.2 then (p.1, true) else if last.2 < k then (last.1, true) else (inverseFrom p rest k, false)
      else
        if p.2 < k then (p.1, true) else if k < last.2 then (last.1, true) else (inverseFrom p rest k, false) := by
  unfold inverseMap; rw [points]

section
variable {m : LensMap} {first last : Int × Int} (shape : MapShape m first last)
include shape

theorem MapShape.between_fst {p : Int × Int} (listed : p ∈ m.points) : betweenCounts first.1 last.1 p.1 = true :=
  shape.fst.ends (by rw [List.head?_map, shape.head, Option.map_some])
    (by rw [List.getLast?_map, shape.tail, Option.map_some]) (List.mem_map_of_mem listed)

theorem MapShape.between_snd {p : Int × Int} (listed : p ∈ m.points) : betweenCounts first.2 last.2 p.2 = true :=
  shape.snd.ends (by rw [List.head?_map, shape.head, Option.map_some])
    (by rw [List.getLast?_map, shape.tail, Option.map_some]) (List.mem_map_of_mem listed)

theorem MapShape.rising : (m.rising = true ↔ first.2 < last.2) ∧ first.2 ≠ last.2 := by
  obtain ⟨rest, points⟩ := List.head?_eq_some_iff.1 shape.head
  cases rest with
  | nil =>
    have two := shape.two
    rw [points] at two
    exact absurd two (Nat.lt_irrefl 1)
  | cons q b =>
    have apart := shape.snd.apart (a := []) points
    have inside := (betweenCounts_iff _ _ _).1 (shape.between_snd (p := q) (by rw [points]; simp))
    unfold LensMap.rising
    rw [points]
    exact ⟨decide_eq_true_iff.trans (by omega), by omega⟩

/-- What the inverse mapping does with a count: clamped to the end it lies beyond, or looked up (R94). -/
theorem inverseMap_cases (k : Int) :
    ((first.2 < last.2 ∧ k < first.2 ∨ last.2 < first.2 ∧ first.2 < k) ∧ inverseMap m k = (first.1, true)) ∨
    ((first.2 < last.2 ∧ last.2 < k ∨ last.2 < first.2 ∧ k < last.2) ∧ inverseMap m k = (last.1, true)) ∨
    (betweenCounts first.2 last.2 k = true ∧
      ∃ rest, m.points = first :: rest ∧ inverseMap m k = (inverseFrom first rest k, false)) := by
  obtain ⟨rest, points⟩ := List.head?_eq_some_iff.1 shape.head
  obtain ⟨rising, apart⟩ := shape.rising
  have end_ : rest.getLastD first = last :=
    Option.some.inj (by rw [List.getLastD_eq_getLast?, ← List.getLast?_cons, ← points, shape.tail])
  have mapped := inverseMap_points points k
  simp only [rising, end_] at mapped
  rw [betweenCounts_iff]
  (repeat' split at mapped)
  · exact .inl ⟨by omega, mapped⟩
  · exact .inr (.inl ⟨by omega, mapped⟩)
  · exact .inr (.inr ⟨by omega, rest, points, mapped⟩)
  · exact .inl ⟨by omega, mapped⟩
  · exact .inr (.inl ⟨by omega, mapped⟩)
  · exact .inr (.inr ⟨by omega, rest, points, mapped⟩)

theorem inverseMap_before {k : Int} (up : first.2 < last.2 → k < first.2) (down : last.2 < first.2 → first.2 < k) :
    inverseMap m k = (first.1, true) := by
  have := shape.rising
  rcases inverseMap_cases shape k with ⟨-, mapped⟩ | ⟨after, -⟩ | ⟨inside, -⟩
  · exact mapped
  · omega
  · rw [betweenCounts_iff] at inside; omega

theorem inverseMap_after {k : Int} (up : first.2 < last.2 → last.2 < k) (down : last.2 < first.2 → k < last.2) :
    inverseMap m k = (last.1, true) := by
  have := shape.rising
  rcases inverseMap_cases shape k with ⟨before, -⟩ | ⟨-, mapped⟩ | ⟨inside, -⟩
  · omega
  · exact mapped
  · rw [betweenCounts_iff] at inside; omega

theorem inverseMap_unclamped_iff (k : Int) :
    (inverseMap m k).2 = false ↔ betweenCounts first.2 last.2 k = true := by
  rcases inverseMap_cases shape k with ⟨before, mapped⟩ | ⟨after, mapped⟩ | ⟨inside, _, _, mapped⟩ <;> rw [mapped]
  · exact iff_of_false nofun (by rw [betweenCounts_iff]; omega)
  · exact iff_of_false nofun (by rw [betweenCounts_iff]; omega)
  · exact iff_of_true rfl inside

/-- R94: inside a segment, the rounded proportion. -/
theorem inverseMap_segment {a b : List (Int × Int)} {p q : Int × Int} {k : Int} (at_ : m.points = a ++ p :: q :: b)
    (holds : betweenCounts p.2 q.2 k = true) : inverseMap m k = (proportion p q k, false) := by
  have inside : betweenCounts first.2 last.2 k = true :=
    betweenCounts_within (shape.between_snd (p := p) (by rw [at_]; simp))
      (shape.between_snd (p := q) (by rw [at_]; simp)) holds
  rw [betweenCounts_iff] at inside
  rcases inverseMap_cases shape k with ⟨before, -⟩ | ⟨after, -⟩ | ⟨-, rest, points, mapped⟩
  · omega
  · omega
  · rw [mapped, inverseFrom_segment (points ▸ shape.snd) (points.symm.trans at_) holds]

/-- R94: every value lies between the first and the last. -/
theorem inverseMap_between (k : Int) : betweenCounts first.1 last.1 (inverseMap m k).1 = true := by
  rcases inverseMap_cases shape k with ⟨-, mapped⟩ | ⟨-, mapped⟩ | ⟨inside, -⟩
  · rw [mapped]; exact betweenCounts_first _ _
  · rw [mapped]; exact betweenCounts_last _ _
  · obtain ⟨a, p, q, b, at_, holds⟩ := exists_segment shape.head shape.tail shape.two inside
    rw [inverseMap_segment shape at_ holds]
    exact betweenCounts_within (shape.between_fst (p := p) (by rw [at_]; simp))
      (shape.between_fst (p := q) (by rw [at_]; simp)) (proportion_between (shape.snd.apart at_) holds)

/-- R94: the count of a point has that point's value. -/
theorem inverseMap_point {p : Int × Int} (listed : p ∈ m.points) : inverseMap m p.2 = (p.1, false) := by
  rcases mem_segment shape.two listed with ⟨a, q, b, at_⟩ | ⟨a, q, b, at_⟩
  · rw [inverseMap_segment shape at_ (betweenCounts_first _ _), proportion_first]
  · rw [inverseMap_segment shape at_ (betweenCounts_last _ _), proportion_last (shape.snd.apart at_)]

end

/-! ## The forward mapping -/

/-- A map with its two sides exchanged. -/
def LensMap.exchanged (m : LensMap) : LensMap := { m with points := m.points.map Prod.swap }

theorem MapShape.exchanged {m : LensMap} {first last : Int × Int} (shape : MapShape m first last) :
    MapShape m.exchanged first.swap last.swap where
  head := by rw [LensMap.exchanged, List.head?_map, shape.head, Option.map_some]
  tail := by rw [LensMap.exchanged, List.getLast?_map, shape.tail, Option.map_some]
  two := by rw [LensMap.exchanged, List.length_map]; exact shape.two
  fst := by rw [LensMap.exchanged, List.map_map]; exact shape.snd
  snd := by rw [LensMap.exchanged, List.map_map]; exact shape.fst

theorem forwardFrom_eq {p : Int × Int} {rest : List (Int × Int)} (rising : ((p :: rest).map Prod.fst).Pairwise (· < ·))
    {e : Int} (low : p.1 ≤ e) : forwardFrom p rest e = inverseFrom p.swap (rest.map Prod.swap) e := by
  induction rest generalizing p with
  | nil => rfl
  | cons q rest ih =>
    obtain ⟨first, later⟩ := List.pairwise_cons.1 rising
    have step : p.1 < q.1 := first q.1 (List.mem_cons_self ..)
    have same : e ≤ q.1 ↔ betweenCounts p.1 q.1 e = true := by rw [betweenCounts_iff]; omega
    by_cases here : e ≤ q.1
    · exact (if_pos here).trans (if_pos (same.1 here)).symm
    · exact (if_neg here).trans ((ih later (by omega)).trans (if_neg (mt same.2 here)).symm)

theorem LensMap.exchanged_rising {m : LensMap} (rising : (m.points.map Prod.fst).Pairwise (· < ·)) :
    m.exchanged.rising = true := by
  obtain ⟨id, points, crc⟩ := m
  cases points with
  | nil => rfl
  | cons p rest =>
    cases rest with
    | nil => rfl
    | cons q rest => exact decide_eq_true (List.rel_of_pairwise_cons rising (List.mem_cons_self ..))

/-- R93: where the engineering values rise, the forward mapping is the inverse mapping of the map with its sides
exchanged. -/
theorem forwardMap_eq {m : LensMap} (rising : (m.points.map Prod.fst).Pairwise (· < ·)) (e : Int) :
    forwardMap m e = inverseMap m.exchanged e := by
  have up := LensMap.exchanged_rising rising
  obtain ⟨id, points, crc⟩ := m
  cases points with
  | nil => rfl
  | cons p rest =>
    have end_ : (rest.map Prod.swap).getLastD p.swap = (rest.getLastD p).swap := by
      simp only [List.getLastD_eq_getLast?, List.getLast?_map, Option.getD_map]
    rw [inverseMap_points rfl, end_]
    refine Eq.trans ?_ (if_pos up).symm
    by_cases before : e < p.1
    · exact (if_pos before).trans (if_pos before).symm
    · refine (if_neg before).trans (Eq.trans ?_ (if_neg before).symm)
      rw [forwardFrom_eq rising (Int.not_lt.1 before)]
      rfl

end Sys2Proof.Machine

namespace Sys2Proof.Proofs
open Sys2Proof.Machine

/-- Settles O21: the inverse mapping by R94, and by the same rules the forward mapping, as the inverse mapping of the
map with its sides exchanged. -/
theorem lensMappingStaysInside : Obligations.LensMappingStaysInside := by
  refine ⟨roundDiv_roundsHalfAway, ?_⟩
  intro m first last head tail two rising counts
  have shape : MapShape m first last := ⟨head, tail, two, .inl rising, counts⟩
  have across := shape.exchanged
  have forward (e : Int) : forwardMap m e = inverseMap m.exchanged e := forwardMap_eq rising e
  have up : first.1 < last.1 := across.rising.1.1 (LensMap.exchanged_rising rising)
  have inside (e : Int) : betweenCounts first.1 last.1 e = true ↔ first.1 ≤ e ∧ e ≤ last.1 := by
    rw [betweenCounts_iff]; omega
  refine ⟨fun e => ⟨?_, ?_, fun before => ?_, fun after => ?_⟩, fun k => ⟨?_, ?_, inverseMap_unclamped_iff shape k⟩,
    fun a p q b at_ => ⟨fun e low high => ?_, fun k => inverseMap_segment shape at_⟩, fun k => inverseMap_before shape,
    fun k => inverseMap_after shape, fun p listed => ⟨?_, inverseMap_point shape listed⟩⟩
  · rw [forward]
    exact inverseMap_between across e
  · rw [forward, ← Bool.not_eq_false, inverseMap_unclamped_iff across]
    exact (not_congr (inside e)).trans (by omega)
  · rw [forward, inverseMap_before across (fun _ => before) fun down => absurd up (Int.lt_asymm down)]
    rfl
  · rw [forward, inverseMap_after across (fun _ => after) fun down => absurd up (Int.lt_asymm down)]
    rfl
  · exact ((inside _).1 (inverseMap_between shape k)).1
  · exact ((inside _).1 (inverseMap_between shape k)).2
  · have segment : m.exchanged.points = a.map Prod.swap ++ p.swap :: q.swap :: b.map Prod.swap := by
      rw [LensMap.exchanged, at_, List.map_append, List.map_cons, List.map_cons]
    rw [forward]
    exact inverseMap_segment across segment ((betweenCounts_iff _ _ _).2 (.inl ⟨low, high⟩))
  · rw [forward]
    exact inverseMap_point across (List.mem_map_of_mem listed)

end Sys2Proof.Proofs
end

section
/-! PROOFS. The 4,096 blocks of the take memory (R118): what the Take Store's operations make of the free list, the
entries' block lists and the bad set; with the rules of an entry replaced, of a record appended and of a read
delivered. -/

namespace Sys2Proof.Machine
open Sys2Proof.Claims

/-! ## Directory entries -/

theorem mapEntry_at (st : TakeStore) (i : Fin 32) (f : DirEntry → DirEntry) (j : Fin 32) :
    (st.mapEntry i f).dir[j] = if i = j then f st.dir[i] else st.dir[j] := by
  simp only [TakeStore.mapEntry, Fin.getElem_fin, Vector.getElem_set, Fin.ext_iff]

theorem mapEntry_same (st : TakeStore) (i : Fin 32) (f : DirEntry → DirEntry) :
    (st.mapEntry i f).dir[i] = f st.dir[i] := by rw [mapEntry_at, if_pos rfl]

/-- The block lists of a directory whose entry i is replaced: those before it, its own, those behind it. -/
theorem blockLists_set (dir : Vector DirEntry 32) (i : Fin 32) (e : DirEntry) :
    (dir.set i.val e i.isLt).toList.flatMap DirEntry.blocks =
      (dir.toList.take i.val).flatMap DirEntry.blocks ++
        (e.blocks ++ (dir.toList.drop (i.val + 1)).flatMap DirEntry.blocks) := by
  rw [← Vector.toList_toArray, Vector.toArray_set, Array.toList_set, List.set_eq_take_append_cons_drop,
    if_pos (by simp), List.flatMap_append, List.flatMap_cons, Vector.toList_toArray]

theorem blockLists_split (dir : Vector DirEntry 32) (i : Fin 32) :
    dir.toList.flatMap DirEntry.blocks =
      (dir.toList.take i.val).flatMap DirEntry.blocks ++
        ((dir[i]).blocks ++ (dir.toList.drop (i.val + 1)).flatMap DirEntry.blocks) := by
  have same : dir.set i.val dir[i] i.isLt = dir := Vector.set_getElem_self i.isLt
  rw [← blockLists_set, same]

theorem blockLists_empty {dir : Vector DirEntry 32} (h : ∀ i : Fin 32, (dir[i]).blocks = []) :
    dir.toList.flatMap DirEntry.blocks = [] := by
  refine List.flatMap_eq_nil_iff.2 fun e listed => ?_
  obtain ⟨k, hk, rfl⟩ := List.getElem_of_mem listed
  exact h ⟨k, by simpa using hk⟩

theorem blockLists_congr {d e : Vector DirEntry 32} (h : ∀ i : Fin 32, (d[i]).blocks = (e[i]).blocks) :
    d.toList.flatMap DirEntry.blocks = e.toList.flatMap DirEntry.blocks := by
  have same : d.toList.map DirEntry.blocks = e.toList.map DirEntry.blocks := by
    refine List.ext_getElem (by simp) fun k hk _ => ?_
    simpa using h ⟨k, by simpa using hk⟩
  rw [List.flatMap_def, List.flatMap_def, same]

/-! ## What a read delivers, in its parts -/

/-- The disturbed words that belong to a read: of its record, and of its block's header where it reads that (R123). -/
def errorsOfRead (r : ReadReq) (errors : List WordRead) : List WordRead :=
  errors.filter fun e => r.recordWord e.address || r.header && r.headerWord e.address

/-- Whether one of the disturbed words reads DOUBLE at a place. -/
def doubleIn (st : TakeStore) (errs : List WordRead) (p : Nat → Bool) : Bool :=
  errs.any fun e => st.classOf e == .double && p e.address

/-- Whether the block of a read has a bad header (R123). -/
def headerBad (errors : List WordRead) (r : ReadReq) (st : TakeStore) : Bool :=
  if r.header then
    doubleIn st (errorsOfRead r errors) r.headerWord || !headerMatches st (errorsOfRead r errors) r
  else st.blockBad

/-- Whether a read's record is bad (R123). -/
def recordBad (errors : List WordRead) (r : ReadReq) (st : TakeStore) : Bool :=
  headerBad errors r st || doubleIn st (errorsOfRead r errors) r.recordWord

/-- The Take Store once a read's words are counted and its block is judged. -/
def readCounted (part : Word) (errors : List WordRead) (r : ReadReq) (st : TakeStore) : TakeStore :=
  { takeErrors .playback part (errorsOfRead r errors) st with blockBad := headerBad errors r st, reading := none }

theorem deliver_eq (part : Word) (errors : List WordRead) (r : ReadReq) (st : TakeStore) :
    deliver part errors r st =
      (if recordBad errors r st = true ∧ ((readCounted part errors r st).dir[r.entry]).state = .complete ∧
          ((readCounted part errors r st).dir[r.entry]).take = r.take then
        (readCounted part errors r st).mapEntry r.entry fun e => { e with damaged := true }
      else readCounted part errors r st,
      readRecord st (errorsOfRead r errors) r (recordBad errors r st)) := rfl

/-! ## R118 of a store and of the recording it serves -/

/-- R118 of a Take Store alone. -/
def blocksPartitioned (st : TakeStore) : Prop :=
  (st.state = .ready →
    List.Perm (st.free ++ ((st.dir.toList.flatMap DirEntry.blocks) ++ st.bad)) (List.range 4096)) ∧
  (st.state ≠ .ready → st.free = [] ∧ st.bad = [] ∧ ∀ i : Fin 32, (st.dir[i]).blocks = []) ∧
  (∀ i : Fin 32, (st.dir[i]).state = .empty → (st.dir[i]).blocks = [])

/-- What an active recording finds in the Take Store. -/
def recordingPlaced (r : Recording) (st : TakeStore) : Prop :=
  (r.state ≠ .idle → st.state = .ready ∧ (st.dir[r.entry]).state = .recording) ∧
  (r.state = .recordArmed → (st.dir[r.entry]).blocks = [])

theorem blocksConserved_iff (s : State) :
    blocksConserved s ↔ blocksPartitioned s.store ∧ recordingPlaced s.take.recording s.store := by
  simp only [blocksConserved, blocksPartitioned, recordingPlaced, and_assoc]

theorem recordingPlaced_idle {r : Recording} (st : TakeStore) (idle : r.state = .idle) : recordingPlaced r st :=
  ⟨fun active => absurd idle active, fun armed => by rw [idle] at armed; cases armed⟩

/-- One entry replaced, its blocks exchanged with the free list's: R118 stands. -/
theorem entryReplaced_partitioned {st u : TakeStore} (i : Fin 32) (e : DirEntry) (h : blocksPartitioned st)
    (state : u.state = st.state) (bad : u.bad = st.bad) (dir : u.dir = st.dir.set i.val e i.isLt)
    (moved : List.Perm (u.free ++ e.blocks) (st.free ++ (st.dir[i]).blocks))
    (empty : e.state = .empty → e.blocks = []) : blocksPartitioned u := by
  obtain ⟨ready, away, empties⟩ := h
  have entry (j : Fin 32) : u.dir[j] = if i = j then e else st.dir[j] := by
    rw [dir]; exact mapEntry_at st i (fun _ => e) j
  refine ⟨fun is => ?_, fun is => ?_, fun j => ?_⟩
  · refine List.Perm.trans ?_ (ready (state ▸ is))
    rw [dir, bad, blockLists_set, blockLists_split st.dir i, List.perm_iff_count]
    intro b
    have count := moved.count_eq b
    simp only [List.count_append] at count ⊢
    omega
  · obtain ⟨free, none_, blocks⟩ := away (state ▸ is)
    rw [free, blocks i, List.append_nil] at moved
    obtain ⟨free', blocks'⟩ := List.append_eq_nil_iff.1 (List.perm_nil.1 moved)
    refine ⟨free', bad.trans none_, fun j => ?_⟩
    rw [entry j]; split
    · exact blocks'
    · exact blocks j
  · rw [entry j]; split
    · exact empty
    · exact empties j

/-- Two stores of one memory state whose free lists, bad sets and entries agree in what R118 says of them. -/
structure BlocksSame (st u : TakeStore) : Prop where
  state : u.state = st.state := by rfl
  free : u.free = st.free := by rfl
  bad : u.bad = st.bad := by rfl
  entries : ∀ i : Fin 32, (u.dir[i]).state = (st.dir[i]).state ∧ (u.dir[i]).blocks = (st.dir[i]).blocks := by
    exact fun _ => ⟨rfl, rfl⟩

theorem BlocksSame.partitioned {st u : TakeStore} (h : BlocksSame st u) :
    blocksPartitioned st → blocksPartitioned u := by
  rintro ⟨ready, away, empties⟩
  refine ⟨fun is => ?_, fun is => ?_, fun i => ?_⟩
  · rw [h.free, h.bad, blockLists_congr fun i => (h.entries i).2]
    exact ready (h.state ▸ is)
  · obtain ⟨free, bad, blocks⟩ := away (h.state ▸ is)
    exact ⟨h.free.trans free, h.bad.trans bad, fun i => (h.entries i).2.trans (blocks i)⟩
  · rw [(h.entries i).1, (h.entries i).2]; exact empties i

theorem BlocksSame.placed {st u : TakeStore} (h : BlocksSame st u) {r q : Recording} (state : q.state = r.state)
    (entry : q.entry = r.entry) : recordingPlaced r st → recordingPlaced q u := by
  have same := h.entries r.entry
  unfold recordingPlaced
  simp only [state, entry, h.state, same]; exact id

theorem BlocksSame.trans {st u v : TakeStore} (h : BlocksSame st u) (g : BlocksSame u v) : BlocksSame st v where
  state := g.state.trans h.state
  free := g.free.trans h.free
  bad := g.bad.trans h.bad
  entries i := ⟨(g.entries i).1.trans (h.entries i).1, (g.entries i).2.trans (h.entries i).2⟩

/-- An entry changed in other items. -/
theorem mapEntry_blocksSame (st : TakeStore) (i : Fin 32) (f : DirEntry → DirEntry)
    (state : ∀ e, (f e).state = e.state) (blocks : ∀ e, (f e).blocks = e.blocks) :
    BlocksSame st (st.mapEntry i f) where
  entries j := by
    rw [mapEntry_at]; split
    case isTrue same => rw [← same]; exact ⟨state _, blocks _⟩
    case isFalse => exact ⟨rfl, rfl⟩

/-! ## Recording -/

theorem endEntry_partitioned (i : Fin 32) {st : TakeStore} (h : blocksPartitioned st) :
    blocksPartitioned (endEntry i st) := by
  obtain ⟨dir, free, bad, state, -⟩ := closeLast_frame st.dir[i] noNextBlock st
  refine entryReplaced_partitioned i { st.dir[i] with
    state := .complete, marks := (st.dir[i]).marks.filter fun m => decide (m < (st.dir[i]).length) } h state bad
    ?_ ?_ nofun
  · unfold endEntry TakeStore.mapEntry
    simp only [dir]
  · exact .of_eq (congrArg (· ++ _) free)

theorem interruptedStore_partitioned (r : Recording) {st : TakeStore} (h : blocksPartitioned st) :
    blocksPartitioned (interruptedStore r st) := by
  have marked : BlocksSame st (st.mapEntry r.entry fun e => { e with interrupted := true }) :=
    mapEntry_blocksSame _ _ _ (fun _ => rfl) fun _ => rfl
  unfold interruptedStore; split
  · exact endEntry_partitioned _ (marked.partitioned h)
  · exact h

theorem storeRecord_blocksSame (a : Nat) (bytes : List Byte) (st : TakeStore) :
    BlocksSame st (storeRecord a bytes st) := {}

theorem putRecord_blocksSame (i : Fin 32) (bytes : List Byte) (timecode : Word) (st : TakeStore) :
    BlocksSame st (putRecord i bytes timecode st) := by
  unfold putRecord; dsimp only
  exact (storeRecord_blocksSame _ _ st).trans (mapEntry_blocksSame _ _ _ (fun _ => rfl) fun _ => rfl)

theorem closeLast_blocksSame (e : DirEntry) (next : Nat) (st : TakeStore) : BlocksSame st (closeLast e next st) := by
  obtain ⟨dir, free, bad, state, -⟩ := closeLast_frame e next st
  exact ⟨state, free, bad, fun i => by rw [dir]; exact ⟨rfl, rfl⟩⟩

/-- The free list's head lent to an entry. -/
def blockLent (i : Fin 32) (b : Nat) (rest : List Nat) (st : TakeStore) : TakeStore :=
  { st with free := rest }.mapEntry i fun e => { e with blocks := e.blocks ++ [b] }

theorem blockLent_partitioned (i : Fin 32) {b : Nat} {rest : List Nat} {st : TakeStore} (free : st.free = b :: rest)
    (used : (st.dir[i]).state ≠ .empty) (h : blocksPartitioned st) : blocksPartitioned (blockLent i b rest st) := by
  refine entryReplaced_partitioned i { st.dir[i] with blocks := (st.dir[i]).blocks ++ [b] } h rfl rfl rfl ?_
    fun empty => absurd empty used
  rw [free, List.perm_iff_count]
  intro x
  show List.count x (rest ++ ((st.dir[i]).blocks ++ [b])) = _
  simp only [List.count_append, List.count_cons, List.count_nil]
  omega

/-- A record appended to the entry of a RECORDING recording, by whether another block is needed and the free list has
one (R122). -/
theorem appendRecord_cases (i : Fin 32) (bytes : List Byte) (timecode : Word) (st : TakeStore) :
    ((st.dir[i]).length ≠ (st.dir[i]).blocks.length * (st.dir[i]).perBlock ∧
      appendRecord i bytes timecode st = (putRecord i bytes timecode st, true)) ∨
    ((st.dir[i]).length = (st.dir[i]).blocks.length * (st.dir[i]).perBlock ∧
      ((st.free = [] ∧ appendRecord i bytes timecode st = (closeLast st.dir[i] noNextBlock st, false)) ∨
      ∃ b rest, st.free = b :: rest ∧ appendRecord i bytes timecode st =
        (putRecord i bytes timecode (blockLent i b rest (closeLast st.dir[i] b st)), true))) := by
  unfold appendRecord; dsimp only
  split
  case isTrue full =>
    refine .inr ⟨full, ?_⟩
    cases st.free with
    | nil => exact .inl ⟨rfl, rfl⟩
    | cons b rest => exact .inr ⟨b, rest, rfl, rfl⟩
  case isFalse room => exact .inl ⟨room, rfl⟩

theorem appendRecord_keeps {i : Fin 32} (bytes : List Byte) (timecode : Word) {st : TakeStore}
    (recording : (st.dir[i]).state = .recording) (h : blocksPartitioned st) :
    blocksPartitioned (appendRecord i bytes timecode st).1 ∧
    (appendRecord i bytes timecode st).1.state = st.state ∧
    ((appendRecord i bytes timecode st).1.dir[i]).state = .recording := by
  rcases appendRecord_cases i bytes timecode st with ⟨-, e⟩ | ⟨-, ⟨-, e⟩ | ⟨b, rest, free, e⟩⟩ <;> rw [e] <;> dsimp only
  · have put := putRecord_blocksSame i bytes timecode st
    exact ⟨put.partitioned h, put.state, (put.entries i).1.trans recording⟩
  · have closed := closeLast_blocksSame st.dir[i] noNextBlock st
    exact ⟨closed.partitioned h, closed.state, (closed.entries i).1.trans recording⟩
  · have closed := closeLast_blocksSame st.dir[i] b st
    have put := putRecord_blocksSame i bytes timecode (blockLent i b rest (closeLast st.dir[i] b st))
    have kept : ((closeLast st.dir[i] b st).dir[i]).state = .recording := (closed.entries i).1.trans recording
    refine ⟨put.partitioned (blockLent_partitioned i (closed.free.trans free) (by rw [kept]; decide)
      (closed.partitioned h)), put.state.trans closed.state, (put.entries i).1.trans ?_⟩
    unfold blockLent
    rw [mapEntry_same]; exact kept

/-! ## Takes created and deleted, the format -/

/-- An entry that holds no block replaced by another that holds none. -/
theorem bareEntry_partitioned (i : Fin 32) (e : DirEntry) {st : TakeStore} (h : blocksPartitioned st)
    (before : (st.dir[i]).blocks = []) (after : e.blocks = []) : blocksPartitioned (st.mapEntry i fun _ => e) :=
  entryReplaced_partitioned i e h rfl rfl rfl
    (.of_eq (congrArg₂ (· ++ ·) (rfl : (st.mapEntry i fun _ => e).free = st.free) (after.trans before.symm)))
    fun _ => after

theorem deleteEntry_partitioned (i : Fin 32) {st : TakeStore} (h : blocksPartitioned st) :
    blocksPartitioned (deleteEntry i st) :=
  entryReplaced_partitioned i emptyEntry h rfl rfl rfl (.of_eq (List.append_nil _)) fun _ => rfl

theorem beginFormat_partitioned (st : TakeStore) : blocksPartitioned (beginFormat st) := by
  have bare (i : Fin 32) : (beginFormat st).dir[i] = emptyEntry := Vector.getElem_replicate _
  exact ⟨nofun, fun _ => ⟨rfl, rfl, fun i => by rw [bare]; rfl⟩, fun i _ => by rw [bare]; rfl⟩

/-- The format's completion parts the 4,096 blocks between the free list and the bad set (R117). -/
theorem completeFormat_partitioned {st : TakeStore} (h : blocksPartitioned st) (formatting : st.state = .formatting) :
    blocksPartitioned (completeFormat st) := by
  obtain ⟨-, away, empties⟩ := h
  obtain ⟨-, -, blocks⟩ := away (by rw [formatting]; decide)
  refine ⟨fun _ => ?_, fun other => absurd rfl other, empties⟩
  rw [show (completeFormat st).dir = st.dir from rfl, blockLists_empty blocks]
  simpa [completeFormat, blockCount] using
    List.filter_append_perm (fun n => !st.formatFailed.contains n) (List.range 4096)

theorem takeErrors_blocksSame (r : MemReader) (part : Word) (es : List WordRead) (st : TakeStore) :
    BlocksSame st (takeErrors r part es st) := by
  obtain ⟨-, -, dir, free, bad, state, -⟩ := takeErrors_frame r part es st
  exact ⟨state, free, bad, fun i => by rw [dir]; exact ⟨rfl, rfl⟩⟩

theorem testBlock_partitioned (part : Word) (errors : List WordRead) (differ : List Nat) {st : TakeStore}
    (h : blocksPartitioned st) (formatting : st.state = .formatting) :
    blocksPartitioned (testBlock part errors differ st) := by
  have tested := takeErrors_blocksSame .format part (errors.filter fun e => wordInBlock st.progress e.address)
    (writePattern st.progress st)
  have kept : BlocksSame st (writePattern st.progress st) := {}
  have same := kept.trans tested
  unfold testBlock; dsimp only
  split
  · exact completeFormat_partitioned (BlocksSame.partitioned
      ⟨same.state, same.free, same.bad, same.entries⟩ h) (same.state.trans formatting)
  · exact BlocksSame.partitioned ⟨same.state, same.free, same.bad, same.entries⟩ h

theorem endFormat_partitioned {st : TakeStore} (h : blocksPartitioned st) : blocksPartitioned (endFormat st) := by
  unfold endFormat; split
  case isTrue formatting =>
    obtain ⟨-, away, empties⟩ := h
    obtain ⟨-, -, blocks⟩ := away (by rw [formatting]; decide)
    exact ⟨nofun, fun _ => ⟨rfl, rfl, blocks⟩, empties⟩
  case isFalse => exact h

theorem deliver_blocksSame (part : Word) (errors : List WordRead) (r : ReadReq) (st : TakeStore) :
    BlocksSame st (deliver part errors r st).1 := by
  have same := takeErrors_blocksSame .playback part (errorsOfRead r errors) st
  have counted : BlocksSame st (readCounted part errors r st) := ⟨same.state, same.free, same.bad, same.entries⟩
  rw [deliver_eq]; dsimp only; split
  · exact counted.trans (mapEntry_blocksSame _ _ _ (fun _ => rfl) fun _ => rfl)
  · exact counted

end Sys2Proof.Machine
end

section
/-! PROOFS. The blocks of the take memory (R118) over one operation: the causes, the recording, the frames, the link and
the returns. -/

namespace Sys2Proof.Machine
open Sys2Proof.Claims

/-! ## What an operation keeps -/

/-- What an operation keeps of the blocks and of the recording that takes them. -/
def KeepsBlocks (s t : State) : Prop := blocksConserved s → blocksConserved t

theorem KeepsBlocks.refl (s : State) : KeepsBlocks s s := id

theorem KeepsBlocks.trans {s t u : State} (h : KeepsBlocks s t) (g : KeepsBlocks t u) : KeepsBlocks s u := g ∘ h

/-- An operation that leaves the blocks where they are, and the recording in its state and at its entry. -/
theorem KeepsBlocks.of_same {s t : State} (store : BlocksSame s.store t.store)
    (state : t.take.recording.state = s.take.recording.state)
    (entry : t.take.recording.entry = s.take.recording.entry) : KeepsBlocks s t := by
  intro h
  obtain ⟨parted, placed⟩ := (blocksConserved_iff s).1 h
  exact (blocksConserved_iff t).2 ⟨store.partitioned parted, store.placed state entry placed⟩

/-- An operation on other blocks of the part. -/
theorem KeepsBlocks.of_blocks {s t : State} (store : t.store = s.store := by simp)
    (recording : t.take.recording = s.take.recording := by simp) : KeepsBlocks s t :=
  .of_same (by rw [store]; exact {}) (by rw [recording]) (by rw [recording])

/-- An operation on the Take Store alone. -/
theorem KeepsBlocks.of_store {s : State} {x : TakeStore} (same : BlocksSame s.store x) : KeepsBlocks s (s.setStore x) :=
  .of_same same rfl rfl

/-- An operation after which no recording is active. -/
theorem KeepsBlocks.of_idle {s t : State} (store : blocksPartitioned s.store → blocksPartitioned t.store)
    (idle : t.take.recording.state = .idle) : KeepsBlocks s t := fun h =>
  (blocksConserved_iff t).2 ⟨store ((blocksConserved_iff s).1 h).1, recordingPlaced_idle _ idle⟩

theorem setLink_keepsBlocks (x : Link) (s : State) : KeepsBlocks s (s.setLink x) := .of_blocks rfl rfl

theorem setZone_keepsBlocks (x : ZoneMonitor) (s : State) : KeepsBlocks s (s.setZone x) := .of_blocks rfl rfl

theorem setGeo_keepsBlocks (x : Geometry) (s : State) : KeepsBlocks s (s.setGeo x) := .of_blocks rfl rfl

theorem setTimer_keepsBlocks (x : Nat) (s : State) : KeepsBlocks s (s.setTimer x) := .of_blocks rfl rfl

theorem setPins_keepsBlocks (x : Pins) (s : State) : KeepsBlocks s (s.setPins x) := .of_blocks rfl rfl

theorem setStop_keepsBlocks (x : StopController) (s : State) : KeepsBlocks s (s.setStop x) := .of_blocks rfl rfl

theorem setCapture_keepsBlocks (x : CaptureUnit) (s : State) : KeepsBlocks s (s.setCapture x) := .of_blocks rfl rfl

theorem mapLens_keepsBlocks (n : Fin 12) (f : LensChannel → LensChannel) (s : State) : KeepsBlocks s (s.mapLens n f) :=
  .of_blocks rfl rfl

theorem mapChan_keepsBlocks (n : Fin 12) (f : Channel → Channel) (s : State) : KeepsBlocks s (s.mapChan n f) :=
  .of_blocks rfl rfl

theorem mapChans_keepsBlocks (f : Fin 12 → Channel → Channel) (s : State) : KeepsBlocks s (s.mapChans f) :=
  .of_blocks rfl rfl

theorem setTake_keepsBlocks (x : TakeEngine) (s : State) (same : x.recording = s.take.recording) :
    KeepsBlocks s (s.setTake x) := .of_blocks rfl same

/-! ## The recording ended -/

theorem endRecording_keepsBlocks (s : State) : KeepsBlocks s (endRecording s) :=
  .of_idle (endEntry_partitioned s.take.recording.entry) rfl

/-- A store that agrees with that of an interrupted recording (R139). -/
theorem KeepsBlocks.of_interrupted {s t : State}
    (store : BlocksSame (interruptedStore s.take.recording s.store) t.store)
    (recording : t.take.recording = interruptedRecording s.take.recording) : KeepsBlocks s t :=
  .of_idle (fun h => store.partitioned (interruptedStore_partitioned _ h)) (by rw [recording]; simp)

theorem unwanted_blocksSame (st : TakeStore) : BlocksSame st (unwanted st) := {}

theorem stopBegins_interrupts (s : State) :
    BlocksSame (interruptedStore s.take.recording s.store) (stopBegins s).store := by
  rw [stopBegins_store]; split
  · exact unwanted_blocksSame _
  · exact {}

theorem abortPlay_keepsBlocks (r : AbortReason) (s : State) : KeepsBlocks s (abortPlay r s) :=
  .of_same (by rw [abortPlay_store]; exact unwanted_blocksSame _) rfl rfl

theorem abortActive_keepsBlocks (r : AbortReason) (s : State) : KeepsBlocks s (abortActive r s) := by
  unfold abortActive; split
  · exact abortPlay_keepsBlocks r s
  · exact .refl s

/-! ## Causes, and the ends of an arming and of LIVE -/

theorem abortArming_keepsBlocks (r : CheckResult) (e : AbortEvent) (m : Checks → Checks) (d : Option CheckDetail)
    (s : State) : KeepsBlocks s (abortArming r e m d s) := .of_blocks rfl rfl

theorem takeCause_keepsBlocks (c : Cause) (s : State) : KeepsBlocks s (takeCause c s) := by
  cases mode : s.mode.mode with
  | parked => rw [takeCause_parked c mode]; exact .refl s
  | arming => rw [takeCause_arming c mode]; exact .of_blocks (by simp [causeNoted]) (by simp [causeNoted])
  | live =>
    by_cases normal : s.stop.safety = .normal
    · obtain ⟨-, take, store⟩ := Proofs.live_fromNormal c mode normal
      exact .of_interrupted (store ▸ stopBegins_interrupts s) (by rw [take, stopBegins_take])
    · obtain ⟨-, take, store⟩ := Proofs.live_elsewhere c mode normal
      exact .of_blocks store (by rw [take])

theorem takeCauses_keepsBlocks (cs : List Cause) (s : State) : KeepsBlocks s (takeCauses cs s) := by
  induction cs generalizing s with
  | nil => exact .refl s
  | cons c cs ih => exact (takeCause_keepsBlocks c s).trans (ih _)

theorem settleDecision_keepsBlocks (s : State) : KeepsBlocks s (settleDecision s) := by
  unfold settleDecision; split
  · rw [decideArming_eq]; split <;> exact .of_blocks rfl rfl
  · exact .refl s

theorem leaveLive_keepsBlocks (s : State) : KeepsBlocks s (leaveLive s) := by
  rw [leaveLive_eq]; exact .of_interrupted {} rfl

theorem parkLive_keepsBlocks (s : State) : KeepsBlocks s (parkLive s) := by
  have failed (u : State) : KeepsBlocks u (failCalibrations .parked u) := .of_blocks
  unfold parkLive; dsimp only
  refine KeepsBlocks.trans ?_ ((leaveLive_keepsBlocks _).trans (failed _))
  split
  · exact abortPlay_keepsBlocks _ s
  · exact .refl s

theorem softReset_keepsBlocks (s : State) : KeepsBlocks s (softReset s) := by
  refine .of_idle (fun h => ?_) (by rw [softReset_blocks]; simp)
  have ended : (softReset s).store = endFormat (unwanted (resetBegun s).store) := rfl
  rw [ended, resetBegun_store]
  exact endFormat_partitioned ((unwanted_blocksSame _).partitioned (interruptedStore_partitioned _ h))

theorem resetPart_keepsBlocks (s : State) : KeepsBlocks s (resetPart s) := by
  obtain ⟨-, -, -, -, reset, -⟩ := Proofs.resetMeetsInvariants
  intro _
  exact (blocksConserved_iff _).2 ⟨((blocksConserved_iff _).1 reset).1, recordingPlaced_idle _ rfl⟩

/-! ## Placement -/

theorem handSlip_keepsBlocks (s : State) : KeepsBlocks s (handSlip s) := by
  have slipped : KeepsBlocks s
      (s.setStore (s.store.mapEntry s.take.recording.entry fun e => { e with slipped := true })) :=
    .of_store (mapEntry_blocksSame _ _ _ (fun _ => rfl) fun _ => rfl)
  have counted (u : State) (n : Nat) :
      KeepsBlocks u (u.setTake { u.take with play := { u.take.play with runSlips := n } }) :=
    setTake_keepsBlocks _ u rfl
  unfold handSlip; dsimp only
  split <;> split
  · exact slipped.trans (counted _ _)
  · exact slipped
  · exact counted s _
  · exact .refl s

theorem placeNext_keepsBlocks (s : State) : KeepsBlocks s (placeNext s).1 := by
  have moved : KeepsBlocks s (s.setTake { s.take with ref := (placeReference s.take.ref).1 }) :=
    setTake_keepsBlocks _ s rfl
  unfold placeNext; dsimp only; split
  · exact moved.trans (handSlip_keepsBlocks _)
  · exact moved

theorem placeAhead_keepsBlocks (s : State) : KeepsBlocks s (placeAhead s) :=
  (placeNext_keepsBlocks s).trans (setTake_keepsBlocks _ _ rfl)

theorem placeFrame_keepsBlocks (s : State) : KeepsBlocks s (placeFrame s).1 := by
  unfold placeFrame; split
  · exact setTake_keepsBlocks _ s rfl
  · exact placeNext_keepsBlocks s

theorem startPlay_keepsBlocks (s : State) : KeepsBlocks s (startPlay s) := setTake_keepsBlocks _ s rfl

/-- An armed recording begins (R134): its entry is RECORDING already. -/
theorem recordingBegins_keepsBlocks {s : State} (waits : s.take.recording.state = .recordArmed) :
    KeepsBlocks s (s.setTake { s.take with recording := { s.take.recording with state := .recording } }) := by
  intro h
  obtain ⟨parted, active, -⟩ := (blocksConserved_iff s).1 h
  exact (blocksConserved_iff _).2 ⟨parted, fun _ => active (by rw [waits]; decide), nofun⟩

theorem frameStarts_keepsBlocks (timecode : Word) (s : State) : KeepsBlocks s (frameStarts timecode s) := by
  have triggered (u : State) : KeepsBlocks u (if triggerStarts u.take timecode = true then startPlay u else u) := by
    split
    · exact startPlay_keepsBlocks u
    · exact .refl u
  unfold frameStarts; dsimp only
  refine KeepsBlocks.trans ?_ (triggered _)
  split
  case isTrue waits => exact recordingBegins_keepsBlocks waits
  case isFalse => exact .refl s

theorem placeOutbound_keepsBlocks (request : State → State) (timecode : Word) (s : State) :
    KeepsBlocks s (placeOutbound request timecode s).1 := by
  unfold placeOutbound; dsimp only; split
  · exact placeFrame_keepsBlocks s
  · exact (placeFrame_keepsBlocks s).trans ((frameStarts_keepsBlocks timecode _).trans .of_blocks)

/-! ## The outbound work -/

theorem startRead_keepsBlocks (s : State) : KeepsBlocks s (startRead s) := by
  unfold startRead; dsimp only; split
  · exact .of_same {} rfl rfl
  · exact .refl s

theorem playFrame_keepsBlocks (s : State) : KeepsBlocks s (playFrame s) := by
  have advanced : KeepsBlocks s (playAdvanced s) :=
    (setTake_keepsBlocks { s.take with play := useRecord (advancePlay s.take.play) } s rfl).trans
      (startRead_keepsBlocks _)
  rw [playFrame_eq]; split
  · exact advanced.trans (takeCause_keepsBlocks _ _)
  · exact advanced

theorem supply_keepsBlocks (s : State) : KeepsBlocks s (supply s).1 := by
  have given (values : Option (List Int)) : KeepsBlocks s (match values with
      | none => (s, none)
      | some v => (s.setTake { s.take with play := giveValues v s.take.play }, some v) : State × _).1 := by
    cases values with
    | none => exact .refl s
    | some v => exact setTake_keepsBlocks _ s rfl
  unfold supply; dsimp only; split
  · exact playFrame_keepsBlocks s
  · exact given _
  · exact given _
  · exact .refl s

theorem storeConditioned_keepsBlocks (r : Vector Conditioned 12) (s : State) : KeepsBlocks s (storeConditioned r s) :=
  .of_blocks (by simp) (by rw [storeConditioned_take])

/-- A frame's record appended takes blocks for the recording's own entry, and its ending frees none (R122, R134 to
R138). -/
theorem appendFrame_keepsBlocks (cut : Bool) (pl : Placement) (timecode : Word) (s : State) :
    KeepsBlocks s (appendFrame cut pl timecode s) := by
  have truncated (u : State) : KeepsBlocks u
      (u.setStore (u.store.mapEntry u.take.recording.entry fun e => { e with truncated := true })) :=
    .of_store (mapEntry_blocksSame _ _ _ (fun _ => rfl) fun _ => rfl)
  have indexed (u : State) (n : Nat) :
      KeepsBlocks u (u.setTake { u.take with recording := { u.take.recording with index := n } }) :=
    .of_same {} rfl rfl
  unfold appendFrame; dsimp only
  split
  case isTrue => exact .refl s
  split
  case isFalse => exact .refl s
  case isTrue records =>
    have appended : KeepsBlocks s
        (s.setStore (appendRecord s.take.recording.entry (frameRecord pl s) timecode s.store).1) := by
      intro h
      obtain ⟨parted, active, -⟩ := (blocksConserved_iff s).1 h
      obtain ⟨ready, recording⟩ := active (by rw [records]; decide)
      obtain ⟨parted', state, kept⟩ := appendRecord_keeps (frameRecord pl s) timecode recording parted
      refine (blocksConserved_iff _).2 ⟨parted', fun _ => ⟨state.trans ready, kept⟩, fun armed => ?_⟩
      exact absurd (records.symm.trans armed) (by decide)
    refine appended.trans ?_
    split
    · split
      · exact (indexed _ _).trans (endRecording_keepsBlocks _)
      · exact indexed _ _
    · exact (truncated _).trans (endRecording_keepsBlocks _)

theorem playHandOn_keepsBlocks (s : State) : KeepsBlocks s (playHandOn s) := by
  unfold playHandOn; dsimp only; split
  · split
    · exact setTake_keepsBlocks _ s rfl
    · exact .refl s
  · split
    · exact (setTake_keepsBlocks _ s rfl).trans (.of_store (unwanted_blocksSame _))
    · exact .refl s
  · exact .refl s

theorem stopTick_keepsBlocks (s : State) : KeepsBlocks s (stopTick s) := by
  unfold stopTick; dsimp only; split
  · exact .of_blocks
  split
  · exact KeepsBlocks.trans .of_blocks (takeCause_keepsBlocks _ _)
  · exact .of_blocks

theorem handOn_keepsBlocks (pl : Placement) (timecode : Word) (b : Bool) (r : Vector Conditioned 12) (s : State) :
    KeepsBlocks s (handOn pl timecode b r s) := by
  have tested (u : State) (i : Option Nat) : KeepsBlocks u (outputTests i timecode u) := .of_blocks
  have swapped (u : State) : KeepsBlocks u (swapMaps u) := .of_blocks
  have caused : KeepsBlocks s _ := (appendFrame_keepsBlocks (cutByLimit r s) pl timecode s).trans
    ((tested _ (handedIndex (cutByLimit r s) pl timecode s)).trans ((playHandOn_keepsBlocks _).trans
      ((swapped _).trans (takeCauses_keepsBlocks (limitHits r) _))))
  rw [handOn_eq]; split
  · exact caused.trans (stopTick_keepsBlocks _)
  · exact caused

theorem finishOutbound_keepsBlocks (o : Outbound) (pl : Placement) (s : State) :
    KeepsBlocks s (finishOutbound o pl s) := by
  unfold finishOutbound; dsimp only
  exact (supply_keepsBlocks s).trans ((storeConditioned_keepsBlocks _ _).trans
    ((handOn_keepsBlocks _ _ _ _ _).trans (setLink_keepsBlocks _ _)))

theorem takePart_keepsBlocks (s : State) : KeepsBlocks s (takePart s) := .of_blocks

theorem originateSubst_keepsBlocks (s : State) : KeepsBlocks s (originateSubst s) := by
  unfold originateSubst; dsimp only
  exact (setLink_keepsBlocks _ s).trans ((takePart_keepsBlocks _).trans ((placeOutbound_keepsBlocks _ _ _).trans
    (finishOutbound_keepsBlocks _ _ _)))

theorem goSilent_keepsBlocks (s : State) : KeepsBlocks s (goSilent s) := by
  unfold goSilent; dsimp only
  exact (setLink_keepsBlocks _ s).trans ((takeCause_keepsBlocks _ _).trans (originateSubst_keepsBlocks _))

/-! ## The link -/

theorem setRx_keepsBlocks (p : PortId) (r : Receiver) (s : State) : KeepsBlocks s (setRx p r s) := .of_blocks

theorem portError_keepsBlocks (p : PortId) (k : ErrKind) (s : State) : KeepsBlocks s (portError p k s) := by
  unfold portError; dsimp only
  split
  · split
    · exact (setLink_keepsBlocks _ s).trans (takeCause_keepsBlocks _ _)
    · exact setLink_keepsBlocks _ s
  · exact .refl s

theorem afterLoss_keepsBlocks (e : InFlight) (s : State) : KeepsBlocks s (afterLoss e s) := by
  have lost : KeepsBlocks s (lossTaken s) := by
    unfold lossTaken; split
    · exact (setLink_keepsBlocks _ s).trans (takeCause_keepsBlocks _ _)
    · exact setLink_keepsBlocks _ s
  have noted (u : State) : KeepsBlocks u
      (sendConstructed e ((u.setLink (lossNoted u.link)).mapAllLens fun _ l => emptyWindow l)) := .of_blocks
  rw [afterLoss_eq]
  exact lost.trans (noted _)

theorem loseOldest_keepsBlocks (s : State) : KeepsBlocks s (loseOldest s) := by
  unfold loseOldest; split
  · exact .refl s
  · exact (setLink_keepsBlocks _ s).trans (afterLoss_keepsBlocks _ _)

theorem loseEntries_keepsBlocks (n : Nat) (s : State) : KeepsBlocks s (loseEntries n s) := by
  induction n generalizing s with
  | zero => exact .refl s
  | succ n ih => exact (loseOldest_keepsBlocks s).trans (ih _)

theorem expireEntries_keepsBlocks (s : State) : KeepsBlocks s (expireEntries s) := loseEntries_keepsBlocks _ _

theorem sendNext_keepsBlocks (s : State) : KeepsBlocks s (sendNext s) := by
  unfold sendNext; split
  · exact .refl s
  · dsimp only; split
    · exact (setLink_keepsBlocks _ s).trans ((loseOldest_keepsBlocks _).trans (setLink_keepsBlocks _ _))
    · exact (setLink_keepsBlocks _ s).trans (setLink_keepsBlocks _ _)

theorem takeIn_keepsBlocks (p : PortId) (k : FrameClass) (clean : Bool) (s : State) :
    KeepsBlocks s (takeIn p k clean s) := by
  unfold takeIn; dsimp only
  refine KeepsBlocks.trans ?_ (setRx_keepsBlocks _ _ _)
  cases k with
  | bad =>
    dsimp only; split
    · exact portError_keepsBlocks _ _ s
    · exact .refl s
  | wrongKind => exact portError_keepsBlocks _ _ s
  | good => exact .refl s

/-! ## Returns -/

theorem evaluateZones_keepsBlocks (part : Word) (s : State) : KeepsBlocks s (evaluateZones part s) := by
  have passed (r : Option PassResult) (u : State) : KeepsBlocks u (afterPass r u) := by
    unfold afterPass; split
    · exact .of_blocks
    · exact takeCause_keepsBlocks _ u
    · exact .refl u
  obtain ⟨-, -, -, -, -, -, -, -, -, -, -, store, take⟩ := slowTested_frame part s
  have tested : KeepsBlocks s (slowTested part s) := .of_blocks store (by rw [take])
  rw [evaluateZones_eq]
  exact tested.trans ((takeCauses_keepsBlocks (zoneStops s.geo (zonesSampled s)) _).trans
    ((setZone_keepsBlocks _ (zonesStopped part s)).trans (passed _ _)))

theorem matchedReturn_keepsBlocks (e : InFlight) (f : Frame) (s : State) : KeepsBlocks s (matchedReturn e f s) := by
  have mapped (u : State) : KeepsBlocks u (mapReturn e.part u) := .of_blocks
  have crossed (u : State) : KeepsBlocks u (testCrossing .feedbackCrosses u.take.play.state
      (fun n => (u.chan n).feedback) e.part (consoleTimecode u) u) := .of_blocks
  have forwarded (u : State) : KeepsBlocks u (forwardReturn e f u) := .of_blocks
  unfold matchedReturn; dsimp only
  exact (setLink_keepsBlocks _ s).trans ((takeCauses_keepsBlocks _ _).trans ((setGeo_keepsBlocks _ _).trans
    ((evaluateZones_keepsBlocks _ _).trans ((mapped _).trans ((crossed _).trans (forwarded _))))))

theorem goodReturn_keepsBlocks (f : Frame) (s : State) : KeepsBlocks s (goodReturn f s) := by
  unfold goodReturn; split
  case h_1 => exact portError_keepsBlocks _ _ s
  case h_2 k _ =>
    dsimp only
    have passed : KeepsBlocks s (loseEntries k (deliverFeedback f s)) :=
      (mapChans_keepsBlocks _ s).trans (loseEntries_keepsBlocks k _)
    generalize loseEntries k (deliverFeedback f s) = u at passed ⊢
    split
    case h_1 => exact passed
    case h_2 e rest _ =>
      refine (passed.trans (setLink_keepsBlocks { u.link with inFlight := rest } u)).trans
        (KeepsBlocks.trans ?_ (matchedReturn_keepsBlocks e f _))
      split
      · exact .refl _
      · exact portError_keepsBlocks _ _ _

theorem returnFrame_keepsBlocks (clean : Bool) (bytes : List Byte) (s : State) :
    KeepsBlocks s (returnFrame clean bytes s) := by
  unfold returnFrame; dsimp only; split
  · exact (takeIn_keepsBlocks _ _ _ s).trans (goodReturn_keepsBlocks _ _)
  · exact takeIn_keepsBlocks _ _ _ s

end Sys2Proof.Machine
end

section
/-! PROOFS. The blocks of the take memory (R118) over every row of the dispatcher, and BlocksStayConserved. -/

namespace Sys2Proof.Machine
open Sys2Proof.Claims

/-! ## Requests -/

theorem answer_keepsBlocks (tag code : Byte) (r : Reply) (s : State) : KeepsBlocks s (answer tag code r s) := .of_blocks

/-- A request keeps what its own rule keeps. -/
theorem request_keepsBlocks {tag code : Byte} {body : Body} {s : State} (h : KeepsBlocks s (body s).1) :
    KeepsBlocks s (request tag code body s) := by
  rcases request_cases tag code body s with ⟨-, e⟩ | ⟨-, e⟩ | ⟨-, e⟩ <;> rw [e]
  · exact .refl s
  · exact answer_keepsBlocks _ _ _ s
  · exact h.trans (answer_keepsBlocks _ _ _ _)

/-- A request that reads (R186, R189). -/
theorem reading_keepsBlocks {tag code : Byte} {body : Body} {s : State} (reads : (body s).1 = s) :
    KeepsBlocks s (request tag code body s) := request_keepsBlocks (by rw [reads]; exact .refl s)

theorem setChannelBody_keepsBlocks (channel cls role kind : Byte) (f : ChannelFields) (s : State) :
    KeepsBlocks s (setChannelBody channel cls role kind f s).1 := by
  have written (n : Fin 12) (d : Descriptor) : KeepsBlocks s (writeDescriptor n d s) := by
    unfold writeDescriptor; dsimp only; split
    · exact (mapChan_keepsBlocks _ _ s).trans (mapLens_keepsBlocks _ _ _)
    · exact mapChan_keepsBlocks _ _ s
  unfold setChannelBody; (repeat' split)
  · exact .refl s
  · exact .refl s
  · exact .refl s
  · exact written _ _

theorem setSourceBody_keepsBlocks (mask : Half) (source : Byte) (s : State) :
    KeepsBlocks s (setSourceBody mask source s).1 := by
  unfold setSourceBody; (repeat' split)
  · exact .refl s
  · exact .refl s
  · exact .refl s
  · dsimp only; exact mapChans_keepsBlocks _ s

theorem stageWrite_keepsBlocks (tag : Byte) (offset : Half) (bytes : List Byte) (s : State) :
    KeepsBlocks s (stateAfter s (execStageWrite tag offset bytes s)) := by
  have staged : KeepsBlocks s (stageWriteBody offset bytes s).1 := by
    unfold stageWriteBody; split
    · exact .refl s
    · exact .of_blocks
  unfold execStageWrite stateAfter; dsimp only; split
  · exact answer_keepsBlocks _ _ _ _
  · exact request_keepsBlocks staged

theorem commitGeometryBody_keepsBlocks (length : Half) (crc : Word) (s : State) :
    KeepsBlocks s (commitGeometryBody length crc s).1 := by
  unfold commitGeometryBody; (repeat' split)
  · exact .refl s
  · exact .refl s
  · exact .refl s
  · exact .refl s
  · exact setGeo_keepsBlocks _ s
  · exact .refl s

theorem commitZoneBody_keepsBlocks (length : Half) (crc : Word) (s : State) :
    KeepsBlocks s (commitZoneBody length crc s).1 := by
  unfold commitZoneBody; (repeat' split)
  · exact .refl s
  · exact .refl s
  · exact .refl s
  · exact .refl s
  · exact setZone_keepsBlocks _ s

theorem commitMapBody_keepsBlocks (channel : Byte) (length : Half) (crc : Word) (s : State) :
    KeepsBlocks s (commitMapBody channel length crc s).1 := by
  unfold commitMapBody; (repeat' split)
  · exact .refl s
  · exact .refl s
  · exact .refl s
  · exact .refl s
  · exact .refl s
  · dsimp only; exact mapLens_keepsBlocks _ _ s

theorem armBody_keepsBlocks (s : State) : KeepsBlocks s (armBody s).1 := by
  by_cases parked : s.mode.mode = .parked
  · rw [armBody_parked parked]
    unfold armParked; split <;> exact .of_blocks rfl rfl
  · rw [armBody_used parked]; exact .refl s

theorem parkBody_keepsBlocks (s : State) : KeepsBlocks s (parkBody s).1 := by
  unfold parkBody
  cases s.mode.mode with
  | parked => exact .refl s
  | arming => dsimp only; exact abortArming_keepsBlocks _ _ _ _ s
  | live =>
    dsimp only; split
    · exact parkLive_keepsBlocks s
    · exact .refl s

theorem stopBody_keepsBlocks (s : State) : KeepsBlocks s (stopBody s).1 := by
  unfold stopBody
  cases s.mode.mode with
  | parked => exact .refl s
  | arming => dsimp only; exact (takeCause_keepsBlocks _ s).trans (abortArming_keepsBlocks _ _ _ _ _)
  | live => exact takeCause_keepsBlocks _ s

theorem resumeBody_keepsBlocks (s : State) : KeepsBlocks s (resumeBody s).1 := by
  unfold resumeBody; split
  · exact .refl s
  · unfold resumeHeld; split
    · exact .of_blocks rfl rfl
    · exact .refl s
  · exact .refl s

theorem releaseFaultBody_keepsBlocks (s : State) : KeepsBlocks s (releaseFaultBody s).1 := by
  unfold releaseFaultBody; (repeat' split)
  · exact .refl s
  · exact .refl s
  · exact setStop_keepsBlocks _ s

theorem setLinkBody_keepsBlocks (x : Option LinkSettings) (s : State) : KeepsBlocks s (setLinkBody x s).1 := by
  have timed (x : LinkSettings) (u : State) : KeepsBlocks u (writeTimer x u) := by
    unfold writeTimer; split
    · dsimp only; split
      · exact (setLink_keepsBlocks _ u).trans (goSilent_keepsBlocks _)
      · exact setLink_keepsBlocks _ u
    · exact (setLink_keepsBlocks _ u).trans (expireEntries_keepsBlocks _)
  unfold setLinkBody; split
  · exact .refl s
  · exact (setLink_keepsBlocks _ s).trans (timed _ _)

theorem clearCountersBody_keepsBlocks (port kinds : Byte) (s : State) :
    KeepsBlocks s (clearCountersBody port kinds s).1 := by
  unfold clearCountersBody; split
  · exact .refl s
  · exact setLink_keepsBlocks _ s

theorem setSyncBody_keepsBlocks (cycles required : Byte) (s : State) :
    KeepsBlocks s (setSyncBody cycles required s).1 := by
  unfold setSyncBody; (repeat' split)
  · exact .refl s
  · exact .refl s
  · exact setTake_keepsBlocks _ s rfl

theorem lensCalibrateBody_keepsBlocks (channel : Byte) (s : State) : KeepsBlocks s (lensCalibrateBody channel s).1 := by
  unfold lensCalibrateBody; (repeat' split)
  · exact .refl s
  · exact .refl s
  · exact .refl s
  · exact .refl s
  · exact mapLens_keepsBlocks _ _ s

theorem armCaptureBody_keepsBlocks (kind channel : Byte) (value : Word) (direction scope : Byte) (s : State) :
    KeepsBlocks s (armCaptureBody kind channel value direction scope s).1 := by
  unfold armCaptureBody; (repeat' split)
  · exact .refl s
  · exact .refl s
  · exact setCapture_keepsBlocks _ s

/-! ## Requests of the takes -/

theorem findEntry_some {st : TakeStore} {p : DirEntry → Bool} {i : Fin 32} (h : findEntry st p = some i) :
    p st.dir[i] = true := List.find?_some (p := fun i => p st.dir[i]) h

/-- A refusal of RECORD is none of its conditions left open: the memory is READY and no recording is active (R133). -/
theorem recordRefusal_none {s : State} {take mask : Half} (h : recordRefusal s take mask = none) :
    s.store.state = .ready ∧ s.take.recording.state = .idle := by
  unfold recordRefusal at h
  split at h; · cases h
  split at h; · cases h
  split at h; · cases h
  split at h; · cases h
  split at h; · cases h
  case isFalse formatted tested _ idle =>
    refine ⟨?_, not_not.1 fun active => idle ((Recording.active_iff _).2 active)⟩
    cases state : s.store.state with
    | unformatted => exact absurd state formatted
    | formatting => exact absurd state tested
    | ready => rfl

/-- An accepted RECORD takes an EMPTY entry of a READY memory, which holds no block and gets none (R120, R133). -/
theorem recordBody_keepsBlocks (take mask : Half) (s : State) : KeepsBlocks s (recordBody take mask s).1 := by
  unfold recordBody; split
  case isTrue => exact .refl s
  case isFalse =>
    split
    case h_1 => exact .refl s
    case h_3 => exact .refl s
    case h_2 i open_ found =>
      intro h
      obtain ⟨ready, -⟩ := recordRefusal_none open_
      obtain ⟨parted, -⟩ := (blocksConserved_iff s).1 h
      have empty : (s.store.dir[i]).state = .empty := by simpa using findEntry_some found
      have made := mapEntry_same s.store i fun _ => newEntry s take.toNat (maskOf mask)
      refine (blocksConserved_iff _).2
        ⟨bareEntry_partitioned i (newEntry s take.toNat (maskOf mask)) parted (parted.2.2 i empty) rfl,
          fun _ => ⟨ready, ?_⟩, fun _ => ?_⟩
      · exact congrArg DirEntry.state made
      · exact congrArg DirEntry.blocks made

/-- RECORD_END discards an armed recording's entry, which holds no block, or ends the recording, or notes the request
(R136). -/
theorem recordEndBody_keepsBlocks (s : State) : KeepsBlocks s (recordEndBody s).1 := by
  unfold recordEndBody; dsimp only; split
  case h_1 => exact .refl s
  case h_2 armed =>
    intro h
    obtain ⟨parted, -, bare⟩ := (blocksConserved_iff s).1 h
    exact (blocksConserved_iff _).2
      ⟨bareEntry_partitioned _ emptyEntry parted (bare armed) rfl, recordingPlaced_idle _ rfl⟩
  case h_3 =>
    split
    · exact endRecording_keepsBlocks s
    · exact .of_same {} rfl rfl

theorem markBody_keepsBlocks (s : State) : KeepsBlocks s (markBody s).1 := by
  unfold markBody; dsimp only; (repeat' split)
  · exact .refl s
  · exact .refl s
  · exact .refl s
  · exact .of_store (mapEntry_blocksSame _ _ _ (fun _ => rfl) fun _ => rfl)

theorem cueBody_keepsBlocks (take : Half) (mark : Byte) (s : State) : KeepsBlocks s (cueBody take mark s).1 := by
  have compared (e : DirEntry) (u : State) : KeepsBlocks u (compareMaps e u) := mapChans_keepsBlocks _ u
  have begun (i : Fin 32) (k : Nat) : KeepsBlocks s (beginCue i k s) :=
    (setTake_keepsBlocks { s.take with play := cuePlay i s.store.dir[i] k } s rfl).trans
      ((compared _ _).trans (startRead_keepsBlocks _))
  unfold cueBody; split
  · exact .refl s
  split
  · exact .refl s
  · exact .refl s
  · dsimp only
    split
    · exact .refl s
    split
    · exact .refl s
    · exact begun _ _

theorem setTriggerBody_keepsBlocks (kind : Byte) (timecode : Word) (scale : Half) (s : State) :
    KeepsBlocks s (setTriggerBody kind timecode scale s).1 := by
  unfold setTriggerBody; split
  · exact .refl s
  · exact .of_blocks rfl (by simp only [writeTrigger, State.setTake_take])

theorem goBody_keepsBlocks (s : State) : KeepsBlocks s (goBody s).1 := by
  unfold goBody; (repeat' split)
  · exact .refl s
  · exact .refl s
  · exact startPlay_keepsBlocks s

/-- A take is deleted where its entry is not RECORDING, so an active recording's is another (R124). -/
theorem deleteTakeBody_keepsBlocks (take : Half) (s : State) : KeepsBlocks s (deleteTakeBody take s).1 := by
  unfold deleteTakeBody; dsimp only; split
  case isTrue => exact .refl s
  split
  case isTrue => exact .refl s
  split
  case h_1 => exact .refl s
  case h_2 i _ =>
    split
    case isTrue => exact .refl s
    split
    case isTrue => exact .refl s
    case isFalse done _ =>
      intro h
      obtain ⟨parted, active, armed⟩ := (blocksConserved_iff s).1 h
      refine (blocksConserved_iff _).2 ⟨deleteEntry_partitioned i parted, ?_⟩
      by_cases idle : s.take.recording.state = .idle
      · exact recordingPlaced_idle _ idle
      · have other : i ≠ s.take.recording.entry := fun same => done (same ▸ (active idle).2)
        have kept : (deleteEntry i s.store).dir[s.take.recording.entry] = s.store.dir[s.take.recording.entry] :=
          (mapEntry_at _ i _ _).trans (if_neg other)
        refine ⟨fun on => ⟨(active on).1, ?_⟩, fun on => ?_⟩
        · exact (congrArg DirEntry.state kept).trans (active on).2
        · exact (congrArg DirEntry.blocks kept).trans (armed on)

theorem formatBody_keepsBlocks (s : State) : KeepsBlocks s (formatBody s).1 := by
  unfold formatBody; split
  case isTrue => exact .refl s
  case isFalse free =>
    refine .of_idle (fun _ => beginFormat_partitioned s.store) (not_not.1 fun active => free ?_)
    exact .inr (.inl ((Recording.active_iff _).2 active))

theorem setMemoryBody_keepsBlocks (singles : Byte) (s : State) : KeepsBlocks s (setMemoryBody singles s).1 := by
  unfold setMemoryBody; split
  · exact .refl s
  · exact .of_store {}

/-- A request keeps the blocks, whichever it is. -/
theorem runRequest_keepsBlocks (i : Instr) (s : State) : KeepsBlocks s (runRequest i s) := by
  cases i with
  | identify => exact reading_keepsBlocks rfl
  | readStatusCrane => exact reading_keepsBlocks (readSingle_reads _ _ _ s)
  | readStatusChannel => exact reading_keepsBlocks (readChannel_reads _ _ _ s)
  | readStatusPort => exact reading_keepsBlocks (readPort_reads _ _ s)
  | readStatusSafety => exact reading_keepsBlocks (readSingle_reads _ _ _ s)
  | readStatusFaultRecord => exact reading_keepsBlocks (readSingle_reads _ _ _ s)
  | readStatusCaptureRecord => exact reading_keepsBlocks (readSingle_reads _ _ _ s)
  | readStatusMemory => exact reading_keepsBlocks (readMemory_reads _ _ s)
  | readStatusDirectoryEntry => exact reading_keepsBlocks (readEntry_reads _ _ s)
  | readStatusPlayStatus => exact reading_keepsBlocks (readSingle_reads _ _ _ s)
  | readStatusSelfCheck => exact reading_keepsBlocks (readSingle_reads _ _ _ s)
  | readStatusLensChannel => exact reading_keepsBlocks (readChannel_reads _ _ _ s)
  | readStatusLastReply => exact reading_keepsBlocks (readSingle_reads _ _ _ s)
  | setChannel => exact request_keepsBlocks (setChannelBody_keepsBlocks _ _ _ _ _ s)
  | setSource => exact request_keepsBlocks (setSourceBody_keepsBlocks _ _ s)
  | stageWrite => exact stageWrite_keepsBlocks _ _ _ s
  | commitGeometry => exact request_keepsBlocks (commitGeometryBody_keepsBlocks _ _ s)
  | commitZoneShadow => exact request_keepsBlocks (commitZoneBody_keepsBlocks _ _ s)
  | commitLensMap => exact request_keepsBlocks (commitMapBody_keepsBlocks _ _ _ s)
  | zoneSwap => exact request_keepsBlocks (setZone_keepsBlocks _ s)
  | arm => exact request_keepsBlocks (armBody_keepsBlocks s)
  | park => exact request_keepsBlocks (parkBody_keepsBlocks s)
  | stop => exact request_keepsBlocks (stopBody_keepsBlocks s)
  | resume => exact request_keepsBlocks (resumeBody_keepsBlocks s)
  | releaseFault => exact request_keepsBlocks (releaseFaultBody_keepsBlocks s)
  | setStop => exact request_keepsBlocks (setStop_keepsBlocks _ s)
  | setLink => exact request_keepsBlocks (setLinkBody_keepsBlocks _ s)
  | clearCounters => exact request_keepsBlocks (clearCountersBody_keepsBlocks _ _ s)
  | setSync => exact request_keepsBlocks (setSyncBody_keepsBlocks _ _ s)
  | record => exact request_keepsBlocks (recordBody_keepsBlocks _ _ s)
  | recordEnd => exact request_keepsBlocks (recordEndBody_keepsBlocks s)
  | mark => exact request_keepsBlocks (markBody_keepsBlocks s)
  | cue => exact request_keepsBlocks (cueBody_keepsBlocks _ _ s)
  | setTrigger => exact request_keepsBlocks (setTriggerBody_keepsBlocks _ _ _ s)
  | go => exact request_keepsBlocks (goBody_keepsBlocks s)
  | abortPlay => exact request_keepsBlocks (abortActive_keepsBlocks _ s)
  | deleteTake => exact request_keepsBlocks (deleteTakeBody_keepsBlocks _ s)
  | format => exact request_keepsBlocks (formatBody_keepsBlocks s)
  | releaseMemoryError => exact request_keepsBlocks (.of_store {})
  | setMemory => exact request_keepsBlocks (setMemoryBody_keepsBlocks _ s)
  | lensCalibrate => exact request_keepsBlocks (lensCalibrateBody_keepsBlocks _ s)
  | setEmbed => exact request_keepsBlocks (setCapture_keepsBlocks _ s)
  | armCapture => exact request_keepsBlocks (armCaptureBody_keepsBlocks _ _ _ _ _ s)
  | releaseCapture => exact request_keepsBlocks (setCapture_keepsBlocks _ s)
  | softReset => exact request_keepsBlocks (softReset_keepsBlocks s)
  | _ => exact .refl s

/-! ## Console frames -/

theorem serve_keepsBlocks (field : List Byte) (s : State) : KeepsBlocks s (serve field s) := by
  have rejected (tag code : Byte) (why : Reject) : KeepsBlocks s (rejectRequest tag code why s) := by
    cases why with
    | tooLong | unknownCode | wrongLength => exact answer_keepsBlocks _ _ _ s
    | badSelector | badTarget => exact reading_keepsBlocks rfl
  unfold serve; split
  · exact .refl s
  · exact runRequest_keepsBlocks _ s
  · exact rejected _ _ _

theorem takeFlags_keepsBlocks (flags : Byte) (s : State) : KeepsBlocks s (takeFlags flags s) := by
  have stopReq : KeepsBlocks s (stopReqArrives flags s) := by
    unfold stopReqArrives; split
    · exact takeCause_keepsBlocks _ s
    · exact .refl s
  have grip (u : State) : KeepsBlocks u (gripArrives flags u) := by
    unfold gripArrives; split
    · exact takeCause_keepsBlocks _ u
    · exact .refl u
  have resume (u : State) : KeepsBlocks u (autoResume flags u) := by
    unfold autoResume; split
    · exact .of_blocks rfl rfl
    · exact .refl u
  unfold takeFlags
  exact (stopReq.trans (grip _)).trans ((setStop_keepsBlocks _ _).trans (resume _))

theorem goodConsole_keepsBlocks (f : Frame) (s : State) : KeepsBlocks s (goodConsole f s) := by
  have adopted : KeepsBlocks s (adoptConsole f s) := by
    unfold adoptConsole
    exact (setLink_keepsBlocks _ s).trans ((takePart_keepsBlocks _).trans (setLink_keepsBlocks _ _))
  unfold goodConsole; dsimp only
  exact (adopted.trans ((takeFlags_keepsBlocks _ _).trans (placeOutbound_keepsBlocks _ _ _))).trans
    ((serve_keepsBlocks _ _).trans (finishOutbound_keepsBlocks _ _ _))

theorem consoleFrame_keepsBlocks (clean : Bool) (bytes : List Byte) (s : State) :
    KeepsBlocks s (consoleFrame clean bytes s) := by
  have bad (u : State) : KeepsBlocks u (badConsole u) := by
    unfold badConsole; split
    · exact .refl u
    · exact originateSubst_keepsBlocks u
  unfold consoleFrame; dsimp only
  refine ((settleDecision_keepsBlocks s).trans
    (takeIn_keepsBlocks .c (classify kindCycle clean bytes) clean _)).trans ?_
  split
  · refine KeepsBlocks.trans ?_ ((setLink_keepsBlocks _ _).trans (goodConsole_keepsBlocks _ _))
    split
    · exact portError_keepsBlocks _ _ _
    · exact .refl _
  · exact (setLink_keepsBlocks _ _).trans (bad _)

/-! ## Events -/

/-- What an outcome leaves of the blocks. -/
def outcomeKeepsBlocks (s : State) (o : Outcome) : Prop := ∀ t, o = .next t → KeepsBlocks s t

theorem outcomeKeepsBlocks_next {s t : State} (h : KeepsBlocks s t) : outcomeKeepsBlocks s (.next t) :=
  fun _ e => by cases e; exact h

/-- A choice between an effect and none. -/
theorem ite_keepsBlocks {p : Prop} [Decidable p] {s t : State} (h : p → KeepsBlocks s t) :
    KeepsBlocks s (if p then t else s) := by
  split
  · exact h ‹_›
  · exact .refl s

/-- FORMAT_BLOCK_TESTED: no recording is active in a memory that is FORMATTING (R117). -/
theorem testBlock_keepsBlocks (errors : List WordRead) (differ : List Nat) {s : State}
    (formatting : s.store.state = .formatting) :
    KeepsBlocks s (s.setStore (testBlock s.link.part errors differ s.store)) := by
  intro h
  obtain ⟨parted, active, -⟩ := (blocksConserved_iff s).1 h
  have idle : s.take.recording.state = .idle :=
    not_not.1 fun on => absurd (formatting.symm.trans (active on).1) (by decide)
  exact (blocksConserved_iff _).2
    ⟨testBlock_partitioned s.link.part errors differ parted formatting, recordingPlaced_idle _ idle⟩

theorem prefetch_keepsBlocks (errors : List WordRead) (s : State) :
    outcomeKeepsBlocks s (execPrefetchReadComplete errors s) := by
  have queued (q : QueuedRecord) (u : State) : KeepsBlocks u (queueRecord q u) := by
    unfold queueRecord; dsimp only; split
    · exact abortPlay_keepsBlocks _ u
    · exact setTake_keepsBlocks _ u rfl
  unfold execPrefetchReadComplete; split
  case h_1 => exact outcomeKeepsBlocks_next (.refl s)
  case h_2 r _ =>
    have delivered : KeepsBlocks s (s.setStore (deliver s.link.part errors r s.store).1) :=
      .of_store (deliver_blocksSame _ _ _ _)
    refine outcomeKeepsBlocks_next (delivered.trans (KeepsBlocks.trans ?_ (startRead_keepsBlocks _)))
    split
    · exact queued _ _
    · exact .refl _

/-- Every row of the dispatcher keeps the blocks. -/
theorem exec_keepsBlocks (i : Instr) (s : State) : outcomeKeepsBlocks s (exec i s) := by
  have served (j : Instr) (h : exec j s = .next (runRequest j s)) : outcomeKeepsBlocks s (exec j s) :=
    h ▸ outcomeKeepsBlocks_next (runRequest_keepsBlocks j s)
  have took (x : TakeEngine) (same : x.recording = s.take.recording) : KeepsBlocks s (s.setTake x) :=
    setTake_keepsBlocks x s same
  cases i with
  | consoleFrameArrival elapsed clean bytes =>
    exact outcomeKeepsBlocks_next ((setTimer_keepsBlocks _ s).trans
      (ite_keepsBlocks fun _ => consoleFrame_keepsBlocks _ _ _))
  | outboundFrameSent elapsed =>
    exact outcomeKeepsBlocks_next ((setTimer_keepsBlocks _ s).trans (sendNext_keepsBlocks _))
  | returnArrival elapsed crew clean bytes =>
    exact outcomeKeepsBlocks_next (((setTimer_keepsBlocks _ s).trans (setPins_keepsBlocks _ _)).trans
      (ite_keepsBlocks fun _ => returnFrame_keepsBlocks _ _ _))
  | crewLineRelease line =>
    exact outcomeKeepsBlocks_next (ite_keepsBlocks fun _ =>
      (setZone_keepsBlocks _ s).trans (setPins_keepsBlocks _ _))
  | returnTimeout =>
    unfold exec execReturnTimeout; dsimp only; split
    · exact outcomeKeepsBlocks_next (.refl s)
    · exact outcomeKeepsBlocks_next ((setTimer_keepsBlocks _ s).trans (expireEntries_keepsBlocks _))
  | feedbackLost =>
    unfold exec execFeedbackLost; dsimp only; split
    · exact outcomeKeepsBlocks_next (.refl s)
    · exact outcomeKeepsBlocks_next (ite_keepsBlocks fun _ =>
        (setTimer_keepsBlocks _ s).trans (loseOldest_keepsBlocks _))
  | consoleSilenceTimeout =>
    unfold exec execConsoleSilenceTimeout; dsimp only; refine outcomeKeepsBlocks_next ?_; split
    · exact .refl s
    · exact ((setTimer_keepsBlocks _ s).trans (settleDecision_keepsBlocks _)).trans (goSilent_keepsBlocks _)
  | substPeriodElapsed =>
    exact outcomeKeepsBlocks_next (ite_keepsBlocks fun _ =>
      ((setTimer_keepsBlocks _ s).trans (settleDecision_keepsBlocks _)).trans (originateSubst_keepsBlocks _))
  | codeGroupReceived port valid =>
    unfold exec execCodeGroupReceived; dsimp only; refine outcomeKeepsBlocks_next ?_; split
    · exact setRx_keepsBlocks _ _ s
    · exact (portError_keepsBlocks _ _ s).trans (setRx_keepsBlocks _ _ _)
  | linkFault port kind => exact outcomeKeepsBlocks_next (ite_keepsBlocks fun _ => portError_keepsBlocks _ _ s)
  | stopTimeout => exact outcomeKeepsBlocks_next (ite_keepsBlocks fun _ => stopTick_keepsBlocks s)
  | calibrationTimeLimit n =>
    exact outcomeKeepsBlocks_next (ite_keepsBlocks fun _ =>
      (mapChan_keepsBlocks n _ s).trans (mapLens_keepsBlocks n _ _))
  | playbackData => exact outcomeKeepsBlocks_next (ite_keepsBlocks fun _ => playFrame_keepsBlocks s)
  | armingDecision => exact outcomeKeepsBlocks_next (settleDecision_keepsBlocks s)
  | refPulse heldFor => exact outcomeKeepsBlocks_next (ite_keepsBlocks fun _ => took _ rfl)
  | flywheelFrameStart => exact outcomeKeepsBlocks_next (ite_keepsBlocks fun _ => placeAhead_keepsBlocks s)
  | refLost => exact outcomeKeepsBlocks_next (ite_keepsBlocks fun _ => placeAhead_keepsBlocks s)
  | triggerEdge heldFor => exact outcomeKeepsBlocks_next (ite_keepsBlocks fun _ => took _ rfl)
  | estopInOpen heldFor =>
    exact outcomeKeepsBlocks_next (ite_keepsBlocks fun _ =>
      (setPins_keepsBlocks _ s).trans (takeCause_keepsBlocks _ _))
  | estopInClose heldFor => exact outcomeKeepsBlocks_next (ite_keepsBlocks fun _ => setPins_keepsBlocks _ s)
  | supplyWarnChange level => exact outcomeKeepsBlocks_next (ite_keepsBlocks fun _ => setPins_keepsBlocks _ s)
  | supplyFailAssert heldFor =>
    exact outcomeKeepsBlocks_next (ite_keepsBlocks fun _ =>
      (setPins_keepsBlocks _ s).trans (takeCause_keepsBlocks _ _))
  | supplyFailDeassert heldFor => exact outcomeKeepsBlocks_next (ite_keepsBlocks fun _ => setPins_keepsBlocks _ s)
  | pinReset heldFor => exact outcomeKeepsBlocks_next (ite_keepsBlocks fun _ => resetPart_keepsBlocks s)
  | formatBlockTested errors differ =>
    exact outcomeKeepsBlocks_next (ite_keepsBlocks fun formatting => testBlock_keepsBlocks errors differ formatting)
  | prefetchReadComplete errors => exact prefetch_keepsBlocks errors s
  | _ => exact served _ rfl

/-- Every step keeps the blocks. -/
theorem step_keepsBlocks {s t : State} (h : step s = .next t) : KeepsBlocks s t := by
  unfold step at h
  split at h
  · cases h; exact .refl s
  · exact (KeepsBlocks.of_blocks (s := s) (t := s.setPending _)).trans (exec_keepsBlocks _ _ t h)

end Sys2Proof.Machine

namespace Sys2Proof.Proofs
open Sys2Proof.Machine Sys2Proof.Claims

/-- Settles O57: every operation parts the blocks between the free list, the entries and the bad set as it found them
or moves them from one to another, so every row of the dispatcher does. -/
theorem blocksStayConserved : Obligations.BlocksStayConserved := fun _ _ conserved stepped =>
  step_keepsBlocks stepped conserved

end Sys2Proof.Proofs
end

section
/-! PROOFS. MARK and RECORD_END by the record state (R135 to R137), and what a record appended leaves in the take memory
(R121, R122, R134). -/

namespace Sys2Proof.Machine
open Sys2Proof.Claims

/-! ## A recording ended as it stands -/

theorem mapEntry_fixed {st : TakeStore} {i : Fin 32} {f : DirEntry → DirEntry} (h : f st.dir[i] = st.dir[i]) :
    st.mapEntry i f = st := by
  have same : st.dir.set i.val (f st.dir[i]) i.isLt = st.dir := by rw [h]; exact Vector.set_getElem_self i.isLt
  unfold TakeStore.mapEntry
  rw [same]

/-- A recording ended with its INTERRUPTED flag as it stood (R137). -/
theorem recordingEnded_asItStood (i : Fin 32) (st : TakeStore) :
    recordingEnded i (st.dir[i]).interrupted st (endEntry i st) := by
  have ended := recordingEnded_endEntry i (st.dir[i]).interrupted st
  rwa [mapEntry_fixed rfl] at ended

/-! ## MARK and RECORD_END -/

section
variable {s : State}

theorem markBody_idle (idle : s.take.recording.state = .idle) : markBody s = (s, plain .refusedMode) := if_pos idle

theorem markBody_active (active : s.take.recording.state ≠ .idle) :
    markBody s =
      if s.take.recording.index ∈ (s.store.dir[s.take.recording.entry]).marks then (s, plain .ok)
      else if 16 ≤ (s.store.dir[s.take.recording.entry]).marks.length then (s, plain .noSpace)
      else
        (s.setStore (s.store.mapEntry s.take.recording.entry fun e =>
          { e with marks := e.marks ++ [s.take.recording.index] }), plain .ok) := by
  refine (if_neg active).trans ?_
  simp only [List.contains_iff_mem]; rfl

theorem recordEndBody_idle (idle : s.take.recording.state = .idle) : recordEndBody s = (s, plain .refusedMode) := by
  unfold recordEndBody; dsimp only; rw [idle]; rfl

theorem recordEndBody_armed (armed : s.take.recording.state = .recordArmed) :
    recordEndBody s = (discardRecording s, plain .ok) := by
  unfold recordEndBody; dsimp only; rw [armed]

theorem recordEndBody_recording (records : s.take.recording.state = .recording) :
    recordEndBody s =
      if 0 < s.take.recording.index ∧ s.take.recording.index % s.take.ref.cyclesPerFrame = 0 then
        (endRecording s, plain .ok)
      else
        (s.setTake { s.take with recording := { s.take.recording with endRequested := true } }, plain .accepted) := by
  unfold recordEndBody; dsimp only; rw [records]

end

/-! ## Bytes and check bits written -/

theorem byteAt_take {bs : List Byte} {n k : Nat} (h : k < n) : byteAt (bs.take n) k = byteAt bs k := by
  unfold byteAt
  rw [List.getD_eq_getElem?_getD, List.getD_eq_getElem?_getD, List.getElem?_take_of_lt h]

/-- A word of a string lies whole in the string's whole words. -/
theorem word_of_take (bs : List Byte) {n k : Nat} (h : k < n / 8) :
    ((bs.take n).drop (8 * k)).take 8 = (bs.drop (8 * k)).take 8 := by
  rw [List.drop_take, List.take_take, Nat.min_eq_left (by omega)]

/-- Whole words of a string in the memory: its bytes with their check bits inside, the memory's outside. -/
theorem writeWords_reads (a : Nat) (bs : List Byte) (st : TakeStore) {n : Nat} (h : n ≤ bs.length) :
    (∀ k, k < n → memRead (writeWords a (bs.take n) st).mem (a + k) = some (byteAt bs k)) ∧
    (∀ x, x < a ∨ a + n ≤ x → memRead (writeWords a (bs.take n) st).mem x = memRead st.mem x) ∧
    (∀ k, k < n / 8 → memRead (writeWords a (bs.take n) st).check (a / 8 + k) =
      some (Config.checkBits (wordOf ((bs.drop (8 * k)).take 8)))) ∧
    (∀ w, w < a / 8 ∨ a / 8 + n / 8 ≤ w → memRead (writeWords a (bs.take n) st).check w = memRead st.check w) := by
  have length : (bs.take n).length = n := List.length_take_of_le h
  have bytes (x : Nat) := memRead_memWriteBytes st.mem a x (bs.take n)
  have checks (w : Nat) := memRead_writeChecks st.check (a / 8) (n / 8) w (bs.take n)
  rw [writeWords_eq, length]
  dsimp only
  simp only [length] at bytes
  refine ⟨fun k hk => ?_, fun x hx => ?_, fun k hk => ?_, fun w hw => ?_⟩
  · rw [bytes, if_pos (by omega), Nat.add_sub_cancel_left, byteAt_take hk]
  · rw [bytes, if_neg (by omega)]
  · rw [checks, if_pos (by omega), Nat.add_sub_cancel_left, word_of_take bs hk]
  · rw [checks, if_neg (by omega)]

/-! ## A record appended inside a block -/

/-- The bytes the Take Store holds before it stores a record (R122). -/
def heldBytes (st : TakeStore) : List Byte :=
  match st.heldWord with
  | none => []
  | some x => x.2

/-- The entry of a recording once a record has been appended to it (R121). -/
def appendedEntry (timecode : Word) (e : DirEntry) : DirEntry :=
  { e with startTimecode := if e.length = 0 then timecode else e.startTimecode, length := e.length + 1 }

/-- A record stored behind the half word that was held: the whole words written, a last half word held. -/
theorem storeRecord_eq {a : Nat} (bytes : List Byte) {st : TakeStore}
    (held : ∀ x, st.heldWord = some x → x.1 = a - 4 ∧ x.2.length = 4) :
    storeRecord a bytes st =
      let start := a - (heldBytes st).length
      let stream := heldBytes st ++ bytes
      let whole := stream.length / 8 * 8
      { writeWords start (stream.take whole) st with
        heldWord := if whole = stream.length then none else some (start + whole, stream.drop whole) } := by
  unfold storeRecord heldBytes
  cases h : st.heldWord with
  | none => rfl
  | some x =>
    obtain ⟨at_, length⟩ := held x h
    dsimp only
    rw [length, ← at_]

theorem putRecord_eq (i : Fin 32) (bytes : List Byte) (timecode : Word) (st : TakeStore) :
    putRecord i bytes timecode st =
      (storeRecord (nextRecordAddress st.dir[i]) bytes st).mapEntry i (appendedEntry timecode) := rfl

theorem appendRecord_inside {i : Fin 32} (bytes : List Byte) (timecode : Word) {st : TakeStore}
    (inside : (st.dir[i]).length < (st.dir[i]).blocks.length * (st.dir[i]).perBlock) :
    appendRecord i bytes timecode st = (putRecord i bytes timecode st, true) :=
  if_neg (Nat.ne_of_lt inside)

/-- A record appended inside a block, behind the half word that was held (R121, R122). -/
theorem appendRecord_stores {i : Fin 32} (bytes : List Byte) (timecode : Word) {st : TakeStore}
    (inside : (st.dir[i]).length < (st.dir[i]).blocks.length * (st.dir[i]).perBlock)
    (held : ∀ x, st.heldWord = some x → x.1 = nextRecordAddress st.dir[i] - 4 ∧ x.2.length = 4) :
    let start := nextRecordAddress st.dir[i] - (heldBytes st).length
    let stream := heldBytes st ++ bytes
    let whole := stream.length / 8 * 8
    appendRecord i bytes timecode st =
      ({ withEntry st i (appendedEntry timecode st.dir[i]) with
        mem := (writeWords start (stream.take whole) st).mem, check := (writeWords start (stream.take whole) st).check
        heldWord := if whole = stream.length then none else some (start + whole, stream.drop whole) }, true) := by
  rw [appendRecord_inside bytes timecode inside, putRecord_eq, storeRecord_eq bytes held]; rfl

/-! ## A block change -/

theorem lastBlockClosed_congr {next : Nat} {e : DirEntry} {st u v : TakeStore} (mem : v.mem = u.mem)
    (check : v.check = u.check) (held : v.heldWord = u.heldWord) (h : lastBlockClosed next e st u) :
    lastBlockClosed next e st v := by
  unfold lastBlockClosed at *
  rw [mem, check, held]; exact h

theorem appendRecord_exhausted {i : Fin 32} (bytes : List Byte) (timecode : Word) {st : TakeStore}
    (full : (st.dir[i]).length = (st.dir[i]).blocks.length * (st.dir[i]).perBlock) (none_ : st.free = []) :
    appendRecord i bytes timecode st = (closeLast st.dir[i] 0xFFFF st, false) := by
  rcases appendRecord_cases i bytes timecode st with ⟨room, -⟩ | ⟨-, ⟨-, e⟩ | ⟨b, rest, free, -⟩⟩
  · exact absurd full room
  · exact e
  · rw [none_] at free; cases free

/-- A record that needs another block is appended as to the entry that has been lent it (R122). -/
theorem appendRecord_lends {i : Fin 32} (bytes : List Byte) (timecode : Word) {st : TakeStore} {b : Nat}
    {rest : List Nat}
    (full : (st.dir[i]).length = (st.dir[i]).blocks.length * (st.dir[i]).perBlock) (free : st.free = b :: rest)
    (holds : 0 < (st.dir[i]).perBlock) :
    appendRecord i bytes timecode st =
      appendRecord i bytes timecode (blockLent i b rest (closeLast st.dir[i] b st)) := by
  have entry : (blockLent i b rest (closeLast st.dir[i] b st)).dir[i] =
      { st.dir[i] with blocks := (st.dir[i]).blocks ++ [b] } := by
    unfold blockLent
    rw [mapEntry_same]
    simp only [(closeLast_frame st.dir[i] b st).1]
  have inside : ((blockLent i b rest (closeLast st.dir[i] b st)).dir[i]).length <
      ((blockLent i b rest (closeLast st.dir[i] b st)).dir[i]).blocks.length *
        ((blockLent i b rest (closeLast st.dir[i] b st)).dir[i]).perBlock := by
    rw [entry]; dsimp only
    rw [List.length_append, List.length_singleton, Nat.add_mul, ← full]; omega
  rw [appendRecord_inside bytes timecode inside]
  rcases appendRecord_cases i bytes timecode st with ⟨room, -⟩ | ⟨-, ⟨none_, -⟩ | ⟨c, r, free', e⟩⟩
  · exact absurd full room
  · rw [none_] at free; cases free
  · obtain ⟨rfl, rfl⟩ := List.cons.inj (free.symm.trans free')
    exact e

/-! ## A frame's record -/

theorem frameRecord_eq (pl : Placement) (s : State) :
    frameRecord pl s =
      [((if pl.start ≠ .none then 1 else 0) + (if pl.slip = true then 2 else 0) +
        (if s.take.recording.index ∈ (s.store.dir[s.take.recording.entry]).marks then 4 else 0) : Byte),
        BitVec.ofNat 8 pl.phase, 0, 0] ++
      ((List.finRange 12).filter fun n => (s.store.dir[s.take.recording.entry]).mask.getLsbD n.val).flatMap fun n =>
        coded 4 (if (s.cond.chans[n]).desc.cls = .lens then (s.cond.chans[n]).eng else (s.cond.chans[n]).outPos) := by
  have value (c : Channel) : i32 (recordedValue c) = coded 4 (if c.desc.cls = .lens then c.eng else c.outPos) := by
    rw [coded_i32, recordedValue]; simp only [Channel.isLens_iff]
  have flags (a b c : Prop) [Decidable a] [Decidable b] [Decidable c] :
      BitVec.ofNat 8 ((if a then 1 else 0) + (if b then 2 else 0) + (if c then 4 else 0)) =
        (if a then 1 else 0) + (if b then 2 else 0) + (if c then 4 else 0) := by
    by_cases a <;> by_cases b <;> by_cases c <;> simp [*]
  unfold frameRecord recordBytes u8 maskChannels inMask
  simp only [bne_iff_ne, List.contains_iff_mem, flags, List.flatMap_map, value, State.chan, List.cons_append,
    List.nil_append]

/-- The state once a frame's record has been appended (R134). -/
def frameAppended (pl : Placement) (timecode : Word) (s : State) : TakeStore × Bool :=
  appendRecord s.take.recording.entry (frameRecord pl s) timecode s.store

section
variable {pl : Placement} {timecode : Word} {s : State}

theorem appendFrame_away (away : s.take.recording.state ≠ .recording) : appendFrame false pl timecode s = s :=
  if_neg away

/-- A frame's record that is stored: the recording goes on, or ends as it was asked to (R134, R136). -/
theorem appendFrame_stored (records : s.take.recording.state = .recording)
    (stored : (frameAppended pl timecode s).2 = true) :
    appendFrame false pl timecode s =
      if s.take.recording.endRequested = true ∧ (s.take.recording.index + 1) % s.take.ref.cyclesPerFrame = 0 then
        { s with
          store := endEntry s.take.recording.entry (frameAppended pl timecode s).1
          take := { s.take with recording := idleRecording } }
      else
        { s with
          store := (frameAppended pl timecode s).1
          take := { s.take with
            recording := { s.take.recording with index := s.take.recording.index + 1 } } } := by
  unfold appendFrame
  exact (if_pos records).trans (if_pos stored)

/-- A frame's record that finds the free list exhausted: the recording ends TRUNCATED (R138). -/
theorem appendFrame_exhausted (records : s.take.recording.state = .recording)
    (none_ : (frameAppended pl timecode s).2 = false) :
    appendFrame false pl timecode s =
      { s with
        store := endEntry s.take.recording.entry
          ((frameAppended pl timecode s).1.mapEntry s.take.recording.entry fun e => { e with truncated := true })
        take := { s.take with recording := idleRecording } } := by
  unfold appendFrame
  exact (if_pos records).trans (if_neg (by rw [show (appendRecord _ _ _ _).2 = false from none_]; decide))

end

theorem putRecord_interrupted (i : Fin 32) (bytes : List Byte) (timecode : Word) (st : TakeStore) :
    ((putRecord i bytes timecode st).dir[i]).interrupted = (st.dir[i]).interrupted := by
  rw [putRecord_eq, mapEntry_same]; rfl

/-- An append leaves the INTERRUPTED flag of its entry. -/
theorem appendRecord_interrupted (i : Fin 32) (bytes : List Byte) (timecode : Word) (st : TakeStore) :
    ((appendRecord i bytes timecode st).1.dir[i]).interrupted = (st.dir[i]).interrupted := by
  rcases appendRecord_cases i bytes timecode st with ⟨-, e⟩ | ⟨-, ⟨-, e⟩ | ⟨b, rest, -, e⟩⟩ <;> rw [e] <;> dsimp only
  · exact putRecord_interrupted _ _ _ _
  · rw [(closeLast_frame _ _ _).1]
  · rw [putRecord_interrupted]
    unfold blockLent
    rw [mapEntry_same]
    simp only [(closeLast_frame _ _ _).1]

end Sys2Proof.Machine

namespace Sys2Proof.Proofs
open Sys2Proof.Machine Sys2Proof.Claims

/-- Settles O43: MARK by its three conditions, RECORD_END by the record state. -/
theorem markAndEndTaken : Obligations.MarkAndEndTaken := by
  rintro tag s ⟨tagged, notArming⟩
  have runs (code : Byte) : s.mode.mode ≠ .arming ∨ armingAccepts code = true := .inl notArming
  refine ⟨fun idle => ⟨request_replied tagged (runs _) (markBody_idle idle),
    request_replied tagged (runs _) (recordEndBody_idle idle)⟩, fun active => ⟨fun marked => ?_, fun fresh full => ?_,
    fun fresh room => ?_⟩, fun armed => request_replied tagged (runs _) (recordEndBody_armed armed),
    fun records => ⟨fun inside => ?_, fun whole => ⟨endEntry s.take.recording.entry s.store, ?_, ?_⟩⟩⟩
  · exact request_replied tagged (runs _) ((markBody_active active).trans (if_pos marked))
  · exact request_replied tagged (runs _) ((markBody_active active).trans ((if_neg fresh).trans (if_pos full)))
  · exact request_replied tagged (runs _)
      ((markBody_active active).trans ((if_neg fresh).trans (if_neg (Nat.not_le.2 room))))
  · exact request_replied tagged (runs _) ((recordEndBody_recording records).trans (if_neg inside))
  · exact request_replied tagged (runs _) ((recordEndBody_recording records).trans (if_pos whole))
  · exact recordingEnded_asItStood _ _

/-- Settles O44: a record behind a held half word first, of which the whole-word record is the case with none held; then
the block change, and the frame that appends. -/
theorem recordsStoredInPlace : Obligations.RecordsStoredInPlace := by
  refine ⟨?_, ?_, fun i bytes timecode st => ?_, fun pl timecode s => ?_⟩
  · intro i bytes timecode st e size length words none_ holds blocks inside _ at' u
    have kept : heldBytes st = [] := by unfold heldBytes; rw [none_]
    have stores := appendRecord_stores bytes timecode inside fun x is => by rw [none_] at is; cases is
    have whole : bytes.length / 8 * 8 = bytes.length := by rw [length]; omega
    simp only [kept, List.nil_append, List.length_nil, Nat.sub_zero, whole, if_true] at stores
    rw [length] at stores
    obtain ⟨inMem, outMem, inCheck, outCheck⟩ := writeWords_reads at' bytes st (Nat.le_of_eq length.symm)
    have shape : u = ({ withEntry st i (appendedEntry timecode e) with
        mem := (writeWords at' (bytes.take size) st).mem, check := (writeWords at' (bytes.take size) st).check
        heldWord := none }, true) := stores
    rw [shape]
    refine ⟨rfl, inMem, outMem, inCheck, outCheck, ?_⟩
    rw [← none_]; rfl
  · intro i bytes timecode st e size at' kept length holds blocks inside _ held _ start stream whole u
    obtain ⟨inMem, outMem, inCheck, outCheck⟩ := writeWords_reads start stream st (Nat.div_mul_le_self stream.length 8)
    have shape : u = ({ withEntry st i (appendedEntry timecode e) with
        mem := (writeWords start (stream.take whole) st).mem, check := (writeWords start (stream.take whole) st).check
        heldWord := if whole = stream.length then none else some (start + whole, stream.drop whole) }, true) :=
      appendRecord_stores bytes timecode inside held
    rw [shape]
    exact ⟨rfl, inMem, outMem, inCheck, outCheck, rfl⟩
  · intro e full
    refine ⟨fun none_ => ?_, fun b rest free holds => ?_⟩
    · obtain ⟨mem, check, shape⟩ := closeLast_shape e 0xFFFF st
      exact ⟨_, appendRecord_exhausted bytes timecode full none_, lastBlockClosed_closeLast _ _ _, by rw [shape]⟩
    · obtain ⟨mem, check, shape⟩ := closeLast_shape e b st
      refine ⟨blockLent i b rest (closeLast e b st),
        lastBlockClosed_congr rfl rfl rfl (lastBlockClosed_closeLast e b st), ?_,
        appendRecord_lends bytes timecode full free holds⟩
      rw [shape]; rfl
  · intro g e flags bytes u t ends
    have record : bytes = frameRecord pl s := (frameRecord_eq pl s).symm
    have appended : u = frameAppended pl timecode s := by
      rw [show u = appendRecord g.entry bytes timecode s.store from rfl, record]; rfl
    have interrupted : e.interrupted = (u.1.dir[g.entry]).interrupted :=
      (appendRecord_interrupted g.entry bytes timecode s.store).symm
    refine ⟨appendFrame_away, fun records => ⟨fun stored goesOn => ?_, fun stored due => ?_, fun exhausted => ?_⟩⟩
    · rw [appended] at stored ⊢
      exact (appendFrame_stored records stored).trans (if_neg goesOn)
    · have shape : t = _ := (appendFrame_stored records (appended ▸ stored)).trans (if_pos due)
      rw [← appended] at shape
      rw [shape, interrupted]
      exact ⟨rfl, recordingEnded_asItStood g.entry u.1⟩
    · have shape : t = _ := appendFrame_exhausted records (appended ▸ exhausted)
      rw [← appended] at shape
      rw [shape]
      refine ⟨rfl, ?_⟩
      have ended := recordingEnded_asItStood g.entry (u.1.mapEntry g.entry fun e => { e with truncated := true })
      rw [mapEntry_same] at ended
      rw [interrupted]; exact ended

end Sys2Proof.Proofs
end

section
/-! PROOFS. DELETE_TAKE and FORMAT by their conditions (R116, R124). -/

namespace Sys2Proof.Machine
open Sys2Proof.Claims

/-! ## Entries looked for -/

theorem findEntry_eq_none {st : TakeStore} {p : DirEntry → Bool} (h : ∀ i : Fin 32, p st.dir[i] = false) :
    findEntry st p = none :=
  List.find?_eq_none.2 fun i _ => by rw [h i]; decide

theorem findEntry_eq_some {st : TakeStore} {p : DirEntry → Bool} {i : Fin 32} (here : p st.dir[i] = true)
    (lowest : ∀ j : Fin 32, j < i → p st.dir[j] = false) : findEntry st p = some i :=
  find?_finRange_eq_some.2 ⟨here, lowest⟩

/-- An entry that holds the take of a number (R124). -/
def holdsTake (take : Nat) (e : DirEntry) : Bool := e.state != .empty && e.take == take

theorem holdsTake_iff (take : Nat) (e : DirEntry) : holdsTake take e = true ↔ e.state ≠ .empty ∧ e.take = take := by
  simp [holdsTake]

theorem takeNumber_iff (n : Half) : takeNumber n = true ↔ 1 ≤ n.toNat ∧ n.toNat ≤ 9999 := by simp [takeNumber]

/-! ## DELETE_TAKE -/

section
variable {take : Half} {s : State}

theorem deleteTakeBody_formatting (formatting : s.store.state = .formatting) :
    deleteTakeBody take s = (s, plain .refusedBusy) := if_pos formatting

theorem deleteTakeBody_unnumbered (still : s.store.state ≠ .formatting) (outside : takeNumber take = false) :
    deleteTakeBody take s = (s, plain .badParam) := (if_neg still).trans (if_pos outside)

theorem deleteTakeBody_numbered (still : s.store.state ≠ .formatting) (inside : takeNumber take = true) :
    deleteTakeBody take s =
      match findEntry s.store (holdsTake take.toNat) with
      | none => (s, plain .notFound)
      | some i =>
        if (s.store.dir[i]).state = .recording then (s, plain .refusedBusy)
        else if s.take.play.active = true ∧ s.take.play.take = take.toNat then (s, plain .refusedBusy)
        else (s.setStore (deleteEntry i s.store), plain .ok) :=
  (if_neg still).trans (if_neg (by rw [inside]; decide))

theorem deleteTakeBody_absent (still : s.store.state ≠ .formatting) (inside : takeNumber take = true)
    (absent : findEntry s.store (holdsTake take.toNat) = none) : deleteTakeBody take s = (s, plain .notFound) := by
  rw [deleteTakeBody_numbered still inside, absent]

theorem deleteTakeBody_found {i : Fin 32} (still : s.store.state ≠ .formatting) (inside : takeNumber take = true)
    (found : findEntry s.store (holdsTake take.toNat) = some i) :
    deleteTakeBody take s =
      if (s.store.dir[i]).state = .recording then (s, plain .refusedBusy)
      else if s.take.play.active = true ∧ s.take.play.take = take.toNat then (s, plain .refusedBusy)
      else (s.setStore (deleteEntry i s.store), plain .ok) := by
  rw [deleteTakeBody_numbered still inside, found]

/-! ## FORMAT -/

theorem formatBody_busy
    (busy : s.store.state = .formatting ∨ s.take.recording.active = true ∨ s.take.play.active = true) :
    formatBody s = (s, plain .refusedBusy) := if_pos busy

theorem formatBody_begins
    (free : ¬ (s.store.state = .formatting ∨ s.take.recording.active = true ∨ s.take.play.active = true)) :
    formatBody s = (s.setStore (beginFormat s.store), plain .accepted) := if_neg free

end

end Sys2Proof.Machine

namespace Sys2Proof.Proofs
open Sys2Proof.Machine Sys2Proof.Claims

/-- Settles O48: DELETE_TAKE by the take's lowest entry, FORMAT by what is busy. -/
theorem deleteAndFormatTaken : Obligations.DeleteAndFormatTaken := by
  intro tag take s tagged p playing isTake del
  have active : s.take.play.active = true ↔ playing := Playback.active_iff _
  have holds (i : Fin 32) : holdsTake take.toNat s.store.dir[i] = true ↔ isTake i := holdsTake_iff _ _
  have lacks (i : Fin 32) (other : ¬ isTake i) : holdsTake take.toNat s.store.dir[i] = false :=
    Bool.eq_false_iff.2 fun h => other ((holds i).1 h)
  refine ⟨fun busy => ?_, fun used still outside => ?_, fun used still low high => ⟨fun absent => ?_,
    fun i here lowest => ?_⟩, fun busy => ?_,
    fun used still idle stopped => ?_⟩
  · by_cases arming : s.mode.mode = .arming
    · exact request_refusedInArming _ tagged arming rfl
    · exact request_replied tagged (.inl arming) (deleteTakeBody_formatting (busy.resolve_left arming))
  · refine request_replied tagged (.inl used) (deleteTakeBody_unnumbered still (Bool.eq_false_iff.2 fun inside => ?_))
    have bounds := (takeNumber_iff take).1 inside
    rcases outside with zero | above
    · rw [zero] at bounds; exact absurd bounds.1 (by decide)
    · omega
  · exact request_replied tagged (.inl used) (deleteTakeBody_absent still ((takeNumber_iff take).2 ⟨low, high⟩)
      (findEntry_eq_none fun i => lacks i (absent i)))
  · have found := deleteTakeBody_found still ((takeNumber_iff take).2 ⟨low, high⟩)
      (findEntry_eq_some ((holds i).2 here) fun j below => lacks j (lowest j below))
    refine ⟨fun busy => request_replied tagged (.inl used) (found.trans ?_),
      fun complete free => request_replied tagged (.inl used) (found.trans ?_)⟩
    · rcases busy with recording | ⟨plays, this⟩
      · exact if_pos recording
      · exact ite_eq_left_iff.2 fun _ => if_pos ⟨active.2 plays, this⟩
    · exact (if_neg (by rw [complete]; decide)).trans (if_neg fun busy => free ⟨active.1 busy.1, busy.2⟩)
  · by_cases arming : s.mode.mode = .arming
    · exact request_refusedInArming _ tagged arming rfl
    · refine request_replied tagged (.inl arming) (formatBody_busy ?_)
      rw [Recording.active_iff, active]
      exact busy.resolve_left arming
  · refine request_replied tagged (.inl used) (formatBody_begins ?_)
    rw [Recording.active_iff, active, not_or, not_or, not_not]
    exact ⟨still, idle, stopped⟩

end Sys2Proof.Proofs
end

section
/-! PROOFS. The words of a read by their class (R111 to R113), and one block of a format tested (R117). -/

namespace Sys2Proof.Machine
open Sys2Proof.Claims

/-! ## The class of a word read -/

theorem bitCount_eq_zero {n : Nat} {x : BitVec n} (h : bitCount x = 0) : x = 0#n := by
  refine BitVec.eq_of_getLsbD_eq fun i hi => ?_
  have clear := List.countP_eq_zero.1 h i (List.mem_range.2 hi)
  rw [BitVec.getLsbD_zero]
  exact Bool.eq_false_iff.2 clear

section
variable {st : TakeStore} {e : WordRead}

theorem classOf_undisturbed (h : disturbed e = 0) : st.classOf e = .clean := by unfold TakeStore.classOf; simp only [h]

theorem classOf_disturbedOnce (h : disturbed e = 1) : st.classOf e = .single := by
  unfold TakeStore.classOf; simp only [h]

theorem classOf_disturbedTwice (h : disturbed e = 2) : st.classOf e = .double := by
  unfold TakeStore.classOf; simp only [h]

theorem handed_clean (h : st.classOf e = .clean) : st.handed e = st.wordData e.address ^^^ e.data := by
  unfold TakeStore.handed; rw [h]; rfl

theorem handed_undisturbed (h : disturbed e = 0) : st.handed e = st.wordData e.address := by
  have data : e.data = 0#64 := bitCount_eq_zero (Nat.add_eq_zero_iff.1 h).1
  rw [handed_clean (classOf_undisturbed h), data, BitVec.xor_zero]

theorem handed_disturbedOnce (h : disturbed e = 1) : st.handed e = st.wordData e.address := by
  unfold TakeStore.handed; rw [classOf_disturbedOnce h]; exact if_pos h

end

/-! ## The words of a read counted and offered -/

/-- The class and the syndrome of a word read depend on the bytes and the check bits alone. -/
theorem classOf_congr {st u : TakeStore} (mem : u.mem = st.mem) (check : u.check = st.check) (e : WordRead) :
    u.classOf e = st.classOf e ∧ u.syndromeOf e = st.syndromeOf e := by
  have data : u.dataRead e = st.dataRead e := by unfold TakeStore.dataRead TakeStore.wordData; rw [mem]
  have bits : u.checkRead e = st.checkRead e := by
    unfold TakeStore.checkRead TakeStore.wordCheck TakeStore.wordData; rw [mem, check]
  have same : u.classOf e = st.classOf e := by unfold TakeStore.classOf; rw [data, bits]
  exact ⟨same, by unfold TakeStore.syndromeOf; rw [same, data, bits]⟩

/-- Whether a word read is reported to an empty error record (R112, R113). -/
def reported (st : TakeStore) (e : WordRead) : Bool :=
  st.classOf e == .double || (st.classOf e == .single && st.reportSingles)

/-- The error record that a reported word fills (R112). -/
def firstError (reader : MemReader) (part : Word) (st : TakeStore) (e : WordRead) : MemErrRecord :=
  { address := e.address, syndrome := st.syndromeOf e, kind := st.classOf e, reader := reader, part := part
    doubleAfterSingle := false }

/-- One word counted, then offered (R111, R112). -/
def errorTaken (reader : MemReader) (part : Word) (e : WordRead) (st : TakeStore) : TakeStore :=
  offerError reader part e (countError e st)

theorem takeErrors_cons (reader : MemReader) (part : Word) (e : WordRead) (es : List WordRead) (st : TakeStore) :
    takeErrors reader part (e :: es) st = takeErrors reader part es (errorTaken reader part e st) := rfl

theorem takeErrors_append (reader : MemReader) (part : Word) (es fs : List WordRead) (st : TakeStore) :
    takeErrors reader part (es ++ fs) st = takeErrors reader part fs (takeErrors reader part es st) := by
  induction es generalizing st with
  | nil => rfl
  | cons e es ih => exact ih _

theorem countError_eq (e : WordRead) (st : TakeStore) :
    countError e st = { st with
      correctable := if st.classOf e = .single then satSucc 65535 st.correctable else st.correctable
      uncorrectable := if st.classOf e = .double then satSucc 65535 st.uncorrectable else st.uncorrectable } := by
  unfold countError
  cases st.classOf e <;> rfl

theorem offerError_eq (reader : MemReader) (part : Word) (e : WordRead) (st : TakeStore) :
    offerError reader part e st = { st with
      errRecord := match st.errRecord with
        | none => if reported st e = true then some (firstError reader part st e) else none
        | some r => some { r with
            doubleAfterSingle := r.doubleAfterSingle || (r.kind == .single && st.classOf e == .double) } } := by
  unfold offerError
  cases record : st.errRecord with
  | none =>
    have same : (st.classOf e = .double ∨ (st.classOf e = .single ∧ st.reportSingles = true)) ↔
        reported st e = true := by
      simp [reported]
    simp only [same]
    split
    · rfl
    · rw [← record]
  | some r =>
    dsimp only
    by_cases second : r.kind = .single ∧ st.classOf e = .double
    · rw [if_pos second]
      simp [second]
    · rw [if_neg second]
      have none_ : (r.kind == .single && st.classOf e == .double) = false := by simpa using second
      rw [none_, Bool.or_false, ← record]

theorem errorTaken_eq (reader : MemReader) (part : Word) (e : WordRead) (st : TakeStore) :
    errorTaken reader part e st = { st with
      correctable := if st.classOf e = .single then satSucc 65535 st.correctable else st.correctable
      uncorrectable := if st.classOf e = .double then satSucc 65535 st.uncorrectable else st.uncorrectable
      errRecord := match st.errRecord with
        | none => if reported st e = true then some (firstError reader part st e) else none
        | some r => some { r with
            doubleAfterSingle := r.doubleAfterSingle || (r.kind == .single && st.classOf e == .double) } } := by
  have same (x : WordRead) : (countError e st).classOf x = st.classOf x ∧
      (countError e st).syndromeOf x = st.syndromeOf x := by
    obtain ⟨mem, check, -⟩ := countError_frame e st
    exact classOf_congr mem check x
  have report : reported (countError e st) e = reported st e := by
    unfold reported; rw [(same e).1, countError_eq]
  have first : firstError reader part (countError e st) e = firstError reader part st e := by
    unfold firstError; rw [(same e).1, (same e).2]
  unfold errorTaken
  rw [offerError_eq, report, first, (same e).1, countError_eq]

/-- The words of a read change the two counts and the error record alone. -/
theorem takeErrors_shape (reader : MemReader) (part : Word) (es : List WordRead) (st : TakeStore) :
    takeErrors reader part es st = { st with
      correctable := (takeErrors reader part es st).correctable
      uncorrectable := (takeErrors reader part es st).uncorrectable
      errRecord := (takeErrors reader part es st).errRecord } := by
  induction es generalizing st with
  | nil => rfl
  | cons e es ih =>
    rw [takeErrors_cons]
    refine (ih _).trans ?_
    rw [errorTaken_eq]

theorem takeErrors_classOf (reader : MemReader) (part : Word) (es : List WordRead) (st : TakeStore) :
    (takeErrors reader part es st).classOf = st.classOf ∧
    (takeErrors reader part es st).syndromeOf = st.syndromeOf := by
  obtain ⟨mem, check, -⟩ := takeErrors_frame reader part es st
  exact ⟨funext fun e => (classOf_congr mem check e).1, funext fun e => (classOf_congr mem check e).2⟩

theorem errorTaken_classOf (reader : MemReader) (part : Word) (e : WordRead) (st : TakeStore) :
    (errorTaken reader part e st).classOf = st.classOf := (takeErrors_classOf reader part [e] st).1

/-- A count that saturates, counted on once more or not. -/
theorem satCount_step {n k : Nat} {p : Prop} [Decidable p] :
    min ((if p then satSucc 65535 n else n) + k) 65535 = min (n + (k + if p then 1 else 0)) 65535 := by
  unfold satSucc; split <;> omega

/-- The two counts once the words of a read are counted (R111). -/
theorem takeErrors_counts (reader : MemReader) (part : Word) (es : List WordRead) (st : TakeStore) :
    (st.correctable ≤ 65535 → (takeErrors reader part es st).correctable =
      min (st.correctable + es.countP fun e => st.classOf e == .single) 65535) ∧
    (st.uncorrectable ≤ 65535 → (takeErrors reader part es st).uncorrectable =
      min (st.uncorrectable + es.countP fun e => st.classOf e == .double) 65535) := by
  induction es generalizing st with
  | nil => exact ⟨fun h => (Nat.min_eq_left h).symm, fun h => (Nat.min_eq_left h).symm⟩
  | cons e es ih =>
    obtain ⟨correctable, uncorrectable⟩ := ih (errorTaken reader part e st)
    rw [errorTaken_classOf, errorTaken_eq] at correctable uncorrectable
    have below {p : Prop} [Decidable p] {n : Nat} (h : n ≤ 65535) : (if p then satSucc 65535 n else n) ≤ 65535 := by
      split
      · exact satSucc_le.1
      · exact h
    rw [takeErrors_cons, errorTaken_eq]
    refine ⟨fun h => (correctable (below h)).trans ?_, fun h => (uncorrectable (below h)).trans ?_⟩
    · rw [satCount_step, List.countP_cons]; simp only [beq_iff_eq]
    · rw [satCount_step, List.countP_cons]; simp only [beq_iff_eq]

/-- A record that stands notes a DOUBLE after a SINGLE, and no more (R112, R113). -/
theorem takeErrors_later (reader : MemReader) (part : Word) (es : List WordRead) {st : TakeStore} {r : MemErrRecord}
    (h : st.errRecord = some r) :
    (takeErrors reader part es st).errRecord = some { r with
      doubleAfterSingle := r.doubleAfterSingle || (r.kind == .single && es.any fun e => st.classOf e == .double) } := by
  induction es generalizing st r with
  | nil => simpa [takeErrors] using h
  | cons e es ih =>
    have next : (errorTaken reader part e st).errRecord = some { r with
        doubleAfterSingle := r.doubleAfterSingle || (r.kind == .single && st.classOf e == .double) } := by
      rw [errorTaken_eq, h]
    rw [takeErrors_cons, ih next, errorTaken_classOf, List.any_cons, Bool.and_or_distrib_left, Bool.or_assoc]

theorem errorTaken_unreported (reader : MemReader) (part : Word) {e : WordRead} {st : TakeStore}
    (empty : st.errRecord = none) (h : reported st e = false) : (errorTaken reader part e st).errRecord = none := by
  rw [errorTaken_eq, empty]; exact if_neg (by rw [h]; decide)

theorem errorTaken_reports (reader : MemReader) (part : Word) {e : WordRead} {st : TakeStore}
    (empty : st.errRecord = none) (h : reported st e = true) :
    (errorTaken reader part e st).errRecord = some (firstError reader part st e) := by
  rw [errorTaken_eq, empty]; exact if_pos h

/-- Which words are reported does not change in a read. -/
theorem takeErrors_reported (reader : MemReader) (part : Word) (es : List WordRead) (st : TakeStore) :
    reported (takeErrors reader part es st) = reported st := by
  unfold reported
  rw [(takeErrors_classOf _ _ _ _).1, takeErrors_shape]

theorem takeErrors_unreported (reader : MemReader) (part : Word) (es : List WordRead) {st : TakeStore}
    (empty : st.errRecord = none) (h : ∀ e ∈ es, reported st e = false) :
    (takeErrors reader part es st).errRecord = none := by
  induction es generalizing st with
  | nil => exact empty
  | cons e es ih =>
    have kept : reported (errorTaken reader part e st) = reported st := takeErrors_reported reader part [e] st
    rw [takeErrors_cons]
    refine ih (errorTaken_unreported reader part empty (h e List.mem_cons_self)) fun x listed => ?_
    rw [kept]; exact h x (List.mem_cons_of_mem _ listed)

/-- The first reported word of a read fills an empty record (R112). -/
theorem takeErrors_first (reader : MemReader) (part : Word) {before after : List WordRead} {e : WordRead}
    {st : TakeStore} (empty : st.errRecord = none) (quiet : ∀ x ∈ before, reported st x = false)
    (reports : reported st e = true) :
    (takeErrors reader part (before ++ e :: after) st).errRecord = some
      { firstError reader part st e with
        doubleAfterSingle := st.classOf e == .single && after.any fun x => st.classOf x == .double } := by
  obtain ⟨cls, syndrome⟩ := takeErrors_classOf reader part before st
  have filled := errorTaken_reports reader part (e := e) (takeErrors_unreported reader part before empty quiet)
    (by rw [takeErrors_reported]; exact reports)
  rw [takeErrors_append, takeErrors_cons, takeErrors_later reader part after filled, errorTaken_classOf]
  unfold firstError
  rw [cls, syndrome, Bool.false_or]

/-! ## A block tested -/

theorem memRead_memForget (m : List Host.Cell) (lo hi a : Nat) :
    memRead (memForget m lo hi) a = if lo ≤ a ∧ a < hi then none else memRead m a := by
  induction m with
  | nil => simp [memForget, memRead]
  | cons c rest ih =>
    unfold memForget at ih ⊢
    rw [List.filter_cons]
    split
    case isTrue keeps =>
      simp only [Bool.or_eq_true, decide_eq_true_eq] at keeps
      simp only [memRead, ih]
      split
      · rw [if_neg (by omega)]
      · rfl
    case isFalse drops =>
      simp only [Bool.or_eq_true, decide_eq_true_eq] at drops
      simp only [memRead, ih]
      split
      · rfl
      · rw [if_neg (by omega)]

/-- The addresses of a unit of n in one of its equal parts. -/
theorem div_eq_iff_within {a n b : Nat} (h : 0 < n) : a / n = b ↔ b * n ≤ a ∧ a < (b + 1) * n := by
  rw [Nat.div_eq_iff h]
  have : (b + 1) * n = b * n + n := Nat.succ_mul b n
  have : n * b = b * n := Nat.mul_comm n b
  omega

theorem wordInBlock_iff (block a : Nat) : wordInBlock block a = true ↔ a / 2048 = block := decide_eq_true_iff

/-- The disturbed words of the block that a format tests. -/
def blockErrors (errors : List WordRead) (st : TakeStore) : List WordRead :=
  errors.filter fun e => wordInBlock st.progress e.address

/-- Whether the block that a format tests fails (R117). -/
def blockFails (errors : List WordRead) (differ : List Nat) (st : TakeStore) : Bool :=
  (blockErrors errors st).any (writePattern st.progress st).failsTest || differ.any (wordInBlock st.progress)

theorem blockFails_iff (errors : List WordRead) (differ : List Nat) (st : TakeStore) :
    blockFails errors differ st = true ↔
      (∃ e ∈ blockErrors errors st, (writePattern st.progress st).classOf e = .double ∨
        (writePattern st.progress st).handed e ≠ (writePattern st.progress st).wordData e.address) ∨
      ∃ a ∈ differ, a / 2048 = st.progress := by
  simp only [blockFails, Bool.or_eq_true, List.any_eq_true, TakeStore.failsTest, beq_iff_eq, bne_iff_ne,
    wordInBlock_iff]

/-- The failed blocks of a format once one more block is tested (R117). -/
def failedThen (errors : List WordRead) (differ : List Nat) (st : TakeStore) : List Nat :=
  if blockFails errors differ st = true then st.formatFailed ++ [st.progress] else st.formatFailed

/-- The Take Store once a block of a format has been tested, before the format's completion. -/
def blockCounted (part : Word) (errors : List WordRead) (differ : List Nat) (st : TakeStore) : TakeStore :=
  { takeErrors .format part (blockErrors errors st) (writePattern st.progress st) with
    progress := st.progress + 1, formatFailed := failedThen errors differ st }

theorem blockCount_eq : blockCount = 4096 := rfl

theorem testBlock_eq (part : Word) (errors : List WordRead) (differ : List Nat) (st : TakeStore) :
    testBlock part errors differ st =
      if st.progress + 1 = blockCount then completeFormat (blockCounted part errors differ st)
      else blockCounted part errors differ st := by
  have failed : (takeErrors .format part (blockErrors errors st) (writePattern st.progress st)).formatFailed =
      st.formatFailed := by rw [takeErrors_shape]; rfl
  unfold testBlock blockCounted failedThen blockFails
  rw [← failed]
  unfold blockErrors
  generalize blockCount = count
  rfl

theorem blockCounted_eq (part : Word) (errors : List WordRead) (differ : List Nat) (st : TakeStore) :
    blockCounted part errors differ st =
      let tested := takeErrors .format part (blockErrors errors st) (writePattern st.progress st)
      { st with
        mem := memForget st.mem (st.progress * blockBytes) ((st.progress + 1) * blockBytes)
        check := memForget st.check (st.progress * blockWords) ((st.progress + 1) * blockWords)
        correctable := tested.correctable, uncorrectable := tested.uncorrectable, errRecord := tested.errRecord
        progress := st.progress + 1, formatFailed := failedThen errors differ st } := by
  unfold blockCounted
  rw [takeErrors_shape]; rfl

/-- What a tested block leaves of the Take Store, whether it is the format's last or not. -/
theorem testBlock_leaves (part : Word) (errors : List WordRead) (differ : List Nat) (st : TakeStore) :
    let u := testBlock part errors differ st
    let tested := takeErrors .format part (blockErrors errors st) (writePattern st.progress st)
    u.dir = st.dir ∧ u.reportSingles = st.reportSingles ∧ u.heldWord = st.heldWord ∧ u.reading = st.reading ∧
    u.progress = st.progress + 1 ∧ u.correctable = tested.correctable ∧ u.uncorrectable = tested.uncorrectable ∧
    u.errRecord = tested.errRecord := by
  intro u tested
  have eq : u = _ := testBlock_eq part errors differ st
  rw [eq, blockCounted_eq]
  split
  · exact ⟨rfl, rfl, rfl, rfl, rfl, rfl, rfl, rfl⟩
  · exact ⟨rfl, rfl, rfl, rfl, rfl, rfl, rfl, rfl⟩

/-- The bytes of the tested block are no longer listed, nor the check bits of its words (log entry 8). -/
theorem testBlock_forgets (part : Word) (errors : List WordRead) (differ : List Nat) (st : TakeStore) :
    (∀ a, memRead (testBlock part errors differ st).mem a =
      if a / 16384 = st.progress then none else memRead st.mem a) ∧
    (∀ a, memRead (testBlock part errors differ st).check a =
      if a / 2048 = st.progress then none else memRead st.check a) := by
  obtain ⟨mem, check⟩ := testBlock_mem part errors differ st
  rw [mem, check]
  refine ⟨fun a => ?_, fun a => ?_⟩
  · exact (memRead_memForget _ _ _ a).trans (if_congr (div_eq_iff_within (by decide)).symm rfl rfl)
  · exact (memRead_memForget _ _ _ a).trans (if_congr (div_eq_iff_within (by decide)).symm rfl rfl)

/-- A block that is not the format's last. -/
theorem testBlock_goesOn (part : Word) (errors : List WordRead) (differ : List Nat) {st : TakeStore}
    (more : st.progress + 1 ≠ 4096) :
    (testBlock part errors differ st).state = st.state ∧
    (testBlock part errors differ st).formatFailed = failedThen errors differ st ∧
    (testBlock part errors differ st).free = st.free ∧ (testBlock part errors differ st).bad = st.bad := by
  rw [testBlock_eq, if_neg (blockCount_eq ▸ more), blockCounted_eq]
  exact ⟨rfl, rfl, rfl, rfl⟩

theorem completeFormat_eq (st : TakeStore) :
    completeFormat st = { st with
      state := .ready, free := (List.range blockCount).filter fun n => !st.formatFailed.contains n
      bad := (List.range blockCount).filter fun n => st.formatFailed.contains n, formatFailed := [] } := by
  unfold completeFormat; rfl

/-- The format's completion: the blocks that passed and those that failed, in rising order (R117). -/
theorem completeFormat_parts (st : TakeStore) :
    (completeFormat st).state = .ready ∧ (completeFormat st).free.Pairwise (· < ·) ∧
    (completeFormat st).bad.Pairwise (· < ·) ∧
    ∀ b, (b ∈ (completeFormat st).bad ↔ b < 4096 ∧ b ∈ st.formatFailed) ∧
      (b ∈ (completeFormat st).free ↔ b < 4096 ∧ b ∉ st.formatFailed) := by
  have rising (p : Nat → Bool) : ((List.range blockCount).filter p).Pairwise (· < ·) :=
    List.Pairwise.filter _ List.pairwise_lt_range
  rw [completeFormat_eq]
  dsimp only
  refine ⟨rfl, rising _, rising _, fun b => ⟨?_, ?_⟩⟩
  · rw [List.mem_filter, List.mem_range, List.contains_iff_mem, blockCount_eq]
  · rw [List.mem_filter, List.mem_range, Bool.not_eq_true', ← Bool.not_eq_true, List.contains_iff_mem, blockCount_eq]

/-- The format's last block: the memory is READY (R117). -/
theorem testBlock_completes (part : Word) (errors : List WordRead) (differ : List Nat) {st : TakeStore}
    (last : st.progress + 1 = 4096) :
    let u := testBlock part errors differ st
    u.state = .ready ∧ u.free.Pairwise (· < ·) ∧ u.bad.Pairwise (· < ·) ∧
    ∀ b, (b ∈ u.bad ↔ b < 4096 ∧ b ∈ failedThen errors differ st) ∧
      (b ∈ u.free ↔ b < 4096 ∧ b ∉ failedThen errors differ st) := by
  intro u
  have done : u = completeFormat (blockCounted part errors differ st) := 
    (testBlock_eq _ _ _ _).trans (if_pos (last.trans blockCount_eq.symm))
  rw [done]
  exact completeFormat_parts (blockCounted part errors differ st)

end Sys2Proof.Machine

namespace Sys2Proof.Proofs
open Sys2Proof.Machine Sys2Proof.Claims

/-- Settles O49: a block tested by what its test leaves, the class of a word by its disturbed bits, and the words of a
read one after the other. -/
theorem blockTested : Obligations.BlockTested := by
  refine ⟨fun errors differ s => ⟨fun other => congrArg Host.Outcome.next (if_neg other), fun formatting => ?_⟩,
    fun st e => ⟨fun none_ => ⟨classOf_undisturbed none_, handed_undisturbed none_⟩,
      fun once => ⟨classOf_disturbedOnce once, handed_disturbedOnce once⟩, classOf_disturbedTwice,
      fun clean => ⟨if_pos clean, handed_clean clean⟩⟩,
    fun reader part errs st => ⟨takeErrors_shape _ _ _ _, (takeErrors_counts _ _ _ _).1, (takeErrors_counts _ _ _ _).2,
      fun r stands => takeErrors_later reader part errs stands,
      fun empty => ⟨takeErrors_unreported reader part errs empty, ?_⟩⟩⟩
  · have fails := blockFails_iff errors differ s.store
    have failed : failedThen errors differ s.store = _ := if_congr fails rfl rfl
    obtain ⟨dir, singles, held, reading, progress, correctable, uncorrectable, record⟩ :=
      testBlock_leaves s.link.part errors differ s.store
    obtain ⟨bytes, checks⟩ := testBlock_forgets s.link.part errors differ s.store
    refine ⟨testBlock s.link.part errors differ s.store, congrArg Host.Outcome.next (if_pos formatting), dir, singles,
      held, reading, progress, correctable, uncorrectable, record, fun a other => (bytes a).trans (if_neg other),
      fun a this => (bytes a).trans (if_pos this), fun a other => (checks a).trans (if_neg other), fun more => ?_,
      fun last => ?_⟩
    · obtain ⟨state, blocks, free, bad⟩ := testBlock_goesOn s.link.part errors differ more
      exact ⟨state.trans formatting, blocks.trans failed, free, bad⟩
    · have completed := testBlock_completes s.link.part errors differ last
      rw [failed] at completed
      exact completed
  · rintro before e after rfl quiet reports
    exact takeErrors_first reader part empty quiet reports

end Sys2Proof.Proofs
end

section
/-! PROOFS. A prefetch read completed: what it delivers, what becomes of the record, and the read that begins next
(R121, R123, R143, R147). -/

namespace Sys2Proof.Machine
open Sys2Proof.Claims

/-! ## The words of a read -/

/-- A word of the block header that a read checks (R123). -/
abbrev inReadHeader (r : ReadReq) (a : Nat) : Prop := r.block * 2048 ≤ a ∧ a < r.block * 2048 + 2

/-- A word that a read's record occupies (R121). -/
abbrev inReadRecord (r : ReadReq) (a : Nat) : Prop := r.address / 8 ≤ a ∧ a ≤ (r.address + r.size - 1) / 8

theorem headerWord_iff (r : ReadReq) (a : Nat) : r.headerWord a = true ↔ inReadHeader r a := by
  unfold ReadReq.headerWord
  rw [Bool.and_eq_true, decide_eq_true_iff, decide_eq_true_iff]; rfl

theorem recordWord_iff (r : ReadReq) (a : Nat) : r.recordWord a = true ↔ inReadRecord r a := by
  unfold ReadReq.recordWord
  rw [Bool.and_eq_true, decide_eq_true_iff, decide_eq_true_iff]

theorem errorsOfRead_eq (r : ReadReq) (errors : List WordRead) :
    errorsOfRead r errors =
      errors.filter fun e => decide (inReadRecord r e.address ∨ (r.header = true ∧ inReadHeader r e.address)) := by
  refine List.filter_congr fun e _ => Bool.eq_iff_iff.2 ?_
  rw [Bool.or_eq_true, Bool.and_eq_true, headerWord_iff, recordWord_iff, decide_eq_true_iff]

/-- Some word of a read reads DOUBLE at a place. -/
def readsDouble (st : TakeStore) (errs : List WordRead) (q : Nat → Prop) : Prop :=
  ∃ e ∈ errs, st.classOf e = .double ∧ q e.address

theorem doubleIn_iff {st : TakeStore} {errs : List WordRead} {p : Nat → Bool} {q : Nat → Prop}
    (same : ∀ a, p a = true ↔ q a) : doubleIn st errs p = true ↔ readsDouble st errs q := by
  simp only [doubleIn, readsDouble, List.any_eq_true, Bool.and_eq_true, beq_iff_eq, same]

theorem headerMatches_iff (st : TakeStore) (errs : List WordRead) (r : ReadReq) :
    headerMatches st errs r = true ↔
      st.readBytes errs (r.block * blockBytes) 8 =
        u16 r.take ++ (u16 r.sequence ++ (u16 r.recordCount ++ u16 r.nextBlock)) := by
  unfold headerMatches
  rw [beq_iff_eq]; rfl

theorem headerBad_iff (errors : List WordRead) (r : ReadReq) (st : TakeStore) :
    headerBad errors r st = true ↔
      if r.header = true then
        readsDouble st (errorsOfRead r errors) (inReadHeader r) ∨
          st.readBytes (errorsOfRead r errors) (r.block * blockBytes) 8 ≠
            u16 r.take ++ (u16 r.sequence ++ (u16 r.recordCount ++ u16 r.nextBlock))
      else st.blockBad = true := by
  unfold headerBad
  split
  · rw [Bool.or_eq_true, doubleIn_iff (headerWord_iff r), Bool.not_eq_true', ← Bool.not_eq_true, headerMatches_iff]
  · exact Iff.rfl

theorem recordBad_iff (errors : List WordRead) (r : ReadReq) (st : TakeStore) :
    recordBad errors r st = true ↔
      headerBad errors r st = true ∨ readsDouble st (errorsOfRead r errors) (inReadRecord r) := by
  unfold recordBad
  rw [Bool.or_eq_true, doubleIn_iff (recordWord_iff r)]

/-! ## What a read delivers -/

/-- The directory once a read has been delivered: a bad record marks its COMPLETE take DAMAGED (R123). -/
def deliveredDir (errors : List WordRead) (r : ReadReq) (st : TakeStore) : Vector DirEntry 32 :=
  if recordBad errors r st = true ∧ (st.dir[r.entry]).state = .complete ∧ (st.dir[r.entry]).take = r.take then
    st.dir.set r.entry.val { st.dir[r.entry] with damaged := true } r.entry.isLt
  else st.dir

/-- The store and the record that a read delivers, item by item (R111, R112, R123). -/
theorem deliver_store (part : Word) (errors : List WordRead) (r : ReadReq) (st : TakeStore) :
    (deliver part errors r st).1 =
      let counted := takeErrors .playback part (errorsOfRead r errors) st
      { st with
        correctable := counted.correctable, uncorrectable := counted.uncorrectable, errRecord := counted.errRecord
        blockBad := headerBad errors r st, reading := none, dir := deliveredDir errors r st } := by
  have counted : readCounted part errors r st = { st with
      correctable := (takeErrors .playback part (errorsOfRead r errors) st).correctable
      uncorrectable := (takeErrors .playback part (errorsOfRead r errors) st).uncorrectable
      errRecord := (takeErrors .playback part (errorsOfRead r errors) st).errRecord
      blockBad := headerBad errors r st, reading := none } := by
    unfold readCounted
    rw [takeErrors_shape]
  rw [deliver_eq, counted]
  unfold deliveredDir TakeStore.mapEntry
  dsimp only
  split <;> rfl

/-- A DAMAGED mark leaves what a next read goes by. -/
theorem deliveredDir_reads (errors : List WordRead) (r : ReadReq) (st : TakeStore) (i : Fin 32) (p : Playback) :
    ((deliveredDir errors r st)[i]).length = (st.dir[i]).length ∧
    nextReadOf p (deliveredDir errors r st)[i] = nextReadOf p st.dir[i] := by
  unfold deliveredDir
  split
  · rw [show (st.dir.set r.entry.val { st.dir[r.entry] with damaged := true } r.entry.isLt)[i] =
      if r.entry = i then { st.dir[r.entry] with damaged := true } else st.dir[i] from
        mapEntry_at st r.entry (fun e => { e with damaged := true }) i]
    split
    case isTrue same => subst same; exact ⟨rfl, rfl⟩
    case isFalse => exact ⟨rfl, rfl⟩
  · exact ⟨rfl, rfl⟩

/-! ## The next read -/

/-- A next read begun, or none, where none is in progress: by the playback, the length of its take and the read of its
next index (R147). -/
theorem startRead_reads {s : State} {p : Playback} {length : Nat} {next : ReadReq} (still : s.store.reading = none)
    (play : s.take.play = p) (long : (s.store.dir[s.take.play.entry]).length = length)
    (reads : nextReadOf s.take.play s.store.dir[s.take.play.entry] = next) :
    let more : Prop := p.active = true ∧ p.nextRead < length ∧ p.queue.length < 512
    startRead s = { s with
      store := { s.store with reading := (startRead s).store.reading }
      take := { s.take with play := { p with nextRead := (startRead s).take.play.nextRead } } } ∧
    (¬ more → (startRead s).store.reading = none ∧ (startRead s).take.play.nextRead = p.nextRead) ∧
    (more → (startRead s).take.play.nextRead = p.nextRead + 1 ∧ (startRead s).store.reading = some next) := by
  subst play long reads
  intro more
  by_cases begins : more
  · obtain ⟨active, left, room⟩ := begins
    rw [startRead_begins active ⟨still, left, room⟩]
    exact ⟨rfl, fun none_ => absurd ⟨active, left, room⟩ none_, fun _ => ⟨rfl, rfl⟩⟩
  · have waits : startRead s = s := if_neg fun h => begins ⟨h.1, h.2.2⟩
    rw [waits]
    exact ⟨rfl, fun _ => ⟨still, rfl⟩, fun h => absurd h begins⟩

theorem startRead_inactive {s : State} (still : s.take.play.active = false) : startRead s = s :=
  if_neg fun h => absurd (still.symm.trans h.1) (by decide)

/-! ## The delivered record -/

section
variable {errors : List WordRead} {r : ReadReq} {s : State}

/-- The state once a read has been delivered, before its record is queued. -/
def delivered (errors : List WordRead) (r : ReadReq) (s : State) : State :=
  s.setStore (deliver s.link.part errors r s.store).1

/-- The record that a read delivers. -/
def deliveredRecord (errors : List WordRead) (r : ReadReq) (s : State) : QueuedRecord :=
  (deliver s.link.part errors r s.store).2

/-- A cue record delivered bad (R143). -/
def cueFails (errors : List WordRead) (r : ReadReq) (s : State) : Prop :=
  s.take.play.state = .cueing ∧ r.index = s.take.play.cueRecord ∧ recordBad errors r s.store = true

/-- The queue once a read has been delivered (R147). -/
def queueThen (errors : List WordRead) (r : ReadReq) (s : State) : List QueuedRecord :=
  if r.wanted = true then s.take.play.queue ++ [deliveredRecord errors r s] else s.take.play.queue

/-- The state once a read's record has joined the queue, or has been discarded. -/
def recordQueued (errors : List WordRead) (r : ReadReq) (s : State) : State :=
  (delivered errors r s).setTake { s.take with play := { s.take.play with queue := queueThen errors r s } }

theorem deliveredRecord_good : (deliveredRecord errors r s).good = !recordBad errors r s.store := rfl

theorem queueRecord_fails (fails : cueFails errors r s) :
    queueRecord (deliveredRecord errors r s) (delivered errors r s) = abortPlay .data (delivered errors r s) :=
  if_pos ⟨fails.1, fails.2.1, by rw [deliveredRecord_good, fails.2.2]; rfl⟩

theorem queueRecord_joins (joins : ¬ cueFails errors r s) :
    queueRecord (deliveredRecord errors r s) (delivered errors r s) =
      (delivered errors r s).setTake { s.take with
        play := { s.take.play with queue := s.take.play.queue ++ [deliveredRecord errors r s] } } :=
  if_neg fun ⟨cueing, this, bad⟩ => joins ⟨cueing, this, by rwa [deliveredRecord_good, Bool.not_eq_false'] at bad⟩

theorem prefetchReadComplete_idle (idle : s.store.reading = none) :
    exec (.prefetchReadComplete errors) s = .next s := by
  show execPrefetchReadComplete errors s = _
  unfold execPrefetchReadComplete; rw [idle]

theorem prefetchReadComplete_reading (reading : s.store.reading = some r) :
    exec (.prefetchReadComplete errors) s =
      .next (startRead (if r.wanted = true then queueRecord (deliveredRecord errors r s) (delivered errors r s)
        else delivered errors r s)) := by
  show execPrefetchReadComplete errors s = _
  unfold execPrefetchReadComplete; rw [reading]; rfl

theorem prefetchReadComplete_queues (reading : s.store.reading = some r)
    (joins : ¬ (r.wanted = true ∧ cueFails errors r s)) :
    exec (.prefetchReadComplete errors) s = .next (startRead (recordQueued errors r s)) := by
  rw [prefetchReadComplete_reading reading]
  unfold recordQueued queueThen
  by_cases wanted : r.wanted = true
  · rw [if_pos wanted, if_pos wanted, queueRecord_joins fun fails => joins ⟨wanted, fails⟩]
  · rw [if_neg wanted, if_neg wanted]; rfl

theorem prefetchReadComplete_fails (reading : s.store.reading = some r) (wanted : r.wanted = true)
    (fails : cueFails errors r s) :
    exec (.prefetchReadComplete errors) s = .next (abortPlay .data (delivered errors r s)) := by
  rw [prefetchReadComplete_reading reading, if_pos wanted, queueRecord_fails fails, startRead_inactive rfl]

/-! ## What a completed read leaves -/

/-- The Take Store that a delivered read leaves, but for the read that begins next. -/
def deliveredStore (errors : List WordRead) (r : ReadReq) (s : State) (next : Option ReadReq) : TakeStore :=
  let counted := takeErrors .playback s.link.part (errorsOfRead r errors) s.store
  { s.store with
    correctable := counted.correctable, uncorrectable := counted.uncorrectable, errRecord := counted.errRecord
    blockBad := headerBad errors r s.store, reading := next, dir := deliveredDir errors r s.store }

theorem deliveredStore_reading (next : Option ReadReq) : (deliveredStore errors r s next).reading = next := rfl

theorem deliveredStore_dir (next : Option ReadReq) :
    (deliveredStore errors r s next).dir = deliveredDir errors r s.store := rfl

theorem delivered_store : (delivered errors r s).store = deliveredStore errors r s none := deliver_store _ _ _ _

/-- An index and room are left for a next read after a delivery (R147). -/
def readsOn (errors : List WordRead) (r : ReadReq) (s : State) : Prop :=
  s.take.play.active = true ∧ s.take.play.nextRead < (s.store.dir[s.take.play.entry]).length ∧
    (queueThen errors r s).length < 512

/-- A record that joined the queue or was discarded: the store counted and judged, and the next read begun. -/
theorem startRead_recordQueued :
    let t := startRead (recordQueued errors r s)
    t = { s with
      store := deliveredStore errors r s t.store.reading
      take := { s.take with
        play := { s.take.play with queue := queueThen errors r s, nextRead := t.take.play.nextRead } } } ∧
    (¬ readsOn errors r s → t.store.reading = none ∧ t.take.play.nextRead = s.take.play.nextRead) ∧
    (readsOn errors r s → t.take.play.nextRead = s.take.play.nextRead + 1 ∧
      t.store.reading = some (nextReadOf s.take.play s.store.dir[s.take.play.entry])) := by
  intro t
  have store : (recordQueued errors r s).store = deliveredStore errors r s none :=
    (State.setTake_store _ _).trans delivered_store
  have dir : (recordQueued errors r s).store.dir = deliveredDir errors r s.store := by rw [store, deliveredStore_dir]
  obtain ⟨length, next⟩ := deliveredDir_reads errors r s.store s.take.play.entry s.take.play
  obtain ⟨shape, waits, begins⟩ := startRead_reads (s := recordQueued errors r s)
    (p := { s.take.play with queue := queueThen errors r s }) (by rw [store, deliveredStore_reading]) rfl
    (by simp only [dir]; exact length) (by simp only [dir]; exact next)
  refine ⟨shape.trans ?_, waits, begins⟩
  rw [store]; rfl

/-- A bad cue record aborts the playback with reason DATA, and no read is in progress (R143). -/
theorem abortPlay_delivered :
    abortPlay .data (delivered errors r s) = { s with
      cond := (abortPlay .data (delivered errors r s)).cond
      store := deliveredStore errors r s none
      take := { s.take with play := abortedPlay .data s.take.play } } := by
  have store : (abortPlay .data (delivered errors r s)).store = deliveredStore errors r s none := by
    rw [abortPlay_store, delivered_store]; rfl
  rw [← store]; rfl

/-- What a completed read leaves: the store counted and judged; its record queued or discarded and the next read begun;
or, for a bad cue record, the cue aborted. -/
structure ReadLeaves (errors : List WordRead) (r : ReadReq) (s t : State) : Prop where
  blocks : t = { s with cond := t.cond, store := t.store, take := { s.take with play := t.take.play } }
  store : t.store = deliveredStore errors r s t.store.reading
  queued : ¬ (r.wanted = true ∧ cueFails errors r s) → t.cond = s.cond ∧
    t.take.play = { s.take.play with queue := queueThen errors r s, nextRead := t.take.play.nextRead }
  waits : ¬ (r.wanted = true ∧ cueFails errors r s) → ¬ readsOn errors r s →
    t.store.reading = none ∧ t.take.play.nextRead = s.take.play.nextRead
  begins : ¬ (r.wanted = true ∧ cueFails errors r s) → readsOn errors r s →
    t.take.play.nextRead = s.take.play.nextRead + 1 ∧
      t.store.reading = some (nextReadOf s.take.play s.store.dir[s.take.play.entry])
  aborts : r.wanted = true → cueFails errors r s →
    t.store.reading = none ∧ t.take.play = abortedPlay .data s.take.play

theorem prefetchReadComplete_leaves (reading : s.store.reading = some r) :
    ∃ t, exec (.prefetchReadComplete errors) s = .next t ∧ ReadLeaves errors r s t := by
  by_cases fails : r.wanted = true ∧ cueFails errors r s
  · refine ⟨_, prefetchReadComplete_fails reading fails.1 fails.2, ?_⟩
    rw [abortPlay_delivered]
    exact ⟨rfl, rfl, fun other => absurd fails other, fun other => absurd fails other, fun other => absurd fails other,
      fun _ _ => ⟨rfl, rfl⟩⟩
  · refine ⟨_, prefetchReadComplete_queues reading fails, ?_⟩
    obtain ⟨shape, waits, begins⟩ := startRead_recordQueued (errors := errors) (r := r) (s := s)
    generalize startRead (recordQueued errors r s) = t at shape waits begins
    refine ⟨?_, ?_, fun _ => ?_, fun _ => waits, fun _ => begins, fun wanted cue => absurd ⟨wanted, cue⟩ fails⟩
    · rw [shape]
    · rw [shape]; rfl
    · rw [shape]; exact ⟨rfl, rfl⟩

end

end Sys2Proof.Machine

namespace Sys2Proof.Proofs
open Sys2Proof.Machine Sys2Proof.Claims

/-- Settles O50: what a completed read leaves, with its block and its record judged by the words that read DOUBLE and by
the header's contents. -/
theorem prefetchDelivers : Obligations.PrefetchDelivers := by
  intro errors s
  refine ⟨prefetchReadComplete_idle, fun r reading => ?_⟩
  obtain ⟨t, run, leaves⟩ := prefetchReadComplete_leaves (errors := errors) reading
  refine ⟨t, run, ?_⟩
  intro p start inHeader inRecord errs double blockBad bad flags q fails counted
  have words : errs = errorsOfRead r errors := (errorsOfRead_eq r errors).symm
  have header : blockBad ↔ headerBad errors r s.store = true := by
    rw [headerBad_iff, ← words]; rfl
  have record : bad ↔ recordBad errors r s.store = true := by
    rw [recordBad_iff, ← header, ← words]; rfl
  have judged : headerBad errors r s.store = decide blockBad := by
    rw [Bool.eq_iff_iff, decide_eq_true_iff, header]
  have good : (!recordBad errors r s.store) = decide (¬ bad) := by
    rw [Bool.eq_iff_iff, decide_eq_true_iff, record, Bool.not_eq_true', Bool.not_eq_true]
  have queued : deliveredRecord errors r s = q := by
    show readRecord s.store (errorsOfRead r errors) r (recordBad errors r s.store) = q
    unfold readRecord
    rw [good, ← words]; rfl
  have queue : queueThen errors r s = if r.wanted = true then p.queue ++ [q] else p.queue := by
    unfold queueThen; rw [queued]
  have cue : fails ↔ Machine.cueFails errors r s := by
    show _ ∧ _ ∧ bad ↔ _
    rw [record]; rfl
  have dir : deliveredDir errors r s.store =
      if bad ∧ (s.store.dir[r.entry]).state = .complete ∧ (s.store.dir[r.entry]).take = r.take then
        s.store.dir.set r.entry.val { s.store.dir[r.entry] with damaged := true } r.entry.isLt
      else s.store.dir := if_congr (and_congr_left' record.symm) rfl rfl
  have active : p.active = true ↔ p.state = .cueing ∨ p.state = .cued ∨ p.state = .running := Playback.active_iff p
  refine ⟨leaves.blocks, leaves.store.trans ?_, fun unwanted => ?_, fun wanted joins => ?_, fun joins => ?_,
    fun wanted bad_ => leaves.aborts wanted (cue.1 bad_)⟩
  · unfold deliveredStore
    rw [dir, judged, ← words]
  · obtain ⟨cond, play⟩ := leaves.queued fun h => by rw [unwanted] at h; cases h.1
    rw [queue, if_neg (by rw [unwanted]; decide)] at play
    exact ⟨cond, play⟩
  · obtain ⟨cond, play⟩ := leaves.queued fun h => joins (cue.2 h.2)
    rw [queue, if_pos wanted] at play
    exact ⟨cond, play⟩
  · have joins' : ¬ (r.wanted = true ∧ Machine.cueFails errors r s) := fun h => joins ⟨h.1, cue.2 h.2⟩
    have reads : readsOn errors r s ↔ _ := and_congr_left' active
    rw [queue] at reads
    exact ⟨fun none_ => leaves.waits joins' (mt reads.1 none_), fun more => leaves.begins joins' (reads.2 more)⟩

end Sys2Proof.Proofs
end

section
/-! PROOFS. RECORD (R133) and CUE (R142, R143) by their conditions, the entry that a RECORD creates, and the playback that
a CUE begins. -/

namespace Sys2Proof.Machine
open Sys2Proof.Claims

/-! ## Entries and masks -/

theorem findEntry_eq_none_iff {st : TakeStore} {p : DirEntry → Bool} :
    findEntry st p = none ↔ ∀ i : Fin 32, p st.dir[i] = false :=
  ⟨fun h i => Bool.eq_false_iff.2 (List.find?_eq_none.1 h i (List.mem_finRange i)), findEntry_eq_none⟩

theorem findEntry_isNone_iff {st : TakeStore} {p : DirEntry → Bool} :
    (findEntry st p).isNone = true ↔ ¬ ∃ i : Fin 32, p st.dir[i] = true := by
  rw [Option.isNone_iff_eq_none, findEntry_eq_none_iff, not_exists]
  simp only [Bool.not_eq_true]

theorem findEntry_isSome_iff {st : TakeStore} {p : DirEntry → Bool} :
    (findEntry st p).isSome = true ↔ ∃ i : Fin 32, p st.dir[i] = true := by
  rw [← not_iff_not, ← findEntry_isNone_iff, Option.not_isSome_iff_eq_none, Option.isNone_iff_eq_none]

theorem inMask_maskOf (mask : Half) (n : Fin 12) : inMask (maskOf mask) n = mask.getLsbD n.val := by
  rw [inMask, maskOf, BitVec.getLsbD_setWidth, decide_eq_true n.isLt, Bool.true_and]

/-- A RECORD's mask names some channel, none above bit 11 and none that is UNUSED (R133). -/
theorem recordMaskOk_iff (s : State) (mask : Half) :
    recordMaskOk s mask = true ↔ mask ≠ 0 ∧ mask.toNat < 4096 ∧
      ∀ n : Fin 12, mask.getLsbD n.val = true → (s.cond.chans[n]).desc.cls ≠ .unused := by
  have narrow : maskTooWide mask = false ↔ mask.toNat < 4096 := by
    rw [maskTooWide, decide_eq_false_iff_not, Nat.not_le]
  simp only [recordMaskOk, maskChannels, Bool.and_eq_true, bne_iff_ne, Bool.not_eq_true', narrow, List.all_eq_true,
    List.mem_filter, List.mem_finRange, true_and, inMask_maskOf, Channel.used_iff, and_assoc, State.chan]

/-! ## RECORD -/

section
variable {take mask : Half} {s : State}

theorem recordBody_refusedMode (away : s.mode.mode = .parked ∨ s.stop.safety ≠ .normal) :
    recordBody take mask s = (s, plain .refusedMode) := if_pos away

theorem recordBody_refused {r : Result} (open_ : ¬ (s.mode.mode = .parked ∨ s.stop.safety ≠ .normal))
    (refused : recordRefusal s take mask = some r) : recordBody take mask s = (s, plain r) := by
  refine (if_neg open_).trans ?_
  rw [refused]; rfl

theorem recordBody_accepted {i : Fin 32} (open_ : ¬ (s.mode.mode = .parked ∨ s.stop.safety ≠ .normal))
    (passed : recordRefusal s take mask = none) (found : findEntry s.store (fun e => e.state == .empty) = some i) :
    recordBody take mask s = (armRecording i take.toNat (maskOf mask) s, plain .accepted) := by
  refine (if_neg open_).trans ?_
  rw [passed, found]

theorem recordRefusal_illegal (illegal : ¬ (takeNumber take = true ∧ recordMaskOk s mask = true)) :
    recordRefusal s take mask = some .badParam := by
  refine if_pos ?_
  rwa [not_and_or, Bool.not_eq_true, Bool.not_eq_true] at illegal

/-- The conditions of R133 that are left to a RECORD of a legal take number and mask. -/
theorem recordRefusal_legal (legal : takeNumber take = true ∧ recordMaskOk s mask = true) :
    recordRefusal s take mask =
      if s.store.state = .unformatted then some .refusedCondition
      else if s.store.state = .formatting then some .refusedBusy
      else if s.take.ref.required = true ∧ s.take.ref.sync ≠ .locked then some .refusedCondition
      else if s.take.recording.active then some .refusedBusy
      else if (findEntry s.store fun e => e.state == .empty).isNone then some .noSpace
      else if s.store.free = [] then some .noSpace
      else if (findEntry s.store fun e => e.state != .empty && e.take == take.toNat).isSome then some .badParam
      else if s.pins.supplyWarn then some .refusedSupply
      else none :=
  if_neg (by rw [legal.1, legal.2]; decide)

/-- The conditions that are left in a READY memory under a reference that does. -/
theorem recordRefusal_ready (legal : takeNumber take = true ∧ recordMaskOk s mask = true)
    (ready : s.store.state = .ready) (synced : ¬ (s.take.ref.required = true ∧ s.take.ref.sync ≠ .locked)) :
    recordRefusal s take mask =
      if s.take.recording.active then some .refusedBusy
      else if (findEntry s.store fun e => e.state == .empty).isNone then some .noSpace
      else if s.store.free = [] then some .noSpace
      else if (findEntry s.store (holdsTake take.toNat)).isSome then some .badParam
      else if s.pins.supplyWarn then some .refusedSupply
      else none :=
  (recordRefusal_legal legal).trans <| (if_neg (by rw [ready]; decide)).trans <|
    (if_neg (by rw [ready]; decide)).trans (if_neg synced)

/-- The conditions that are left where an entry and a block are free. -/
theorem recordRefusal_room (legal : takeNumber take = true ∧ recordMaskOk s mask = true)
    (ready : s.store.state = .ready) (synced : ¬ (s.take.ref.required = true ∧ s.take.ref.sync ≠ .locked))
    (idle : s.take.recording.state = .idle) {i : Fin 32}
    (found : findEntry s.store (fun e => e.state == .empty) = some i) (free : s.store.free ≠ []) :
    recordRefusal s take mask =
      if (findEntry s.store (holdsTake take.toNat)).isSome then some .badParam
      else if s.pins.supplyWarn then some .refusedSupply
      else none :=
  (recordRefusal_ready legal ready synced).trans <|
    (if_neg fun active => (Recording.active_iff _).1 active idle).trans <|
    (if_neg (by rw [found]; exact nofun)).trans (if_neg free)

end

/-- The entry that a RECORD creates, over an EMPTY one (R120). -/
theorem newEntry_eq (s : State) (take : Nat) (mask : Half) :
    newEntry s take (maskOf mask) =
      { emptyEntry with
        state := .recording, take := take, mask := mask.setWidth 12, mapIds := (newEntry s take (maskOf mask)).mapIds
        cyclesPerFrame := s.take.ref.cyclesPerFrame
        perBlock := 16368 / (4 + 4 * ((List.finRange 12).filter fun n => mask.getLsbD n.val).length) } := by
  have channels : maskChannels (maskOf mask) = (List.finRange 12).filter fun n => mask.getLsbD n.val :=
    List.filter_congr fun n _ => inMask_maskOf mask n
  rw [← channels]; rfl

/-- The map_ids that a RECORD keeps are those of the active maps of the LENS channels in its mask (R120). -/
theorem newEntry_mapIds (s : State) (take : Nat) (mask : Half) (n : Fin 12) :
    (newEntry s take (maskOf mask)).mapIds[n] =
      if mask.getLsbD n.val = true ∧ (s.cond.chans[n]).desc.cls = .lens then
        (match (s.lens[n]).active with
          | none => 0
          | some m => m.mapId)
      else 0 := by
  have named : (inMask (maskOf mask) n && (s.chan n).isLens) = true ↔
      mask.getLsbD n.val = true ∧ (s.cond.chans[n]).desc.cls = .lens := by
    rw [Bool.and_eq_true, inMask_maskOf, Channel.isLens_iff]; rfl
  refine (Vector.getElem_ofFn _).trans ((if_congr named ?_ rfl))
  show ((s.lens[n]).active.map LensMap.mapId).getD 0 = _
  cases (s.lens[n]).active <;> rfl

/-! ## CUE -/

section
variable {take : Half} {mark : Byte} {s : State}

/-- The COMPLETE entry of a take number (R142). -/
def completeTake (take : Nat) (e : DirEntry) : Bool := e.state == .complete && e.take == take

theorem completeTake_iff (take : Nat) (e : DirEntry) :
    completeTake take e = true ↔ e.state = .complete ∧ e.take = take := by simp [completeTake]

theorem cueBody_refusedMode (away : s.mode.mode = .parked ∨ s.stop.safety ≠ .normal) :
    cueBody take mark s = (s, plain .refusedMode) := if_pos away

theorem cueBody_refused {r : Result} (open_ : ¬ (s.mode.mode = .parked ∨ s.stop.safety ≠ .normal))
    (refused : cueRefusal s take mark = some r) : cueBody take mark s = (s, plain r) := by
  refine (if_neg open_).trans ?_
  rw [refused]; rfl

theorem cueBody_absent (open_ : ¬ (s.mode.mode = .parked ∨ s.stop.safety ≠ .normal))
    (passed : cueRefusal s take mark = none) (absent : findEntry s.store (completeTake take.toNat) = none) :
    cueBody take mark s = (s, plain .notFound) := by
  have absent' : completeEntry s take = none := absent
  refine (if_neg open_).trans ?_
  rw [passed, absent']; rfl

theorem cueBody_found {i : Fin 32} (open_ : ¬ (s.mode.mode = .parked ∨ s.stop.safety ≠ .normal))
    (passed : cueRefusal s take mark = none) (found : findEntry s.store (completeTake take.toNat) = some i) :
    cueBody take mark s =
      if (s.store.dir[i]).length = 0 ∨ (s.store.dir[i]).marks.length < mark.toNat then (s, plain .notFound)
      else if s.pins.supplyWarn then (s, plain .refusedSupply)
      else (beginCue i mark.toNat s, plain .accepted) := by
  have found' : completeEntry s take = some i := found
  refine (if_neg open_).trans ?_
  rw [passed, found']; rfl

theorem cueRefusal_illegal (illegal : ¬ (takeNumber take = true ∧ mark.toNat ≤ 16)) :
    cueRefusal s take mark = some .badParam := by
  refine if_pos ?_
  rwa [not_and_or, Bool.not_eq_true, Nat.not_le] at illegal

/-- The conditions of R142 that are left to a CUE of a legal take number and mark. -/
theorem cueRefusal_legal (legal : takeNumber take = true ∧ mark.toNat ≤ 16) :
    cueRefusal s take mark =
      if s.store.state = .unformatted then some .refusedCondition
      else if s.store.state = .formatting then some .refusedBusy
      else if s.take.recording.active then some .refusedBusy
      else if s.take.play.active then some .refusedBusy
      else none :=
  if_neg (by
    rw [legal.1, not_or, Nat.not_lt]
    exact ⟨nofun, legal.2⟩)

/-- In a READY memory a CUE is refused where a recording or a playback is active. -/
theorem cueRefusal_ready (legal : takeNumber take = true ∧ mark.toNat ≤ 16) (ready : s.store.state = .ready) :
    cueRefusal s take mark =
      if s.take.recording.active then some .refusedBusy
      else if s.take.play.active then some .refusedBusy
      else none :=
  (cueRefusal_legal legal).trans <| (if_neg (by rw [ready]; decide)).trans (if_neg (by rw [ready]; decide))

end

/-! ## The playback that a CUE begins -/

theorem cueRecordOf_eq (e : DirEntry) (mark : Byte) :
    cueRecordOf e mark.toNat = if mark = 0 then 0 else e.marks.getD (mark.toNat - 1) 0 :=
  if_congr ⟨fun h => BitVec.eq_of_toNat_eq h, fun h => by rw [h]; rfl⟩ rfl rfl

/-- A LENS channel of the take's mask on a take source whose active map is not the take's (R16, R143). -/
theorem mismatched_iff (e : DirEntry) (n : Fin 12) (c : Channel) (l : LensChannel) :
    mismatched e n c l = true ↔
      c.desc.cls = .lens ∧ e.mask.getLsbD n.val = true ∧ (c.source = .take ∨ c.source = .takeTrim) ∧
        ∀ m, l.active = some m → m.mapId ≠ e.mapIds[n] := by
  simp only [mismatched, Bool.and_eq_true, Channel.isLens_iff, Channel.onTake_iff, mapDiffers_iff, inMask]
  tauto

/-- The end of a fallback changes nothing that the comparison of the maps reads. -/
theorem mismatched_endFallback (e : DirEntry) (n : Fin 12) (c : Channel) (l : LensChannel) :
    mismatched e n (endFallback c l) l = mismatched e n c l := by
  unfold endFallback; split <;> rfl

theorem endFallback_eq (c : Channel) (l : LensChannel) :
    endFallback c l =
      if c.fallback = true then
        { c with fallback := false, takeHold := if c.desc.cls = .lens then engOf l c.outPos else c.outPos }
      else c := by
  unfold endFallback; rw [holdFromOutput_eq]

/-- The state of an accepted CUE before its first read begins. -/
def cueEntered (i : Fin 32) (mark : Nat) (s : State) : State :=
  compareMaps s.store.dir[i] (s.setTake { s.take with play := cuePlay i s.store.dir[i] mark })

/-- MAP_CHANGED as a CUE sets it (R143). -/
theorem cueEntered_mapChanged (i : Fin 32) (mark : Nat) (s : State) :
    (cueEntered i mark s).take.play.mapChanged = true ↔
      ∃ n : Fin 12, mismatched s.store.dir[i] n s.cond.chans[n] s.lens[n] = true := by
  refine List.any_eq_true.trans ⟨?_, ?_⟩
  · rintro ⟨n, -, differs⟩; exact ⟨n, differs⟩
  · rintro ⟨n, differs⟩; exact ⟨n, List.mem_finRange n, differs⟩

/-- A next read that begins, or none, changes the read in progress and the next index alone (R147). -/
theorem startRead_leaves (s : State) :
    startRead s = { s with
      store := { s.store with reading := (startRead s).store.reading }
      take := { s.take with play := { s.take.play with nextRead := (startRead s).take.play.nextRead } } } := by
  by_cases active : s.take.play.active = true
  · by_cases more : readsNext s.take.play s
    · rw [startRead_begins active more]
    · rw [startRead_waits more]
  · rw [startRead_inactive (Bool.eq_false_iff.2 active)]

/-- What an accepted CUE leaves as it was, and the playback that it begins. -/
theorem beginCue_leaves (i : Fin 32) (mark : Nat) (s : State) :
    ∃ k, beginCue i mark s = { s with
      cond := (cueEntered i mark s).cond
      store := { s.store with reading := (beginCue i mark s).store.reading }
      take := { s.take with play := { cuePlay i s.store.dir[i] mark with
        mapChanged := (cueEntered i mark s).take.play.mapChanged, nextRead := k } } } :=
  ⟨_, startRead_leaves (cueEntered i mark s)⟩

/-- The first read of an accepted CUE is that of its cue record (R143). -/
theorem beginCue_reads {i : Fin 32} {mark : Nat} {s : State} (still : s.store.reading = none)
    (inside : cueRecordOf s.store.dir[i] mark < (s.store.dir[i]).length) :
    (∃ r, (beginCue i mark s).store.reading = some r ∧ r.wanted = true ∧
      r.index = cueRecordOf s.store.dir[i] mark ∧ r.header = true) ∧
    (beginCue i mark s).take.play.nextRead = cueRecordOf s.store.dir[i] mark + 1 := by
  have begins := startRead_begins (s := cueEntered i mark s) rfl ⟨still, inside, Nat.zero_lt_succ _⟩
  exact ⟨⟨_, congrArg (fun t => t.store.reading) begins, rfl, rfl, decide_eq_true (.inl rfl)⟩,
    congrArg (fun t => t.take.play.nextRead) begins⟩

/-- A channel after the comparison of the maps at a CUE (R15, R16, R143). -/
theorem cueEntered_at (i : Fin 32) (mark : Nat) (s : State) (n : Fin 12) :
    (cueEntered i mark s).cond.chans[n] =
      if mismatched s.store.dir[i] n s.cond.chans[n] s.lens[n] = true then
        { endFallback s.cond.chans[n] s.lens[n] with fallback := true, caughtState := .waiting }
      else endFallback s.cond.chans[n] s.lens[n] := by
  rw [← mismatched_endFallback]
  exact compareMaps_at _ _ n

end Sys2Proof.Machine

namespace Sys2Proof.Proofs
open Sys2Proof.Machine Sys2Proof.Claims

/-- Settles O42: RECORD refused at its first condition that fails, else its entry created and the recording armed. -/
theorem recordTaken : Obligations.RecordTaken := by
  intro tag take mask s tagged run legal synced room taken
  have legal_ : legal ↔ takeNumber take = true ∧ recordMaskOk s mask = true := by
    rw [takeNumber_iff, recordMaskOk_iff, and_assoc]
  have synced_ : synced ↔ ¬ (s.take.ref.required = true ∧ s.take.ref.sync ≠ .locked) := by
    rw [not_and_or, Bool.not_eq_true, not_not]
  have empty (i : Fin 32) : ((s.store.dir[i]).state == EntryState.empty) = true ↔ (s.store.dir[i]).state = .empty :=
    beq_iff_eq
  have taken_ : (findEntry s.store (holdsTake take.toNat)).isSome = true ↔ taken :=
    findEntry_isSome_iff.trans (exists_congr fun i => holdsTake_iff _ _)
  refine ⟨fun arming => request_refusedInArming _ tagged arming rfl, fun away => ?_, fun live normal => ?_⟩
  · rcases away with parked | ⟨live, stopped⟩
    · exact request_replied tagged (.inl (by rw [parked]; decide)) (recordBody_refusedMode (.inl parked))
    · exact request_replied tagged (.inl (by rw [live]; decide)) (recordBody_refusedMode (.inr stopped))
  have open_ : ¬ (s.mode.mode = .parked ∨ s.stop.safety ≠ .normal) := by
    rw [live, normal]; decide
  have replies {r : Result} {t : State} (effect : recordBody take mask s = (t, plain r)) : run = replied tag 0x30 r t :=
    request_replied tagged (.inl (by rw [live]; decide)) effect
  have refused {r : Result} (h : recordRefusal s take mask = some r) : run = replied tag 0x30 r s :=
    replies (recordBody_refused open_ h)
  refine ⟨fun illegal => refused (recordRefusal_illegal (mt legal_.2 illegal)), fun ok unformatted => ?_,
    fun ok formatting => ?_, fun ok ready unsynced => ?_, fun ok ready sync => ?_⟩
  · exact refused ((recordRefusal_legal (legal_.1 ok)).trans (if_pos unformatted))
  · exact refused ((recordRefusal_legal (legal_.1 ok)).trans
      ((if_neg (by rw [formatting]; decide)).trans (if_pos formatting)))
  · exact refused ((recordRefusal_legal (legal_.1 ok)).trans <| (if_neg (by rw [ready]; decide)).trans <|
      (if_neg (by rw [ready]; decide)).trans (if_pos (not_not.1 (mt synced_.2 unsynced))))
  have ready_ := recordRefusal_ready (legal_.1 ok) ready (synced_.1 sync)
  refine ⟨fun active => refused (ready_.trans (if_pos ((Recording.active_iff _).2 active))), fun idle => ?_⟩
  have still : ¬ s.take.recording.active = true := fun active => (Recording.active_iff _).1 active idle
  refine ⟨fun full => refused ?_, ?_⟩
  · refine ready_.trans ((if_neg still).trans ?_)
    by_cases none_ : (findEntry s.store fun e => e.state == .empty).isNone = true
    · exact if_pos none_
    · rw [findEntry_isNone_iff, not_not] at none_
      refine (if_neg (mt findEntry_isNone_iff.1 (not_not.2 none_))).trans (if_pos ?_)
      obtain ⟨i, here⟩ := none_
      exact not_not.1 fun free => full ⟨⟨i, (empty i).1 here⟩, free⟩
  by_cases roomy : room
  case neg => exact ⟨fun h => absurd h roomy, fun h => absurd h roomy⟩
  obtain ⟨⟨j, vacant⟩, free⟩ := roomy
  obtain ⟨i, found⟩ := Option.isSome_iff_exists.1
    ((findEntry_isSome_iff (p := fun e => e.state == .empty)).2 ⟨j, (empty j).2 vacant⟩)
  have room_ := recordRefusal_room (legal_.1 ok) ready (synced_.1 sync) idle found free
  refine ⟨fun _ held => refused (room_.trans (if_pos (taken_.2 held))), fun _ new => ?_⟩
  have fresh := room_.trans (if_neg (mt taken_.1 new))
  refine ⟨fun warn => refused (fresh.trans (if_pos warn)), fun quiet => ?_⟩
  obtain ⟨here, lowest⟩ := find?_finRange_eq_some.1 found
  refine ⟨i, (newEntry s take.toNat (maskOf mask)).mapIds, (empty i).1 here,
    fun j below vacant => Bool.eq_false_iff.1 (lowest j below) ((empty j).2 vacant), newEntry_mapIds s _ mask, ?_⟩
  rw [← newEntry_eq]
  exact replies (recordBody_accepted open_ (fresh.trans (if_neg (by rw [quiet]; decide))) found)

/-- Settles O45: CUE refused at its first condition that fails, else the playback entered, the maps compared and the read
of the cue record begun. -/
theorem cueTaken : Obligations.CueTaken := by
  intro tag take mark s tagged run legal free isTake differs
  have legal_ : legal ↔ takeNumber take = true ∧ mark.toNat ≤ 16 := by
    rw [takeNumber_iff, and_assoc]
  have free_ : free ↔ ¬ s.take.recording.active = true ∧ ¬ s.take.play.active = true := by
    rw [Recording.active_iff, Playback.active_iff, not_not, not_or, not_or]
  have complete (i : Fin 32) : completeTake take.toNat s.store.dir[i] = true ↔ isTake i := completeTake_iff _ _
  refine ⟨fun arming => request_refusedInArming _ tagged arming rfl, fun away => ?_, fun live normal => ?_⟩
  · rcases away with parked | ⟨live, stopped⟩
    · exact request_replied tagged (.inl (by rw [parked]; decide)) (cueBody_refusedMode (.inl parked))
    · exact request_replied tagged (.inl (by rw [live]; decide)) (cueBody_refusedMode (.inr stopped))
  have open_ : ¬ (s.mode.mode = .parked ∨ s.stop.safety ≠ .normal) := by
    rw [live, normal]; decide
  have replies {r : Result} {t : State} (effect : cueBody take mark s = (t, plain r)) : run = replied tag 0x34 r t :=
    request_replied tagged (.inl (by rw [live]; decide)) effect
  have refused {r : Result} (h : cueRefusal s take mark = some r) : run = replied tag 0x34 r s :=
    replies (cueBody_refused open_ h)
  refine ⟨fun illegal => refused (cueRefusal_illegal (mt legal_.2 illegal)), fun ok unformatted => ?_,
    fun ok formatting => ?_, fun ok ready busy => ?_, fun ok ready idle => ?_⟩
  · exact refused ((cueRefusal_legal (legal_.1 ok)).trans (if_pos unformatted))
  · exact refused ((cueRefusal_legal (legal_.1 ok)).trans
      ((if_neg (by rw [formatting]; decide)).trans (if_pos formatting)))
  · refine refused ((cueRefusal_ready (legal_.1 ok) ready).trans ?_)
    by_cases records : s.take.recording.active = true
    · exact if_pos records
    · exact (if_neg records).trans (if_pos (not_not.1 fun plays => busy (free_.2 ⟨records, plays⟩)))
  obtain ⟨records, plays⟩ := free_.1 idle
  have passed : cueRefusal s take mark = none :=
    (cueRefusal_ready (legal_.1 ok) ready).trans ((if_neg records).trans (if_neg plays))
  refine ⟨fun absent => replies (cueBody_absent open_ passed
    (findEntry_eq_none fun i => Bool.eq_false_iff.2 fun h => absent i ((complete i).1 h))), fun i here lowest => ?_⟩
  intro e
  have found := cueBody_found open_ passed (findEntry_eq_some ((complete i).2 here) fun j below =>
    Bool.eq_false_iff.2 fun h => lowest j below ((complete j).1 h))
  refine ⟨fun short => replies (found.trans (if_pos short)), fun long marked => ?_⟩
  have held := found.trans (if_neg (not_or.2 ⟨Nat.pos_iff_ne_zero.1 long, Nat.not_lt.2 marked⟩))
  refine ⟨fun warn => replies (held.trans (if_pos warn)), fun quiet =>
    ⟨beginCue i mark.toNat s, replies (held.trans (if_neg (by rw [quiet]; decide))), ?_⟩⟩
  have record := cueRecordOf_eq e mark
  have reads := beginCue_reads (i := i) (mark := mark.toNat) (s := s)
  have changed := cueEntered_mapChanged i mark.toNat s
  have channel := cueEntered_at i mark.toNat s
  have mismatch (n : Fin 12) : mismatched e n s.cond.chans[n] s.lens[n] = true ↔ differs e n := mismatched_iff _ _ _ _
  obtain ⟨k, whole⟩ := beginCue_leaves i mark.toNat s
  have cond : (beginCue i mark.toNat s).cond = (cueEntered i mark.toNat s).cond := by rw [whole]
  have play : (beginCue i mark.toNat s).take.play = { cuePlay i e mark.toNat with
      mapChanged := (cueEntered i mark.toNat s).take.play.mapChanged, nextRead := k } := by rw [whole]
  rw [play] at reads
  refine ⟨by rw [whole], by rw [whole], by rw [whole], ?_⟩
  intro p
  have p_ : p = _ := play
  rw [p_, cond]
  refine ⟨rfl, rfl, rfl, rfl, rfl, record, rfl, rfl, rfl, rfl, rfl, rfl, rfl, fun still inside => ?_,
    changed.trans (exists_congr mismatch), rfl, fun n => ?_⟩
  · obtain ⟨⟨r, begun, wanted, index, header⟩, next⟩ := reads still inside
    exact ⟨r, begun, wanted, index, header, next⟩
  · intro c d
    have ended : endFallback c s.lens[n] = d := endFallback_eq c s.lens[n]
    rw [channel n, ended]
    exact ⟨fun other => if_pos ((mismatch n).2 other), fun same => if_neg (mt (mismatch n).1 same)⟩

end Sys2Proof.Proofs
end

section
/-! PROOFS. The reference (R128 to R130): the placement of an outbound frame, the sync-state table row by row, what a
frame-start period begins (R134, R145), and a placement made ahead of its frame. -/

namespace Sys2Proof.Machine
open Sys2Proof.Claims

/-! ## The sync-state table -/

/-- The reference is lost at the frame in hand (R130, first row). -/
def pulsesLost (r : Reference) : Prop := r.sync ≠ .noRef ∧ 2 * r.cyclesPerFrame ≤ r.sincePulse

/-- The frame in hand starts a period with a pulse a whole video frame after the start before it (R130). -/
def goodStart (r : Reference) : Prop := r.startKind = .pulse ∧ r.distance = r.cyclesPerFrame

section
variable {r : Reference}

theorem syncUpdate_lost (lost : pulsesLost r) : syncUpdate r = ({ r with sync := .noRef, goodRun := 0 }, false) :=
  if_pos lost

theorem syncUpdate_noRef (away : r.sync = .noRef) :
    syncUpdate r = ({ r with
      sync := if r.startKind = .pulse then .measuring else .noRef
      goodRun := if r.startKind = .pulse then 0 else r.goodRun }, false) := by
  unfold syncUpdate
  rw [if_neg fun h => h.1 away, away]
  dsimp only
  by_cases pulse : r.startKind = .pulse
  · rw [if_pos pulse, if_pos pulse, if_pos pulse]
  · rw [if_neg pulse, if_neg pulse, if_neg pulse, ← away]

theorem syncUpdate_measuring_good (kept : ¬ pulsesLost r) (measuring : r.sync = .measuring) (good : goodStart r)
    (again : r.lastStart = .pulse) :
    syncUpdate r = ({ r with
      goodRun := min (r.goodRun + 1) 3, sync := if 3 ≤ r.goodRun + 1 then .locked else .measuring }, false) := by
  refine (if_neg kept).trans ?_
  rw [measuring]
  exact if_pos ⟨good.1, again, good.2⟩

theorem syncUpdate_measuring_start (kept : ¬ pulsesLost r) (measuring : r.sync = .measuring)
    (other : ¬ (goodStart r ∧ r.lastStart = .pulse)) (starts : r.startKind ≠ .none) :
    syncUpdate r = ({ r with goodRun := 0 }, false) := by
  refine (if_neg kept).trans ?_
  rw [measuring]
  exact (if_neg fun h => other ⟨⟨h.1, h.2.2⟩, h.2.1⟩).trans (if_pos starts)

theorem syncUpdate_measuring_within (kept : ¬ pulsesLost r) (measuring : r.sync = .measuring)
    (within : r.startKind = .none) : syncUpdate r = (r, false) := by
  refine (if_neg kept).trans ?_
  rw [measuring]
  exact (if_neg fun h => nomatch h.1.symm.trans within).trans (if_neg (not_not.2 within))

theorem syncUpdate_locked (kept : ¬ pulsesLost r) (locked : r.sync = .locked)
    (holds : r.startKind = .none ∨ goodStart r) : syncUpdate r = (r, false) := by
  refine (if_neg kept).trans ?_
  rw [locked]
  exact if_pos holds

theorem syncUpdate_slips (kept : ¬ pulsesLost r) (locked : r.sync = .locked)
    (slips : ¬ (r.startKind = .none ∨ goodStart r)) :
    syncUpdate r = ({ r with sync := .measuring, goodRun := 0, slips := satSucc 65535 r.slips }, true) := by
  refine (if_neg kept).trans ?_
  rw [locked]
  exact if_neg slips

/-- A slip is found where a LOCKED reference that is not lost meets the start of a period that is no good one (R130). -/
def slipFound (r : Reference) : Prop := ¬ pulsesLost r ∧ r.sync = .locked ∧ r.startKind ≠ .none ∧ ¬ goodStart r

/-- Where no slip is found, the slips stand. -/
theorem syncUpdate_keepsSlips (none_ : ¬ slipFound r) : (syncUpdate r).2 = false ∧ (syncUpdate r).1.slips = r.slips := by
  by_cases lost : pulsesLost r
  · rw [syncUpdate_lost lost]; exact ⟨rfl, rfl⟩
  cases sync : r.sync with
  | noRef => rw [syncUpdate_noRef sync]; exact ⟨rfl, rfl⟩
  | measuring =>
    by_cases good : goodStart r ∧ r.lastStart = .pulse
    · rw [syncUpdate_measuring_good lost sync good.1 good.2]; exact ⟨rfl, rfl⟩
    · by_cases within : r.startKind = .none
      · rw [syncUpdate_measuring_within lost sync within]; exact ⟨rfl, rfl⟩
      · rw [syncUpdate_measuring_start lost sync good within]; exact ⟨rfl, rfl⟩
  | locked =>
    have holds : r.startKind = .none ∨ goodStart r := by
      by_contra bad
      rw [not_or] at bad
      exact none_ ⟨lost, sync, bad⟩
    rw [syncUpdate_locked lost sync holds]; exact ⟨rfl, rfl⟩

theorem syncUpdate_found (slip : slipFound r) :
    syncUpdate r = ({ r with sync := .measuring, goodRun := 0, slips := satSucc 65535 r.slips }, true) := by
  obtain ⟨kept, locked, bad⟩ := slip
  exact syncUpdate_slips kept locked (not_or.2 bad)

end

/-- The table changes the sync state, the good-frame run and the slips alone. -/
theorem syncUpdate_leaves (r : Reference) :
    (syncUpdate r).1 = { r with
      sync := (syncUpdate r).1.sync, goodRun := (syncUpdate r).1.goodRun, slips := (syncUpdate r).1.slips } := by
  unfold syncUpdate
  split
  · rfl
  split <;> (repeat' split) <;> rfl

/-! ## The placement of a frame -/

/-- The reference counted on to the next frame, before the table of R130. -/
def countedOn (r : Reference) : Reference := placeCounts (nextStart r) r

/-- A placement counts the reference on and takes it through the table (R129, R130). -/
theorem placeReference_eq (r : Reference) :
    placeReference r =
      ({ countedOn r with
          sync := (syncUpdate (countedOn r)).1.sync, goodRun := (syncUpdate (countedOn r)).1.goodRun
          slips := (syncUpdate (countedOn r)).1.slips
          lastStart := if nextStart r = FrameStart.none then r.lastStart else nextStart r },
        (syncUpdate (countedOn r)).2) := by
  have leaves := syncUpdate_leaves (countedOn r)
  show ({ (syncUpdate (countedOn r)).1 with lastStart :=
    if (syncUpdate (countedOn r)).1.startKind = FrameStart.none then (syncUpdate (countedOn r)).1.lastStart
    else (syncUpdate (countedOn r)).1.startKind }, (syncUpdate (countedOn r)).2) = _
  generalize syncUpdate (countedOn r) = v at leaves
  rw [leaves]
  rfl

theorem nextStart_flywheel (r : Reference) :
    nextStart r = .flywheel ↔ r.pulseSeen = false ∧ r.cyclesPerFrame ≤ r.phase + 1 := by
  unfold nextStart
  cases r.pulseSeen with
  | true => exact ⟨nofun, nofun⟩
  | false =>
    by_cases whole : r.cyclesPerFrame ≤ r.phase + 1
    · simp [whole]
    · simp [whole]

/-- The frames since the latest pulse saturate at two video frames, where the reference is lost (R129, R130). -/
theorem pulsesLost_countedOn (r : Reference) :
    pulsesLost (countedOn r) ↔ r.sync ≠ .noRef ∧
      (if nextStart r = .pulse then 0 else min (r.sincePulse + 1) (2 * r.cyclesPerFrame)) = 2 * r.cyclesPerFrame := by
  refine and_congr_right fun _ => ?_
  show 2 * r.cyclesPerFrame ≤ (if nextStart r = .pulse then 0 else min (r.sincePulse + 1) (2 * r.cyclesPerFrame)) ↔ _
  split <;> omega

/-- A slip handed on (R130, R138). -/
theorem handSlip_eq (s : State) :
    handSlip s = { s with
      store :=
        if s.take.recording.state = .recording then
          withEntry s.store s.take.recording.entry { s.store.dir[s.take.recording.entry] with slipped := true }
        else s.store
      take := { s.take with
        play :=
          if s.take.play.state = .running then { s.take.play with runSlips := min (s.take.play.runSlips + 1) 65535 }
          else s.take.play } } := by
  unfold handSlip
  by_cases records : s.take.recording.state = .recording
  · rw [if_pos records, if_pos records]
    by_cases runs : s.take.play.state = .running
    · rw [if_pos runs]; exact if_pos runs
    · rw [if_neg runs]; exact if_neg runs
  · rw [if_neg records, if_neg records]
    by_cases runs : s.take.play.state = .running
    · rw [if_pos runs, if_pos runs]; rfl
    · rw [if_neg runs, if_neg runs]

theorem placeNext_eq (s : State) : placeNext s = (placedNext s, nextPlacement s.take.ref) := by
  refine Prod.ext ?_ rfl
  have handed := handSlip_eq (s.setTake { s.take with ref := (placeReference s.take.ref).1 })
  unfold placedNext
  by_cases slip : (placeReference s.take.ref).2 = true
  · simp only [slip, true_and]
    exact (if_pos slip).trans handed
  · simp only [slip]
    exact if_neg slip

/-! ## What a frame-start period begins -/

theorem triggerStarts_iff (t : TakeEngine) (timecode : Word) :
    triggerStarts t timecode = true ↔ t.play.state = .cued ∧
      ((t.trigger = .timecode ∧ timecode = t.triggerTimecode) ∨ (t.trigger = .line ∧ t.play.lineTrigger = true)) := by
  unfold triggerStarts
  rw [Bool.and_eq_true, beq_iff_eq]
  refine and_congr_right fun _ => ?_
  cases t.trigger <;> simp

/-- A frame-start period begins an armed recording (R134) and a triggered take (R145), and changes nothing else. -/
theorem frameStarts_eq (timecode : Word) (s : State) :
    frameStarts timecode s = { s with take := { s.take with
      recording :=
        if s.take.recording.state = .recordArmed then { s.take.recording with state := .recording }
        else s.take.recording
      play := if triggerStarts s.take timecode = true then (startPlay s).take.play else s.take.play } } := by
  unfold frameStarts
  by_cases armed : s.take.recording.state = .recordArmed
  · rw [if_pos armed, if_pos armed]
    by_cases starts : triggerStarts s.take timecode = true
    · rw [if_pos starts]; exact if_pos starts
    · rw [if_neg starts]; exact if_neg starts
  · rw [if_neg armed, if_neg armed]
    by_cases starts : triggerStarts s.take timecode = true
    · rw [if_pos starts, if_pos starts]; rfl
    · rw [if_neg starts, if_neg starts]

/-- A frame that starts a period leaves what the period begins, tested by the Capture Unit. -/
theorem placeOutbound_begun (request : State → State) (timecode : Word) {s : State}
    (starts : (placeFrame s).2.start ≠ .none) :
    (placeOutbound request timecode s).2 = (placeFrame s).2 ∧
    (placeOutbound request timecode s).1 = { placementBegun timecode s with
      capture := (placeOutbound request timecode s).1.capture } := by
  rw [placeOutbound_started starts]
  exact ⟨rfl, testCapture_eq _ _ _ _ _ _⟩

end Sys2Proof.Machine

namespace Sys2Proof.Proofs
open Sys2Proof.Machine Sys2Proof.Claims

/-- Settles O51: the flag is set by a pulse that holds, and stands where it is set. -/
theorem refPulseSetsFlag : Obligations.RefPulseSetsFlag := by
  refine fun held s => ⟨fun long => congrArg Host.Outcome.next (if_pos long),
    fun short => congrArg Host.Outcome.next (if_neg (by omega)), fun long seen => ?_⟩
  refine congrArg Host.Outcome.next ((if_pos long).trans ?_)
  rw [← seen]; rfl

/-- Settles O53: where the placement is due the next frame is placed and its placement kept for it. -/
theorem placedAhead : Obligations.PlacedAhead := by
  intro s i event u due pl t
  have ahead : placeAhead s = t := by
    unfold placeAhead
    rw [placeNext_eq]; rfl
  have run : exec i s = .next (if due then t else s) := by
    rw [← ahead]
    rcases event with rfl | rfl
    · refine congrArg Host.Outcome.next (if_congr ?_ rfl rfl)
      rw [nextStart_flywheel]
      exact and_congr_right fun _ => ⟨fun h => .inl ⟨rfl, h⟩, fun h => (h.resolve_right (nomatch ·.1)).2⟩
    · exact congrArg Host.Outcome.next (if_congr
        (and_congr_right fun _ => ⟨fun h => .inr ⟨rfl, h⟩, fun h => (h.resolve_left (nomatch ·.1)).2⟩) rfl rfl)
  exact ⟨fun none_ => run.trans (congrArg Host.Outcome.next (if_neg none_)),
    fun now => ⟨run.trans (congrArg Host.Outcome.next (if_pos now)), rfl, rfl⟩⟩

/-- Settles O52: the counts of a placement, the table of R130 over them, and what the placed frame begins. -/
theorem framesPlaced : Obligations.FramesPlaced := by
  refine ⟨fun s => ⟨fun none_ => ?_, fun pl some_ => ?_⟩, fun request timecode s => ?_, fun r => ?_⟩
  · unfold placeFrame; rw [none_]; exact placeNext_eq s
  · unfold placeFrame; rw [some_]; rfl
  · intro u t g p starts triggered
    by_cases within : u.2.start = .none
    · have still : t = u := placeOutbound_unstarted within
      refine ⟨congrArg Prod.snd still, fun _ => congrArg Prod.fst still, ?_⟩
      rw [if_neg fun h => h.1 within, if_neg fun h => h.1 within, still]
    · obtain ⟨placement, begun⟩ := placeOutbound_begun request timecode within
      refine ⟨placement, fun none_ => absurd within none_, ?_⟩
      have effect : placementBegun timecode s = _ := frameStarts_eq timecode u.1
      rw [effect] at begun
      have recording : (if starts ∧ g.state = .recordArmed then { g with state := .recording } else g) =
          if g.state = .recordArmed then { g with state := .recording } else g :=
        if_congr (and_iff_right within) rfl rfl
      have play : (if starts ∧ triggered then
            { p with state := .running, index := p.cueRecord, lineTrigger := false, firstFrame := true }
          else p) = if triggerStarts u.1.take timecode = true then (startPlay u.1).take.play else p :=
        if_congr ((and_iff_right within).trans (triggerStarts_iff _ _).symm) rfl rfl
      rw [recording, play]
      exact begun
  · intro n u start distance since lost good slip
    have ref := congrArg Prod.fst (placeReference_eq r)
    have slips : u.2 = (syncUpdate (countedOn r)).2 := rfl
    have sync : u.1.sync = (syncUpdate (countedOn r)).1.sync := rfl
    have run : u.1.goodRun = (syncUpdate (countedOn r)).1.goodRun := rfl
    have count : u.1.slips = (syncUpdate (countedOn r)).1.slips := rfl
    have lost_ : pulsesLost (countedOn r) ↔ lost := pulsesLost_countedOn r
    have slip_ : slipFound (countedOn r) ↔ slip := and_congr (not_congr lost_) Iff.rfl
    rw [slips, sync, run, count]
    refine ⟨congrArg Reference.startKind ref, congrArg Reference.phase ref, congrArg Reference.distance ref,
      congrArg Reference.sincePulse ref, congrArg Reference.pulseSeen ref, (congrArg Reference.cyclesPerFrame ref :),
      (congrArg Reference.required ref :), congrArg Reference.lastStart ref, ⟨fun found => ?_, fun found => ?_⟩,
      fun found => ?_, fun none_ => (syncUpdate_keepsSlips (mt slip_.1 none_)).2, fun gone => ?_,
      fun kept away => ?_, fun kept measuring => ⟨fun whole again => ?_, fun begins other => ?_, fun within => ?_⟩,
      fun kept locked holds => ?_⟩
    · by_contra none_
      rw [(syncUpdate_keepsSlips (mt slip_.1 none_)).1] at found
      cases found
    · rw [syncUpdate_found (slip_.2 found)]
    · rw [syncUpdate_found (slip_.2 found)]; exact ⟨rfl, rfl, rfl⟩
    · rw [syncUpdate_lost (lost_.2 gone)]; exact ⟨rfl, rfl⟩
    · rw [syncUpdate_noRef (r := countedOn r) away]; exact ⟨rfl, rfl⟩
    · rw [syncUpdate_measuring_good (r := countedOn r) (mt lost_.1 kept) measuring whole again]
      refine ⟨rfl, ?_⟩
      show (if 3 ≤ r.goodRun + 1 then RefSync.locked else .measuring) = _
      by_cases few : r.goodRun + 1 < 3
      · rw [if_neg (Nat.not_le.2 few), if_pos few]
      · rw [if_pos (Nat.not_lt.1 few), if_neg few]
    · rw [syncUpdate_measuring_start (r := countedOn r) (mt lost_.1 kept) measuring other begins]
      exact ⟨rfl, measuring⟩
    · rw [syncUpdate_measuring_within (r := countedOn r) (mt lost_.1 kept) measuring within]
      exact ⟨rfl, measuring⟩
    · have stands : start = .none ∨ good := by
        by_contra bad
        exact holds ⟨kept, locked, not_or.1 bad⟩
      rw [syncUpdate_locked (r := countedOn r) (mt lost_.1 kept) locked stands]
      exact ⟨locked, rfl⟩

end Sys2Proof.Proofs
end

section
/-! PROOFS. BadConsoleFrameReplaced: a console frame that is no good CYCLE frame, its error counted and its arrival timed,
and the SUBST frame in its place. -/

namespace Sys2Proof.Machine
open Sys2Proof.Claims

/-! ## A console frame taken in that is no good one -/

/-- The length and the CRC of a frame hold (R167). -/
abbrev frameWhole (bytes : List Byte) : Prop := bytes.length = 160 ∧ crc32 (bytes.take 156) = wordAt bytes 156

/-- The error that a console frame counts which is no good one: none where a code group was invalid, a SEQUENCE error
where it is whole and of another kind, a CRC error elsewhere (R167). -/
def badCounted (clean : Bool) (bytes : List Byte) (s : State) : State :=
  if clean = false then s
  else if frameWhole bytes then portError .c .sequence s
  else portError .c .crc s

/-- The blocks that an error counted on port C leaves as they were, and the receiver of the port. -/
structure PortCCounted (s u : State) : Prop where
  pending : u.pending = s.pending
  timer : u.timer = s.timer
  service : u.service = s.service
  geo : u.geo = s.geo
  zone : u.zone = s.zone
  link : u.link = { s.link with portC := u.link.portC }
  rx : u.link.portC.rx = s.link.portC.rx

theorem portError_portCCounted (k : ErrKind) {s : State} (listens : s.link.portC.rx.listening = true) :
    PortCCounted s (portError .c k s) := by
  obtain ⟨pending, timer, service, geo, zone⟩ := portError_frame .c k s
  have link := portError_link (p := .c) (k := k) listens
  exact ⟨pending, timer, service, geo, zone, by rw [link]; rfl, by rw [link]; rfl⟩

theorem badCounted_portCCounted (clean : Bool) (bytes : List Byte) {s : State}
    (listens : s.link.portC.rx.listening = true) : PortCCounted s (badCounted clean bytes s) := by
  unfold badCounted
  split
  · exact ⟨rfl, rfl, rfl, rfl, rfl, rfl, rfl⟩
  · split
    · exact portError_portCCounted .sequence listens
    · exact portError_portCCounted .crc listens

theorem classify_discarded {clean : Bool} {bytes : List Byte} (bad : ¬ goodCycle clean bytes) :
    classify kindCycle clean bytes =
      if clean = true ∧ frameWhole bytes then FrameClass.wrongKind else .bad := by
  by_cases whole : clean = true ∧ frameWhole bytes
  · obtain ⟨rfl, length, crc⟩ := whole
    have other : byteAt bytes 0 ≠ kindCycle := fun kind => bad ⟨rfl, length, crc, kind⟩
    rw [classify_whole length crc, if_neg other, if_pos ⟨rfl, length, crc⟩]
  · rw [if_neg whole]
    refine classify_broken ?_
    rwa [not_and_or, Bool.not_eq_true] at whole

/-- A console frame taken in that is no good one: its error counted, its receiver moved (R166, R167). -/
theorem takeIn_discarded {clean : Bool} {bytes : List Byte} {s : State} (listens : s.link.portC.rx.listening = true)
    (bad : ¬ goodCycle clean bytes) :
    takeIn .c (classify kindCycle clean bytes) clean s =
      setRx .c (frameTaken (decide (clean = true ∧ frameWhole bytes)) s.link.portC.rx) (badCounted clean bytes s) := by
  rw [← (badCounted_portCCounted clean bytes listens).rx, ← rxFrame_eq, classify_discarded bad]
  unfold badCounted
  cases clean with
  | false => rfl
  | true =>
    by_cases whole : frameWhole bytes
    · rw [if_pos ⟨rfl, whole⟩, if_neg nofun, if_pos whole, decide_eq_true ⟨rfl, whole⟩]; rfl
    · rw [if_neg fun h => whole h.2, if_neg nofun, if_neg whole, decide_eq_false fun h => whole h.2]; rfl

/-- The period that an arrival measures, by the arrival before it and the period that stood (R169). -/
def measuredPeriod (now : Nat) (last period : Option Nat) : Option Nat :=
  match last with
  | none => period
  | some before => if 500 ≤ now - before ∧ now - before ≤ 4000 then some (now - before) else period

theorem noteArrival_period (now : Nat) (cycle : Option Half) (l : Link) :
    (noteArrival now cycle l).period = measuredPeriod now l.lastArrival l.period := by
  unfold noteArrival measuredPeriod
  cases l.lastArrival with
  | none => rfl
  | some before => exact if_congr (periodOk_iff _) rfl rfl

/-- An arrival without a cycle number counts the expected one on (R169). -/
theorem noteArrival_missed (now : Nat) (l : Link) :
    noteArrival now none l = { l with
      period := (noteArrival now none l).period, expected := l.expected.map (· + 1), lastArrival := some now } := rfl

/-- A console frame that is no good one: an arming decision still due made, its error counted, the receiver moved and the
arrival timed, then what R171 originates in its place. -/
theorem consoleFrame_bad {clean : Bool} {bytes : List Byte} {s : State} (listens : s.link.portC.rx.listening = true)
    (bad : ¬ goodCycle clean bytes) :
    let u := setRx .c (frameTaken (decide (clean = true ∧ frameWhole bytes)) s.link.portC.rx)
      (badCounted clean bytes (settleDecision s))
    consoleFrame clean bytes s = badConsole (u.setLink (noteArrival u.timer none u.link)) := by
  have link : (settleDecision s).link = s.link := (settleDecision_frame s).2.2.1
  have taken := takeIn_discarded (s := settleDecision s) (by rw [link]; exact listens) bad
  rw [link] at taken
  have other : classify kindCycle clean bytes ≠ .good := by
    rw [classify_discarded bad]; split <;> decide
  unfold consoleFrame
  dsimp only
  rw [if_neg other, taken]

end Sys2Proof.Machine

namespace Sys2Proof.Proofs
open Sys2Proof.Machine Sys2Proof.Claims

/-- Settles O36: the error counted and the arrival timed, then one SUBST frame, or none while the console is absent. -/
theorem badConsoleFrameReplaced : Obligations.BadConsoleFrameReplaced := by
  refine fun elapsed clean bytes s => ⟨fun deaf => congrArg Host.Outcome.next (if_neg ?_), fun synced bad => ?_⟩
  · exact fun listens => bne_iff_ne.1 listens deaf
  intro now whole decided counted port period arrived
  have listens : s.link.portC.rx.listening = true := bne_iff_ne.2 synced
  obtain ⟨pending, timer, link, service, zone, -⟩ := settleDecision_frame { s with timer := now }
  have geo := settleDecision_geo { s with timer := now }
  have count : badCounted clean bytes decided = counted := rfl
  have kept : PortCCounted decided counted := count ▸ badCounted_portCCounted clean bytes (by rw [link]; exact listens)
  have clink : counted.link = { s.link with portC := counted.link.portC } :=
    kept.link.trans (congrArg (fun l : Link => { l with portC := counted.link.portC }) link)
  have alink : arrived.link = { s.link with
      portC := port, period := period, lastArrival := some now, expected := s.link.expected.map (· + 1) } :=
    congrArg (fun l : Link => { l with
      portC := port, period := period, lastArrival := some now, expected := s.link.expected.map (· + 1) }) clink
  have ageo : arrived.geo = { s.geo with reference := arrived.geo.reference } := kept.geo ▸ geo
  have atimer : arrived.timer = now := kept.timer.trans timer
  have timed : (noteArrival counted.timer none { counted.link with portC := port }).period = period := by
    have last : counted.link.lastArrival = s.link.lastArrival := by rw [clink]
    have before : counted.link.period = s.link.period := by rw [clink]
    rw [noteArrival_period, show counted.timer = now from atimer]
    show measuredPeriod now counted.link.lastArrival counted.link.period = period
    rw [last, before]
    rfl
  have heard : noteArrival counted.timer none { counted.link with portC := port } = arrived.link := by
    have expected : counted.link.expected = s.link.expected := by rw [clink]
    rw [noteArrival_missed, timed, show counted.timer = now from atimer]
    dsimp only
    rw [expected]
  have run : exec (.consoleFrameArrival elapsed clean bytes) s = .next (badConsole arrived) :=
    congrArg Host.Outcome.next ((if_pos listens).trans
      ((consoleFrame_bad (s := { s with timer := now }) listens bad).trans
        (congrArg (fun l => badConsole (counted.setLink l)) heard)))
  have timecode : latestTimecode arrived = latestTimecode s := by unfold latestTimecode; rw [alink]
  by_cases absent : s.link.consoleAbsent = true
  · have stays : badConsole arrived = arrived := if_pos ((congrArg Link.consoleAbsent alink).trans absent)
    exact ⟨arrived, run.trans (congrArg Host.Outcome.next stays), kept.pending.trans pending, kept.timer.trans timer,
      kept.zone.trans zone, ageo, fun _ => ⟨rfl, kept.service.trans service, alink⟩,
      fun present => absurd absent (by rw [present]; decide)⟩
  · have replaced : badConsole arrived = originateSubst arrived :=
      if_neg fun h => absent ((congrArg Link.consoleAbsent alink).symm.trans h)
    obtain ⟨f, queued, kind, -, cycle, stamp, reply, code, flags, number, stamped, tag, slots⟩ :=
      originateSubst_queues arrived
    obtain ⟨pending', timer', geo', zone'⟩ := originateSubst_frame arrived
    rw [alink] at queued number slots
    rw [atimer] at queued
    refine ⟨originateSubst arrived, run.trans (congrArg Host.Outcome.next replaced),
      pending'.trans (kept.pending.trans pending), timer'.trans atimer, zone'.trans (kept.zone.trans zone),
      by rw [geo']; exact ageo, fun h => absurd h absent, fun _ => ⟨rfl, originateSubst_originated arrived, ?_, f, queued,
        kind, cycle, reply, code, flags, stamp.trans timecode, stamped.trans timecode, tag, number, slots⟩⟩
    rw [originateSubst_service]
    exact congrArg (fun u : ServiceUnit => { u with reply := none }) (kept.service.trans service)

end Sys2Proof.Proofs
end

section
/-! PROOFS. Entries lost (R173, R176, R177): a controlled cause is taken alike whatever the timer, the in-flight list
and the stall windows hold; what one loss leaves, and what several leave. -/

namespace Sys2Proof.Machine
open Sys2Proof.Claims

/-! ## What a controlled cause reads -/

/-- Two states are alike in all that a controlled cause reads or writes: of a lens channel that is its active map, of
the link the part counter and the latest good console frame. -/
structure CauseAlike (s t : State) : Prop where
  pins : t.pins = s.pins
  mode : t.mode = s.mode
  cond : t.cond = s.cond
  geo : t.geo = s.geo
  zone : t.zone = s.zone
  stop : t.stop = s.stop
  store : t.store = s.store
  take : t.take = s.take
  capture : t.capture = s.capture
  maps : ∀ n : Fin 12, (t.lens[n]).active = (s.lens[n]).active
  part : t.link.part = s.link.part
  lastGood : t.link.lastGood = s.link.lastGood

theorem CauseAlike.refl (s : State) : CauseAlike s s :=
  ⟨rfl, rfl, rfl, rfl, rfl, rfl, rfl, rfl, rfl, fun _ => rfl, rfl, rfl⟩

theorem CauseAlike.trans {s t u : State} (h : CauseAlike s t) (g : CauseAlike t u) : CauseAlike s u where
  pins := g.pins.trans h.pins
  mode := g.mode.trans h.mode
  cond := g.cond.trans h.cond
  geo := g.geo.trans h.geo
  zone := g.zone.trans h.zone
  stop := g.stop.trans h.stop
  store := g.store.trans h.store
  take := g.take.trans h.take
  capture := g.capture.trans h.capture
  maps n := (g.maps n).trans (h.maps n)
  part := g.part.trans h.part
  lastGood := g.lastGood.trans h.lastGood

theorem setLink_causeAlike {l : Link} {s : State} (part : l.part = s.link.part)
    (lastGood : l.lastGood = s.link.lastGood) : CauseAlike s (s.setLink l) :=
  ⟨rfl, rfl, rfl, rfl, rfl, rfl, rfl, rfl, rfl, fun _ => rfl, part, lastGood⟩

theorem setTimer_causeAlike (now : Nat) (s : State) : CauseAlike s (s.setTimer now) :=
  ⟨rfl, rfl, rfl, rfl, rfl, rfl, rfl, rfl, rfl, fun _ => rfl, rfl, rfl⟩

/-- A take hold set from the output reads the active map of its lens and nothing else of it (R15). -/
theorem heldTake_congr (c : Channel) {l m : LensChannel} (active : m.active = l.active) :
    heldTake c m = heldTake c l := by
  unfold heldTake holdFromOutput engOf
  rw [active]

/-- A stop begins alike in states that are alike. -/
theorem stopBegins_causeAlike {s t : State} (h : CauseAlike s t) : CauseAlike (stopBegins s) (stopBegins t) := by
  obtain ⟨-, -, pins, link, -, mode, geo, zone, stop, lens, capture⟩ := stopBegins_frame s
  obtain ⟨-, -, pins', link', -, mode', geo', zone', stop', lens', capture'⟩ := stopBegins_frame t
  refine ⟨?_, ?_, Conditioner.ext_at (fun n => ?_) ?_, ?_, ?_, ?_, ?_, ?_, ?_, fun n => ?_, ?_, ?_⟩
  · rw [pins', pins, h.pins]
  · rw [mode', mode, h.mode]
  · rw [stopBegins_at, stopBegins_at, h.cond, h.take, heldTake_congr _ (h.maps n)]
  · rw [stopBegins_resumeCatch, stopBegins_resumeCatch, h.cond]
  · rw [geo', geo, h.geo]
  · rw [zone', zone, h.zone]
  · rw [stop', stop, h.stop]
  · rw [stopBegins_store, stopBegins_store, h.take, h.store]
  · rw [stopBegins_take, stopBegins_take, h.take]
  · rw [capture', capture, h.capture]
  · rw [lens', lens]; exact h.maps n
  · rw [link', link, h.part]
  · rw [link', link, h.lastGood]

theorem enterStopping_causeAlike (n : CauseName) {s t : State} (h : CauseAlike s t) :
    CauseAlike (enterStopping n s) (enterStopping n t) :=
  stopBegins_causeAlike { h with
    stop := congrArg (fun u : StopController =>
      { u with safety := .stopping, stopTimer := 0, softStop := n == CauseName.gripReleased }) h.stop }

theorem laterSoft_causeAlike (n : CauseName) {s t : State} (h : CauseAlike s t) :
    CauseAlike (laterSoft n s) (laterSoft n t) := by
  unfold laterSoft
  split
  · exact h
  · exact { h with stop := congrArg (fun u : StopController => { u with softStop := false }) h.stop }

theorem causeNoted_causeAlike (c : Cause) {s t : State} (h : CauseAlike s t) :
    CauseAlike (causeNoted c s) (causeNoted c t) := by
  have stamp : latestTimecode t = latestTimecode s := by unfold latestTimecode; rw [h.lastGood]
  have taken : snapshotNow t = snapshotNow s := by unfold snapshotNow; rw [h.cond, h.geo, h.zone]
  have entered : faultEntered c t = faultEntered c s := by
    unfold faultEntered; rw [h.stop, h.mode, h.part, stamp, taken]
  have handed : (handCause c t).capture = (handCause c s).capture := by
    unfold handCause
    rw [← latestTimecode_eq, ← latestTimecode_eq, h.take, h.part, stamp]
    exact testCapture_congr _ _ _ _ _ h.cond h.geo (congrArg ZoneMonitor.scale h.zone) h.take h.capture
  exact { h with
    stop := show { t.stop with fault := some (faultEntered c t) } = _ by rw [entered, h.stop]; rfl
    capture := handed }

/-- A controlled cause ends no arming (R65). -/
theorem abortByCause_controlled {c : Cause} (controlled : c.name.cls = .c) (s : State) : abortByCause c s = s := by
  unfold abortByCause
  cases name : c.name
  case followingError | driveFault | estopChain | zoneTableCorrupt => rw [name] at controlled; cases controlled
  all_goals rfl

/-- A controlled cause is taken alike in states that are alike. -/
theorem takeCause_causeAlike {c : Cause} (controlled : c.name.cls = .c) {s t : State} (h : CauseAlike s t) :
    CauseAlike (takeCause c s) (takeCause c t) := by
  have noted := causeNoted_causeAlike c h
  cases mode : s.mode.mode with
  | parked => rw [takeCause_parked c mode, takeCause_parked c (by rw [h.mode]; exact mode)]; exact h
  | arming =>
    rw [takeCause_arming c mode, takeCause_arming c (by rw [h.mode]; exact mode), abortByCause_controlled controlled,
      abortByCause_controlled controlled]
    exact noted
  | live =>
    have mode' : t.mode.mode = .live := by rw [h.mode]; exact mode
    have same : t.stop.safety = s.stop.safety := congrArg StopController.safety h.stop
    cases safety : s.stop.safety with
    | normal =>
      rw [takeCause_controlled mode controlled safety, takeCause_controlled mode' controlled (same.trans safety)]
      exact enterStopping_causeAlike _ noted
    | stopping | held =>
      have later : s.stop.safety = .stopping ∨ s.stop.safety = .held := by rw [safety]; simp
      rw [takeCause_later mode controlled later, takeCause_later mode' controlled (by rw [same]; exact later)]
      exact laterSoft_causeAlike _ noted
    | dropped =>
      rw [takeCause_dropped c mode safety, takeCause_dropped c mode' (same.trans safety)]
      exact noted

/-! ## Losses counted -/

/-- The third loss in a row is among the next n (R176). -/
def thirdAmong (n : Nat) (l : Link) : Bool := decide (l.lossCount < 3 ∧ 3 ≤ l.lossCount + n)

/-- FEEDBACK_LOST raised where the third loss in a row is among the next n (R176). -/
def lossRaised (n : Nat) (s : State) : State :=
  if thirdAmong n s.link then takeCause (plainCause .feedbackLost) s else s

theorem lossRaised_third {n : Nat} {s : State} (third : s.link.lossCount < 3 ∧ 3 ≤ s.link.lossCount + n) :
    lossRaised n s = takeCause (plainCause .feedbackLost) s := if_pos (decide_eq_true third)

theorem lossRaised_other {n : Nat} {s : State} (other : ¬ (s.link.lossCount < 3 ∧ 3 ≤ s.link.lossCount + n)) :
    lossRaised n s = s := if_neg fun third => other (of_decide_eq_true third)

theorem lossRaised_causeAlike {m n : Nat} {s t : State} (h : CauseAlike s t)
    (count : thirdAmong n t.link = thirdAmong m s.link) : CauseAlike (lossRaised m s) (lossRaised n t) := by
  unfold lossRaised
  rw [count]
  split
  · exact takeCause_causeAlike rfl h
  · exact h

theorem thirdAmong_one (l : Link) : thirdAmong 1 l = decide (l.lossCount = 2) :=
  decide_eq_decide.2 (by omega)

/-- What the loss of n entries leaves in the counters, and which cause it raises (R176). -/
structure LossesCounted (n : Nat) (s t : State) : Prop where
  lossCount : t.link.lossCount = min (s.link.lossCount + n) 255
  feedbackLost : t.link.feedbackLost = (s.link.feedbackLost || thirdAmong n s.link)
  totalLost : t.link.totalLost = min (s.link.totalLost + n) 65535
  armingLoss : t.link.armingLoss = true
  raised : CauseAlike (lossRaised n s) t

/-- The third loss in a row is among the first m losses or among the n after them. -/
theorem thirdAmong_add {m n : Nat} {k l : Link} (counted : l.lossCount = min (k.lossCount + m) 255) :
    thirdAmong (m + n) k = (thirdAmong m k || thirdAmong n l) := by
  unfold thirdAmong
  rw [counted, ← Bool.decide_or]
  exact decide_eq_decide.2 (by omega)

/-- After a third loss in a row none of the later losses is one. -/
theorem thirdAmong_once {m n : Nat} {k l : Link} (counted : l.lossCount = min (k.lossCount + m) 255)
    (third : thirdAmong m k = true) : thirdAmong n l = false := by
  unfold thirdAmong at *
  rw [decide_eq_true_eq] at third
  rw [counted]
  exact decide_eq_false (by omega)

theorem LossesCounted.trans {m n : Nat} {s t u : State} (h : LossesCounted m s t) (g : LossesCounted n t u) :
    LossesCounted (m + n) s u where
  lossCount := by rw [g.lossCount, h.lossCount]; omega
  feedbackLost := by rw [g.feedbackLost, h.feedbackLost, thirdAmong_add h.lossCount, Bool.or_assoc]
  totalLost := by rw [g.totalLost, h.totalLost]; omega
  armingLoss := g.armingLoss
  raised := by
    have first := h.raised
    have second := g.raised
    have all := thirdAmong_add (n := n) h.lossCount
    cases third : thirdAmong m s.link with
    | true =>
      have once := thirdAmong_once (n := n) h.lossCount third
      rw [third, Bool.true_or] at all
      unfold lossRaised at *
      rw [all]
      rw [third] at first
      rw [once] at second
      exact first.trans second
    | false =>
      rw [third, Bool.false_or] at all
      have quiet : lossRaised m s = s := if_neg (by rw [third]; nofun)
      rw [quiet] at first
      exact (lossRaised_causeAlike first all.symm).trans second

/-! ## One loss and several -/

theorem lossTaken_causeAlike (s : State) : CauseAlike (lossRaised 1 s) (lossTaken s) := by
  have counted : CauseAlike s (s.setLink (lossCounted s.link)) := setLink_causeAlike rfl rfl
  unfold lossTaken
  by_cases third : s.link.lossCount + 1 = 3
  · rw [lossRaised_third (by omega), if_pos third]
    exact takeCause_causeAlike rfl counted
  · rw [lossRaised_other (by omega), if_neg third]
    exact counted

theorem emptyWindow_active (l : LensChannel) : (emptyWindow l).active = l.active := by
  unfold emptyWindow
  split <;> rfl

theorem mapAllLens_causeAlike {f : Fin 12 → LensChannel → LensChannel} (maps : ∀ n l, (f n l).active = l.active)
    (s : State) : CauseAlike s (s.mapAllLens f) :=
  ⟨rfl, rfl, rfl, rfl, rfl, rfl, rfl, rfl, rfl,
    fun n => (congrArg LensChannel.active (State.mapAllLens_at s f n)).trans (maps n _), rfl, rfl⟩

theorem afterLoss_causeAlike (e : InFlight) (s : State) : CauseAlike (lossRaised 1 s) (afterLoss e s) := by
  have taken := lossTaken_causeAlike s
  rw [afterLoss_eq]
  generalize lossTaken s = u at taken ⊢
  have noted : CauseAlike u (u.setLink (lossNoted u.link)) := setLink_causeAlike rfl rfl
  have emptied := mapAllLens_causeAlike (fun _ l => emptyWindow_active l) (u.setLink (lossNoted u.link))
  exact ((taken.trans noted).trans emptied).trans (setLink_causeAlike rfl rfl)

/-- The oldest entry removed as LOST: the list without it, the loss counted, its constructed return sent with the
tracking record of the state it leaves (R155, R176, R177). -/
theorem loseOldest_answers {s : State} {e : InFlight} {rest : List InFlight} (list : s.link.inFlight = e :: rest) :
    LossesCounted 1 s (loseOldest s) ∧ (∀ n : Fin 12, (loseOldest s).lens[n] = windowEmptied s.lens[n]) ∧ ∃ f,
    (loseOldest s).link = { s.link with
      inFlight := rest, lossCount := min (s.link.lossCount + 1) 255
      feedbackLost := s.link.feedbackLost || s.link.lossCount == 2
      totalLost := min (s.link.totalLost + 1) 65535, armingLoss := true, sentC := s.link.sentC ++ [f] } ∧
    staleReturn s.link.offset e f ∧
    tracks (loseOldest s).capture.embed (trackedFields e (loseOldest s)) f.tracking := by
  have removed : CauseAlike s (s.setLink { s.link with inFlight := rest }) := setLink_causeAlike rfl rfl
  have oldest : loseOldest s = afterLoss e (s.setLink { s.link with inFlight := rest }) := by
    unfold loseOldest; rw [list]
  obtain ⟨-, -, -, lens, -, -, -⟩ := afterLoss_taken e (s.setLink { s.link with inFlight := rest })
  have alike := (lossRaised_causeAlike (n := 1) removed rfl).trans (afterLoss_causeAlike e _)
  obtain ⟨-, -, -, -, -, -, link⟩ := lossTaken_passes (s.setLink { s.link with inFlight := rest })
  rw [← oldest] at lens alike
  rw [afterLoss_eq] at oldest
  generalize lossTaken (s.setLink { s.link with inFlight := rest }) = u at *
  obtain ⟨f, sent, stale, tracked⟩ :=
    sendConstructed_link e ((u.setLink (lossNoted u.link)).mapAllLens fun _ l => emptyWindow l)
  rw [(State.mapAllLens_frame _ _).2.2.2.1] at sent stale
  have third : decide (s.link.lossCount + 1 = 3) = (s.link.lossCount == 2) := by
    rw [beq_eq_decide]; exact decide_eq_decide.2 (by omega)
  have left : (loseOldest s).link = { s.link with
      inFlight := rest, lossCount := min (s.link.lossCount + 1) 255
      feedbackLost := s.link.feedbackLost || s.link.lossCount == 2
      totalLost := min (s.link.totalLost + 1) 65535, armingLoss := true, sentC := s.link.sentC ++ [f] } := by
    rw [oldest, sent, ← third]
    show { lossNoted u.link with sentC := (lossNoted u.link).sentC ++ [f] } = _
    rw [link]; rfl
  have offset : u.link.offset = s.link.offset := by rw [link]; rfl
  refine ⟨⟨?_, ?_, ?_, ?_, alike⟩, lens, f, left, ?_, ?_⟩
  · rw [left]
  · rw [left, thirdAmong_one]; rfl
  · rw [left]
  · rw [left]
  · exact offset ▸ stale
  · rw [oldest]; exact tracked

/-- Entries removed one after the other: every loss counted (R176). -/
theorem loseEntries_counted (ahead : List InFlight) {e : InFlight} {tail : List InFlight} {s : State}
    (list : s.link.inFlight = e :: ahead ++ tail) :
    LossesCounted (ahead.length + 1) s (loseEntries (ahead.length + 1) s) := by
  have first := (loseOldest_answers (s := s) (rest := ahead ++ tail) list).1
  induction ahead generalizing e s with
  | nil => exact first
  | cons a ahead ih =>
    have next : (loseOldest s).link.inFlight = a :: ahead ++ tail := by rw [loseOldest_inFlight, list]; rfl
    have both := first.trans (ih next (loseOldest_answers (rest := ahead ++ tail) next).1)
    rw [Nat.add_comm] at both
    exact both

/-- A cause taken in use fills an empty fault record (R85). -/
theorem takeCause_fillsRecord (c : Cause) {s : State} (used : s.mode.mode ≠ .parked) (empty : s.stop.fault = none) :
    ∃ r, (takeCause c s).stop.fault = some r ∧ r.cause = c := by
  refine ⟨_, Proofs.noted_fault c used, ?_⟩
  unfold faultEntered
  rw [empty]

/-- Entries removed one after the other: the list without them, every loss counted, a constructed return sent for each
in their order, and the stall windows emptied (R176, R177). -/
theorem loseEntries_answers {e : InFlight} {ahead tail : List InFlight} {s : State}
    (list : s.link.inFlight = e :: ahead ++ tail) :
    (∀ n : Fin 12, (loseEntries (e :: ahead).length s).lens[n] = windowEmptied s.lens[n]) ∧
    ∃ lost, List.Forall₂ (staleReturn s.link.offset) (e :: ahead) lost ∧
      CauseAlike (lossRaised lost.length s) (loseEntries (e :: ahead).length s) ∧
      (loseEntries (e :: ahead).length s).link = { s.link with
        inFlight := tail, lossCount := min (s.link.lossCount + lost.length) 255
        feedbackLost := s.link.feedbackLost || thirdAmong lost.length s.link
        totalLost := min (s.link.totalLost + lost.length) 65535, armingLoss := true
        sentC := s.link.sentC ++ lost } := by
  have taken := loseEntries_taken (e :: ahead) list
  have counted := loseEntries_counted ahead list
  rw [← List.length_cons (a := e)] at counted
  obtain ⟨lost, link, stales⟩ := taken.link
  refine ⟨fun n => (taken.lens n).trans (if_neg (List.cons_ne_nil _ _)), lost, stales, ?_, ?_⟩
  · rw [← stales.length_eq]; exact counted.raised
  · rw [link, counted.lossCount, counted.feedbackLost, counted.totalLost, counted.armingLoss, stales.length_eq]

/-! ## Entries that time out -/

theorem execReturnTimeout_idle {s : State} (empty : s.link.inFlight = []) : execReturnTimeout s = .next s := by
  unfold execReturnTimeout; rw [empty]

theorem execFeedbackLost_idle {s : State} (empty : s.link.inFlight = []) : execFeedbackLost s = .next s := by
  unfold execFeedbackLost; rw [empty]

theorem execReturnTimeout_flying {s : State} {e : InFlight} {rest : List InFlight}
    (list : s.link.inFlight = e :: rest) :
    execReturnTimeout s = .next (expireEntries (timeAt (oldestDeadline s.link e) s)) := by
  unfold execReturnTimeout; rw [list]

theorem execFeedbackLost_flying {s : State} {e : InFlight} {rest : List InFlight}
    (list : s.link.inFlight = e :: rest) :
    execFeedbackLost s =
      .next (if s.link.lossCount = 2 then loseOldest (timeAt (oldestDeadline s.link e) s) else s) := by
  unfold execFeedbackLost; rw [list]

/-! ## The next frame starts its transmission -/

/-- The frame at the head of port D's queue on its way, its entry not yet in the list (R165). -/
def frameStarted (o : OutFrame) (rest : List OutFrame) (s : State) : State :=
  s.setLink { s.link with readyD := rest, sentD := s.link.sentD ++ [o.frame] }

/-- An entry appended to the in-flight list (R173). -/
def entryAppended (e : InFlight) (s : State) : State := s.setLink { s.link with inFlight := s.link.inFlight ++ [e] }

theorem sendNext_idle {s : State} (empty : s.link.readyD = []) : sendNext s = s := by
  unfold sendNext; rw [empty]

theorem sendNext_fits {s : State} {o : OutFrame} {rest : List OutFrame} (queue : s.link.readyD = o :: rest)
    (room : s.link.inFlight.length < 4) : sendNext s = entryAppended (entryOf o s.timer) (frameStarted o rest s) := by
  have fits : ¬ 4 ≤ (frameStarted o rest s).link.inFlight.length := Nat.not_le.2 room
  unfold sendNext
  rw [queue]
  exact congrArg (fun u : State => entryAppended (entryOf o u.timer) u) (if_neg fits)

theorem sendNext_full {s : State} {o : OutFrame} {rest : List OutFrame} (queue : s.link.readyD = o :: rest)
    (full : 4 ≤ s.link.inFlight.length) :
    sendNext s = entryAppended (entryOf o s.timer) (loseOldest (frameStarted o rest s)) := by
  have crowded : 4 ≤ (frameStarted o rest s).link.inFlight.length := full
  have timer : (loseOldest (frameStarted o rest s)).timer = s.timer := (loseOldest_frame _).2.1
  unfold sendNext
  rw [queue, ← timer]
  exact congrArg (fun u : State => entryAppended (entryOf o u.timer) u) (if_pos crowded)

end Sys2Proof.Machine

namespace Sys2Proof.Proofs
open Sys2Proof.Machine Sys2Proof.Claims

/-- Settles O38: the entry is appended to a list with room; a full list first loses its oldest entry. -/
theorem frameSentEntersList : Obligations.FrameSentEntersList := by
  refine fun elapsed s => ⟨fun empty => congrArg Host.Outcome.next (sendNext_idle empty), fun o rest queue => ?_⟩
  refine ⟨entryOf o (s.timer + elapsed), rfl, rfl, rfl, rfl, rfl, rfl, rfl, rfl, fun n => Vector.getElem_ofFn _,
    fun room => congrArg Host.Outcome.next (sendNext_fits queue room), fun a left list full => ?_⟩
  have run : exec (.outboundFrameSent elapsed) s = .next (sendNext (advance elapsed s)) := rfl
  rw [run, sendNext_full (s := advance elapsed s) queue full]
  set started := frameStarted o rest (advance elapsed s)
  have alike : CauseAlike s started := (setTimer_causeAlike _ s).trans (setLink_causeAlike rfl rfl)
  obtain ⟨pending, timer, service, geo, zone⟩ := loseOldest_frame started
  obtain ⟨counted, lens, f, link, stale, tracked⟩ := loseOldest_answers (s := started) list
  have raised := (lossRaised_causeAlike (n := 1) alike rfl).trans counted.raised
  refine ⟨_, f, rfl, timer, pending, service, geo, zone, ?_, stale, tracked, lens, fun other => ?_, fun third => ?_⟩
  · exact congrArg (fun l : Link => { l with inFlight := l.inFlight ++ [entryOf o (s.timer + elapsed)] }) link
  · rw [lossRaised_other (by omega)] at raised
    exact ⟨raised.stop, raised.pins, raised.take, raised.store, raised.cond, raised.capture⟩
  · rw [lossRaised_third (by omega)] at raised
    refine ⟨raised.stop, raised.pins, raised.take, raised.store, raised.cond, raised.capture, fun live empty => ?_⟩
    obtain ⟨r, entered, named⟩ := takeCause_fillsRecord (plainCause .feedbackLost) (by rw [live]; decide) empty
    exact ⟨r, (congrArg StopController.fault raised.stop).trans entered, congrArg Cause.name named⟩

/-- Settles O41: the entries as old as the return timeout form the front of the list, the oldest among them. -/
theorem entriesTimeOut : Obligations.EntriesTimeOut := by
  intro s cause
  refine ⟨fun empty => ⟨execReturnTimeout_idle empty, execFeedbackLost_idle empty⟩, fun e rest list => ?_⟩
  intro now old
  set timed := timeAt (oldestDeadline s.link e) s
  have alike : CauseAlike s timed := setTimer_causeAlike _ s
  have losses : exec .feedbackLost s = .next (if s.link.lossCount = 2 then loseOldest timed else s) :=
    execFeedbackLost_flying list
  refine ⟨?_, fun other => ?_, fun third => ?_⟩
  · have oldest : old e = true := decide_eq_true (Nat.le_max_right _ _)
    have front : s.link.inFlight.takeWhile old = e :: rest.takeWhile old := by
      rw [list, List.takeWhile_cons_of_pos oldest]
    have back : s.link.inFlight.dropWhile old = rest.dropWhile old := by
      rw [list, List.dropWhile_cons_of_pos oldest]
    have run : exec .returnTimeout s = .next (loseEntries (e :: rest.takeWhile old).length timed) := by
      rw [← front]; exact execReturnTimeout_flying list
    have parts : timed.link.inFlight = e :: rest.takeWhile old ++ rest.dropWhile old := by
      rw [List.cons_append, List.takeWhile_append_dropWhile]; exact list
    obtain ⟨pending, timer, service, geo, zone⟩ := loseEntries_frame (e :: rest.takeWhile old).length timed
    obtain ⟨lens, lost, stales, answered, link⟩ := loseEntries_answers parts
    have raised := (lossRaised_causeAlike (n := lost.length) alike rfl).trans answered
    rw [front, back]
    refine ⟨_, lost, run, pending, timer, service, geo, zone, ?_, stales,
      ⟨?_, fun third => ?_, fun other => ?_⟩, lens⟩
    · rw [link]; exact List.length_dropWhile_le _ _
    · rw [link]; rfl
    · rw [lossRaised_third third] at raised
      exact ⟨raised.stop, raised.pins, raised.take, raised.store, raised.cond⟩
    · rw [lossRaised_other other] at raised
      exact ⟨raised.stop, raised.pins, raised.take, raised.store, raised.cond⟩
  · rw [losses, if_neg other]
  · obtain ⟨pending, timer, service, geo, zone⟩ := loseOldest_frame timed
    obtain ⟨counted, lens, f, link, stale, tracked⟩ := loseOldest_answers (s := timed) list
    have raised := (lossRaised_causeAlike (n := 1) alike rfl).trans counted.raised
    rw [lossRaised_third (by omega)] at raised
    have count : timed.link.lossCount = 2 := third
    rw [losses, if_pos third]
    refine ⟨_, f, rfl, pending, timer, service, geo, zone, ?_, stale, tracked, raised.stop, lens,
      fun live empty => ?_⟩
    · rw [link, count]
      simp only [BEq.rfl, Bool.or_true]
      rfl
    · obtain ⟨r, entered, named⟩ := takeCause_fillsRecord (plainCause .feedbackLost) (by rw [live]; decide) empty
      exact ⟨r, (congrArg StopController.fault raised.stop).trans entered, congrArg Cause.name named⟩

end Sys2Proof.Proofs
end
